-- ==== Sys2Proof/Word.lean ====
section
/-! DEFINITION. The byte of the KP2448's two links, and the bounded index of a door. -/

namespace Sys2Proof

/-- One byte of the host link or of a door link (R162, R74). -/
abbrev Byte := BitVec 8

/-- A door index within a face: every face has 24 door records (R75). -/
abbrev DoorIx := Fin 24

/-- A byte from the low eight bits of a number. -/
def byteOf (n : Nat) : Byte := BitVec.ofNat 8 n

end Sys2Proof
end

