-- ==== Sys2Proof/Syntax.lean ====
section
/-! DEFINITION. The commands of the KP2448: one constructor per row of spec/opcode_table.json, in its order. -/

namespace Sys2Proof

/-- The two faces of the island platform (R1). -/
inductive Face where
  | A | B
  deriving DecidableEq, Repr

/-- The two axle sensors of a berth (R17). -/
inductive AxleSensor where
  | entry | exit
  deriving DecidableEq, Repr

/-- The two gap end beams of a face (R126): at the head end and at the tail end. -/
inductive EndBeam where
  | head | tail
  deriving DecidableEq, Repr

/-- The two fire inputs of the part (R139). -/
inductive FireInput where
  | fireIn | fireReset
  deriving DecidableEq, Repr

/-- The levels of the strap pins, as a reset samples them (Straps and Pins table of 00_scope.md). -/
structure Straps where
  /-- FACES: set when the strap reads 2 faces. -/
  twoFaces : Bool
  /-- HOST_RATE code 0 to 3, in the order of the table's rates. -/
  hostRate : Fin 4
  /-- LINK_RATE: clear for 500 kbit/s, set for 1 Mbit/s. -/
  linkFast : Bool
  deriving DecidableEq, Repr

/-- One level of each of a face's six panel inputs, set when ACTIVE (R148). -/
structure PanelLevels where
  localReq : Bool
  pOpen : Bool
  pClose : Bool
  pAll : Bool
  proofBypass : Bool
  gapBypass : Bool
  deriving DecidableEq, Repr

/-- The raw levels of the first 1 ms sample after a reset (R139, R148). -/
structure ResetSample where
  panelA : PanelLevels
  panelB : PanelLevels
  fireIn : Bool
  fireReset : Bool
  deriving DecidableEq, Repr

/-- The raw levels of a face's first sample after a geometry load (R18, R24, R126): set when covered,
occupied or blocked. -/
structure TrackSample where
  entryS1 : Bool
  entryS2 : Bool
  exitS1 : Bool
  exitS2 : Bool
  detectors : Vector Bool 16
  headBeam : Bool
  tailBeam : Bool
  deriving DecidableEq, Repr

/-- The commands. A host request carries the TAG and the PAYLOAD bytes of its frame (R165); its KIND is the
command's own. A sensor command carries ONE sample of its input: the row's event is the sample at which the
filter's run reaches its count (assumption 5). -/
inductive Instr where
  /-- POWER_ON (R172), with the strap levels the reset samples. -/
  | powerOn (straps : Straps)
  /-- RESET_PIN (R172). -/
  | resetPin (straps : Straps)
  /-- REQUEST_RESET (R168): the second CRC byte of the RESET_PART DONE reply has been sent. -/
  | requestReset (straps : Straps)
  /-- FIRST_SAMPLE_AFTER_RESET (R139, R148). -/
  | firstSampleAfterReset (sample : ResetSample)
  /-- HOST_BYTE_RECEIVED (R162); `stopOk` is clear for a byte with a stop-bit error. -/
  | hostByteReceived (b : Byte) (stopOk : Bool)
  /-- BYTE_GAP_TIMER_EXPIRY (R162). -/
  | byteGapTimerExpiry
  /-- BAD_KIND (R165): a good frame whose KIND names no request. -/
  | badKind (kind tag : Byte) (payload : List Byte)
  /-- HOST_FRAME_SENT (R171). -/
  | hostFrameSent
  | enquirePart (tag : Byte) (payload : List Byte)
  | enquireFace (tag : Byte) (payload : List Byte)
  | enquireDoor (tag : Byte) (payload : List Byte)
  | enquireBerth (tag : Byte) (payload : List Byte)
  | enquireAlign (tag : Byte) (payload : List Byte)
  | enquireCounts (tag : Byte) (payload : List Byte)
  | loadGeometry (tag : Byte) (payload : List Byte)
  | loadProfile (tag : Byte) (payload : List Byte)
  | loadFaceParams (tag : Byte) (payload : List Byte)
  | loadClasses (tag : Byte) (payload : List Byte)
  | loadPartParams (tag : Byte) (payload : List Byte)
  | announceTrain (tag : Byte) (payload : List Byte)
  | withdrawTrain (tag : Byte) (payload : List Byte)
  | openFace (tag : Byte) (payload : List Byte)
  | closeFace (tag : Byte) (payload : List Byte)
  | doorRestore (tag : Byte) (payload : List Byte)
  | doorIsolate (tag : Byte) (payload : List Byte)
  | doorReadmit (tag : Byte) (payload : List Byte)
  | maintMove (tag : Byte) (payload : List Byte)
  | setFaceMode (tag : Byte) (payload : List Byte)
  | enumerateFace (tag : Byte) (payload : List Byte)
  | clearBerth (tag : Byte) (payload : List Byte)
  | fireCommand (tag : Byte) (payload : List Byte)
  | resetPart (tag : Byte) (payload : List Byte)
  | chainResetTimerExpiry (f : Face)
  | chainSettleTimerExpiry (f : Face)
  | doorLinkFrameSent (f : Face)
  /-- STATUS_REPLY_RECEIVED (R63): the bytes of one reply frame, from its start byte through its CRC. -/
  | statusReplyReceived (f : Face) (reply : List Byte)
  | replyTimerExpiry (f : Face)
  | standbyRoundTimerExpiry (f : Face)
  | flashTimerExpiry (f : Face)
  /-- AXLE_HEAD_CHANGE (R17): one sample of the two heads of a sensor, set when covered. -/
  | axleHeadChange (f : Face) (sensor : AxleSensor) (s1 s2 : Bool)
  /-- STOP_DETECTOR_CHANGE (R24): one sample of one detector, set when occupied. -/
  | stopDetectorChange (f : Face) (detector : Fin 16) (occupied : Bool)
  | configurationFirstSample (f : Face) (sample : TrackSample)
  | settleTimerExpiry (f : Face)
  | automaticOpeningNotice (f : Face)
  | unlockTimerExpiry (f : Face) (d : DoorIx)
  | motionTimerExpiry (f : Face) (d : DoorIx)
  | lockProofTimerExpiry (f : Face) (d : DoorIx)
  | obstructionPauseTimerExpiry (f : Face) (d : DoorIx)
  | startTimerExpiry (f : Face) (d : DoorIx)
  | warningTimerExpiry (f : Face)
  /-- BEAM_CHANGE (R120): the beam levels of one accepted reply of a door, set when blocked. -/
  | beamChange (f : Face) (d : DoorIx) (inner outer : Bool)
  | quietTimerExpiry (f : Face) (d : DoorIx)
  | holdTimerExpiry (f : Face) (d : DoorIx)
  /-- GAP_END_BEAM_CHANGE (R126): one sample of an end beam, set when blocked. -/
  | gapEndBeamChange (f : Face) (beam : EndBeam) (blocked : Bool)
  | gapTimerExpiry (f : Face)
  /-- SUPPLY_LEVEL_CHANGE (R118): one sample code of the drive supply. -/
  | supplyLevelChange (code : Byte)
  /-- FIRE_IN_RISING_EDGE (R140): one sample of FIRE_IN reading ACTIVE. -/
  | fireInRisingEdge
  /-- FIRE_RESET_RISING_EDGE (R146): one sample of FIRE_RESET reading ACTIVE. -/
  | fireResetRisingEdge
  /-- FIRE_INPUT_FALL (R139): one sample of a fire input reading INACTIVE. -/
  | fireInputFall (input : FireInput)
  /-- LOCAL_REQUEST_CHANGE (R155): one sample of the local request, set when ACTIVE. -/
  | localRequestChange (f : Face) (active : Bool)
  /-- P_OPEN_EDGE (R158): one sample of P_OPEN; the fall carries no row of its own. -/
  | pOpenEdge (f : Face) (active : Bool)
  | pCloseEdge (f : Face) (active : Bool)
  | pAllChange (f : Face) (active : Bool)
  | proofBypassChange (f : Face) (active : Bool)
  | gapBypassChange (f : Face) (active : Bool)
  deriving DecidableEq, Repr

end Sys2Proof
end

