-- ==== Sys2Proof/Decode.lean ====
section
/-! DEFINITION. The command a word spells by the table's bits. -/

namespace Sys2Proof

/-- The command a word spells: none, since spec/opcode_table.json gives no row any bits. The bytes of the host
link and of the door links reach the part by HOST_BYTE_RECEIVED and STATUS_REPLY_RECEIVED. -/
def decodeTableWord (_nbits _w : Nat) : Option Instr := none

end Sys2Proof
end

