-- ==== Sys2Proof/Config.lean ====
section
/-! DEFINITION. What the manual leaves to the implementation of the part. -/

namespace Sys2Proof

/-- The silicon revision, one byte (R15, R172, R173). FREE VALUE: the manual names the field and gives
no value, so nothing constrains it (assumption 3). -/
opaque Config.siliconRevision : Byte

end Sys2Proof
end

