-- ==== Sys2Proof/Machine/State.lean ====
section
/-! DEFINITION. The state of the KP2448: every record the manual gives a block, as plain data, the reports and
frames that pass over its links, the reasons a step can stop, and the state right after reset. -/

namespace Sys2Proof.Machine

/-! ### Common pieces -/

/-- An input filter (R17): accepted level, run of differing samples, primed mark (R139, R148, R120).
The level is set for COVERED, OCCUPIED, BLOCKED or ACTIVE. -/
structure Filter where
  level : Bool
  run : Nat
  primed : Bool
  deriving DecidableEq, Repr

/-- A filter right after reset: unprimed, run count zero, and CLEAR or INACTIVE as R120, R126 and R148 say. R17, R18 and
R139 give the other filters no level before they are primed (assumption 33: the model's choice). -/
def Filter.reset : Filter := ⟨false, 0, false⟩

/-- A timer: `none` when stopped, `some d` when running with the duration `d` it was started with (R11). -/
abbrev Timer := Option Nat

/-! ### Configuration store (chapter 1) -/

/-- A door entry of a face geometry (section 1.3). -/
structure DoorGeom where
  xc : Nat
  w : Nat
  cls : Nat
  deriving DecidableEq, Repr

/-- A face geometry (section 1.3); n is the number of door entries. -/
structure Geometry where
  d0 : Nat
  pitch : Nat
  m : Nat
  s0 : Nat
  doors : List DoorGeom
  deriving DecidableEq, Repr

/-- The number n of configured doors. -/
def Geometry.n (g : Geometry) : Nat := g.doors.length

/-- A motion class entry (section 1.4). -/
structure MotionClass where
  openSpeed : Nat
  closeSpeed : Nat
  closeForce : Nat
  timeout : Nat
  deriving DecidableEq, Repr

/-- The default motion class entry (section 1.4). -/
def MotionClass.default : MotionClass := ⟨4, 3, 3, 6000⟩

/-- A train door of a profile (section 1.5). -/
structure TrainDoor where
  a : Nat
  t : Nat
  deriving DecidableEq, Repr

/-- A train profile (section 1.5). -/
structure Profile where
  len : Nat
  coupler : Nat
  axles : Nat
  doors : List TrainDoor
  deriving DecidableEq, Repr

/-- The flash phase mode (parameter 17 of section 1.6). -/
inductive PhaseMode where
  | common | alternate
  deriving DecidableEq, Repr

/-- The seventeen face parameters (section 1.6), in table order; T_reply is in microseconds. -/
structure FaceParams where
  fAxle : Nat
  fPanel : Nat
  tSettle : Nat
  wAuto : Nat
  wExt : Nat
  oMin : Nat
  tReply : Nat
  tUnlock : Nat
  tLock : Nat
  tObst : Nat
  nObst : Nat
  tWarn : Nat
  fBeam : Nat
  tQuiet : Nat
  tHoldMax : Nat
  tGap : Nat
  phaseMode : PhaseMode
  deriving DecidableEq, Repr

/-- The default face parameters (section 1.6). -/
def FaceParams.default : FaceParams :=
  ⟨3, 3, 1000, 300, 700, 800, 400, 800, 1000, 1000, 3, 2000, 2, 1000, 5000, 1500, .common⟩

/-- The seven part parameters (section 1.7), in table order. -/
structure PartParams where
  k : Nat
  lowV : Nat
  critV : Nat
  h : Nat
  fSup : Nat
  tStart : Nat
  fFire : Nat
  deriving DecidableEq, Repr

/-- The default part parameters (section 1.7). -/
def PartParams.default : PartParams := ⟨6, 88, 76, 4, 4, 500, 3⟩

/-! ### Berth monitor (chapter 2) -/

/-- A decoder position, named by the heads covered (section 2.1). -/
inductive AxlePos where
  | none | s1 | both | s2
  deriving DecidableEq, Repr

/-- A side of a decoder sequence (R19). -/
inductive HeadSide where
  | s1 | s2
  deriving DecidableEq, Repr

/-- An axle decoder (R19): position, entry side and spoiled mark of the sequence in progress, and whether it
has passed through BOTH. -/
structure AxleDecoder where
  pos : AxlePos
  entry : Option HeadSide
  spoiled : Bool
  passedBoth : Bool
  deriving DecidableEq, Repr

/-- A decoder waiting in NONE. -/
def AxleDecoder.idle : AxleDecoder := ⟨.none, Option.none, false, false⟩

/-- The direction of a counted axle (R17). -/
inductive AxleDir where
  | inward | outward
  deriving DecidableEq, Repr

/-- The two head filters and the decoder of one axle sensor. -/
structure AxleUnit where
  s1 : Filter
  s2 : Filter
  dec : AxleDecoder
  deriving DecidableEq, Repr

/-- An axle unit after reset: filters that hold no level (R18), and a decoder that stands in NONE, unspoiled, until they
are primed (assumption 33: the model's choice). -/
def AxleUnit.reset : AxleUnit := ⟨.reset, .reset, .idle⟩

/-- Which end of a unit leads (section 1.5). -/
inductive Orientation where
  | aLeads | bLeads
  deriving DecidableEq, Repr

/-- A unit entry of an announcement (section 2.3). -/
structure UnitEntry where
  profile : Fin 8
  orientation : Orientation
  deriving DecidableEq, Repr

/-- A held announcement, with auto_open and the expected axles (section 2.3). -/
structure Announcement where
  units : List UnitEntry
  autoOpen : Bool
  expected : Nat
  deriving DecidableEq, Repr

/-- The berth states (section 2.4). -/
inductive BerthState where
  | empty | announced | arriving | stopped | serving | cleared | departing | rolling | unreckoned
  deriving DecidableEq, Repr

/-- The causes of a BERTH report (R26). -/
inductive BerthCause where
  | sensors | settle | announce | withdraw | clear | openTaken | closeDone | config
  deriving DecidableEq, Repr

/-- The berth record (section 2.3) and the sensors behind it. The pattern is the detectors' accepted levels. -/
structure Berth where
  state : BerthState
  ann : Option Announcement
  axles : Nat
  overrun : Bool
  unannounced : Bool
  unchecked : Bool
  served : Bool
  settle : Timer
  dwell : Byte
  entry : AxleUnit
  exit : AxleUnit
  /-- The filters of the configured detectors, detector 0 first; empty without geometry. -/
  detectors : List Filter
  /-- A configuration event has begun and its first sample has not been taken (R34). -/
  configuring : Bool
  deriving DecidableEq, Repr

/-- The berth record after reset and without geometry (R26). -/
def Berth.reset : Berth :=
  ⟨.empty, Option.none, 0, false, false, false, false, Option.none, 0, .reset, .reset, [], false⟩

/-! ### Alignment unit (chapter 3) -/

/-- The axle check results (R28), in the order of the alignment record's table. -/
inductive AxleCheck where
  | notAnnounced | unchecked | agrees | differs
  deriving DecidableEq, Repr

/-- The statuses of the alignment record (section 3.1). -/
inductive AlignStatus where
  | notComputed | moved | overrun | undershoot | positionUncertain | notAnnounced | consistMismatch
  | outOfWindow | marginal | aligned
  deriving DecidableEq, Repr

/-- The causes of the alignment record (section 3.1). -/
inductive AlignCause where
  | reset | config | empty | arriving | stopped | reannounce | withdraw | rolling | departing
  deriving DecidableEq, Repr

/-- The window classes of the stop error (section 3.1). -/
inductive Window where
  | aligned | marginal | outOfWindow
  deriving DecidableEq, Repr

/-- The door verdicts (section 3.1): MATCH, PARTIAL, NONE, UNKNOWN. -/
inductive Verdict where
  | vMatch | vPartial | vNone | vUnknown
  deriving DecidableEq, Repr

/-- A train door named by its unit and its index in its profile (R45). -/
structure TrainDoorRef where
  unitIx : Nat
  doorIx : Nat
  deriving DecidableEq, Repr

/-- A measured nose: N, h, E and the window (section 3.1). -/
structure Nose where
  n : Nat
  h : Nat
  e : Int
  window : Window
  deriving DecidableEq, Repr

/-- A door entry of the alignment record (section 3.1). -/
structure DoorEntry where
  verdict : Verdict
  ov : Nat
  best : Option TrainDoorRef
  deriving DecidableEq, Repr

/-- The door entry of a door with no verdict (R40). -/
def DoorEntry.unknown : DoorEntry := ⟨.vUnknown, 0, Option.none⟩

/-- The alignment record (section 3.1). -/
structure AlignRec where
  status : AlignStatus
  cause : AlignCause
  dwell : Byte
  axleCheck : AxleCheck
  nose : Option Nose
  doors : List DoorEntry
  unserved : List TrainDoorRef
  deriving DecidableEq, Repr

/-- The alignment record after reset (R40). -/
def AlignRec.reset : AlignRec := ⟨.notComputed, .reset, 0, .notAnnounced, Option.none, [], []⟩

/-! ### Door link (chapter 4) -/

/-- The cues (R96), in the order of their codes (section 4.10). -/
inductive Cue where
  | dark | openHere | noService | closing | hold | released | fault
  deriving DecidableEq, Repr

/-- The link states (section 4.1). -/
inductive LinkState where
  | idle | chainReset | chainSettle | enumerating | sweeping | running
  deriving DecidableEq, Repr

/-- The poll paces (section 4.1). -/
inductive Pace where
  | normal | standby | wake
  deriving DecidableEq, Repr

/-- The actions of MOVE and STOP frames (R62). -/
inductive LinkAction where
  | unlockOpen | closeLock | reverse | stop
  deriving DecidableEq, Repr

/-- A target of a MOVE frame with its codes (R68). -/
structure MoveTarget where
  door : DoorIx
  speed : Nat
  force : Nat
  deriving DecidableEq, Repr

/-- A pending MOVE group frame (R68). -/
structure MoveFrame where
  action : LinkAction
  targets : List MoveTarget
  deriving DecidableEq, Repr

/-- A directed resend frame (R67): one door, the awaited action and id, and the codes of the original. -/
structure Resend where
  door : DoorIx
  action : LinkAction
  id : Nat
  speed : Nat
  force : Nat
  deriving DecidableEq, Repr

/-- A frame on the line (section 4.10). -/
inductive LinkFrame where
  | mark (g n : Nat)
  | poll (g pos : Nat) (sweep : Bool)
  | move (g : Nat) (action : LinkAction) (targets : List (MoveTarget × Nat))
  | stop (g : Nat) (targets : List (DoorIx × Nat))
  | cue (g : Nat) (targets : List DoorIx) (code : Cue)
  | sync (g phase : Nat) (mode : PhaseMode)
  deriving DecidableEq, Repr

/-- What the line carries: nothing, a frame being sent, or a poll awaiting its reply; `bad` is set once a LEN
other than 10 has made that poll's reply bad (R74). -/
inductive Line where
  | idle
  | sending (fr : LinkFrame)
  | awaiting (pos : Nat) (sweep bad : Bool)
  deriving DecidableEq, Repr

/-- The link record (section 4.1), its timers, the line and the flash phase (R73). -/
structure Link where
  state : LinkState
  g : Nat
  pace : Pace
  pollPos : Nat
  nonPoll : Nat
  wakeCount : Nat
  enumTag : Byte
  /-- Units found by the extra sweep: chain position and unit type. -/
  extra : List (Nat × Byte)
  /-- The targets of the pending STOP frame, rising; empty when there is none. -/
  stopFrame : List DoorIx
  moveQ : List MoveFrame
  resendQ : List Resend
  sync : Option (Nat × PhaseMode)
  /-- A standby round is in progress (R70). -/
  round : Bool
  line : Line
  chainEnable : Bool
  chainResetTimer : Timer
  chainSettleTimer : Timer
  replyTimer : Timer
  standbyTimer : Timer
  flashTimer : Timer
  flashPhase : Nat
  deriving DecidableEq, Repr

/-- The link record after reset (R57, R73). -/
def Link.reset : Link :=
  ⟨.idle, 0, .normal, 0, 0, 0, 0, [], [], [], [], Option.none, false, .idle, false,
   Option.none, Option.none, Option.none, Option.none, Option.none, 0⟩

/-- The health of a door (R58). -/
inductive HealthState where
  | notEnumerated | ok | late | lost
  deriving DecidableEq, Repr

/-- The LOST reasons (R58). -/
inductive LostReason where
  | noAnswer | wrongType
  deriving DecidableEq, Repr

/-- An awaited command (R58): action and id, with the codes its resend carries (R67). `due` says that a frame carrying
the id has been sent and no reply has been judged since, so the next poll of the door is the one R67 judges by
(assumption 39). -/
structure Awaited where
  action : LinkAction
  id : Nat
  speed : Nat
  force : Nat
  due : Bool
  deriving DecidableEq, Repr

/-- A link health entry (R58). `lastCue` is `none` for UNKNOWN. -/
structure Health where
  health : HealthState
  reason : Option LostReason
  miss : Nat
  lastId : Nat
  awaited : Option Awaited
  resends : Nat
  confirm : Bool
  lastCue : Option Cue
  pendingCue : Option Cue
  deriving DecidableEq, Repr

/-- A health entry after reset, at a geometry load and at the start of an enumeration (R58). -/
def Health.reset : Health :=
  ⟨.notEnumerated, Option.none, 0, 0, Option.none, 0, false, Option.none, Option.none⟩

/-! ### Door table (chapter 5) -/

/-- The door states (section 5.2). `opened` is OPEN. -/
inductive DoorState where
  | unknown | closedLocked | openQueued | unlocking | opening | opened | preClose | held | closeQueued
  | closing | proving | reopening | obstructed | released | discrepant | lost
  deriving DecidableEq, Repr

/-- The discrepancy causes (section 5.1). -/
inductive DiscCause where
  | noConfirm | lockTimeout | unlockTimeout | motionTimeout | uncommanded | unitFault | returnedOpen
  deriving DecidableEq, Repr

/-- The isolation sources (section 5.1). -/
inductive IsoSource where
  | none | host | key
  deriving DecidableEq, Repr

/-- The motion field of a STATUS reply (section 4.10). -/
inductive Motion where
  | idle | opening | closing | stalled
  deriving DecidableEq, Repr

/-- The key field of a STATUS reply (section 4.10). -/
inductive Key where
  | auto | opn | close | isolate
  deriving DecidableEq, Repr

/-- The unit fault field of a STATUS reply (section 4.10). -/
inductive UnitFault where
  | none | drive | sensor
  deriving DecidableEq, Repr

/-- The confirmation results (R67). -/
inductive Confirm where
  | none | confirmed | waiting | failed
  deriving DecidableEq, Repr

/-- A door report: the content of an accepted STATUS reply (R64). -/
structure DoorReport where
  unitType : Byte
  pos : Nat
  motion : Motion
  locked : Bool
  closed : Bool
  pulled : Bool
  key : Key
  lastId : Nat
  fault : UnitFault
  /-- The confirmation result of R67 for that reply. -/
  confirm : Confirm
  deriving DecidableEq, Repr

/-- The action of a movement order. -/
inductive Action where
  | toOpen | toClose
  deriving DecidableEq, Repr

/-- The kinds of a movement order (section 5.1). -/
inductive OrderKind where
  | ordinary | fire | forced | maint
  deriving DecidableEq, Repr

/-- A movement order (section 5.1); `fromOpen` is set for an open order taken from OPEN. -/
structure MoveOrder where
  action : Action
  kind : OrderKind
  fromOpen : Bool
  deriving DecidableEq, Repr

/-- The reopen causes (section 5.1). -/
inductive ReopenCause where
  | obstruction | gap | operation
  deriving DecidableEq, Repr

/-- The causes of a DOOR report (R76). Which change carries which, R76 does not say (assumption 52: the model's
choice). -/
inductive DoorCause where
  | report | link | grant | order | timer | request | enumeration | config
  deriving DecidableEq, Repr

/-- The crossing counts of a door and their saturated mark (R123). -/
structure Counts where
  board : Nat
  alight : Nat
  undirected : Nat
  saturated : Bool
  deriving DecidableEq, Repr

/-- Zero counts. -/
def Counts.zero : Counts := ⟨0, 0, 0, false⟩

/-- The door record (section 5.1). Its geometry is the face geometry's entry, held there once. -/
structure Door where
  state : DoorState
  cause : Option DiscCause
  hostIso : Bool
  keyIso : Bool
  latch : Bool
  late : Bool
  partialOpen : Bool
  forced : Bool
  report : Option DoorReport
  order : Option MoveOrder
  reopenCause : Option ReopenCause
  attempts : Nat
  gapReopens : Nat
  counts : Counts
  verdict : Verdict
  ov : Nat
  cue : Cue
  unlockT : Timer
  motionT : Timer
  lockProofT : Timer
  pauseT : Timer
  startT : Timer
  deriving DecidableEq, Repr

/-- A door record after reset (R75). -/
def Door.reset : Door :=
  ⟨.unknown, Option.none, false, false, false, false, false, false, Option.none, Option.none, Option.none, 0, 0,
   .zero, .vUnknown, 0, .dark, Option.none, Option.none, Option.none, Option.none, Option.none⟩

/-- The isolation source (section 5.1): KEY before HOST. -/
def Door.iso (d : Door) : IsoSource := if d.keyIso then .key else if d.hostIso then .host else .none

/-! ### Passenger sensing (chapter 7) -/

/-- A crossing decoder position (R122). -/
inductive CrossPos where
  | none | inner | both | outer
  deriving DecidableEq, Repr

/-- A crossing decoder (R122): position, entry side of the sequence in progress, spoiled mark. -/
structure CrossDecoder where
  pos : CrossPos
  entry : Option CrossPos
  spoiled : Bool
  deriving DecidableEq, Repr

/-- A crossing decoder waiting in NONE. -/
def CrossDecoder.idle : CrossDecoder := ⟨.none, Option.none, false⟩

/-- What the passenger sensing unit keeps for a door: beam filters, decoder, quiet and hold timers, and
whether the door is in a gap reopen cycle (R130). -/
structure Sense where
  inner : Filter
  outer : Filter
  dec : CrossDecoder
  quietT : Timer
  holdT : Timer
  inCycle : Bool
  deriving DecidableEq, Repr

/-- A door's passenger sensing after reset (R120, R121, R125, R126). -/
def Sense.reset : Sense := ⟨.reset, .reset, .idle, Option.none, Option.none, false⟩

/-- The gap states (section 7.4). -/
inductive GapState where
  | notRequired | pending | running | passed | failed
  deriving DecidableEq, Repr

/-- The causes of a GAP report (R134). -/
inductive GapCause where
  | unlock | release | arrival | unreckoned | targetsTerminal | timer | endBeam | reopensSpent
  | reopenRefused | beamsClear | abandoned | empty | config | reopen
  deriving DecidableEq, Repr

/-- The gap check of a face, its end beams, and the counting flag (R123, R126). -/
structure GapRec where
  counting : Bool
  state : GapState
  timer : Timer
  headBeam : Filter
  tailBeam : Filter
  deriving DecidableEq, Repr

/-- The gap record after reset (R123, R126). -/
def GapRec.reset : GapRec := ⟨false, .notRequired, Option.none, .reset, .reset⟩

/-! ### Face sequencer (chapter 6) -/

/-- The kinds of a face operation (section 6.1). -/
inductive OpKind where
  | opn | close
  deriving DecidableEq, Repr

/-- The sources of a face operation (section 6.1). -/
inductive OpSource where
  | host | auto | panel | panelAll | fire
  deriving DecidableEq, Repr

/-- The phases of a CLOSE (section 6.1). -/
inductive OpPhase where
  | warning | closing | gapWait
  deriving DecidableEq, Repr

/-- The outcomes of a target (R99). Their order gives their codes: PENDING first, then those of R99's table in the order
in which it names them (assumption 16: the model's choice). -/
inductive DoorOutcome where
  | pending | opened | partialOpen | closed | obstructed | reopened | released | lost | discrepant | excluded
  deriving DecidableEq, Repr

/-- The end causes of an operation (R100). -/
inductive EndCause where
  | completed | superseded | rolling | empty | fire
  deriving DecidableEq, Repr

/-- The gap outcomes of a CLOSE (R100). -/
inductive GapOutcome where
  | passed | failed | notRequired | bypassed
  deriving DecidableEq, Repr

/-- A target entry: door, outcome, and whether the door is still followed (R99). -/
structure Target where
  door : DoorIx
  outcome : DoorOutcome
  followed : Bool
  deriving DecidableEq, Repr

/-- The operation record (section 6.1); `phase` is absent for an OPEN. -/
structure Op where
  kind : OpKind
  source : OpSource
  tag : Byte
  phase : Option OpPhase
  dwell : Byte
  targets : List Target
  deriving DecidableEq, Repr

/-! ### Face mode controller (chapter 9) -/

/-- The face modes (section 9.1). -/
inductive FaceMode where
  | unconfigured | auto | localCtl | maint | standby | fire
  deriving DecidableEq, Repr

/-- The causes of a MODE report (R149). -/
inductive ModeCause where
  | request | enumerated | handover | handoverPending | handoverCancelled | localDropped | wake
  | fireIn | fireCommand | fireReset
  deriving DecidableEq, Repr

/-- The six panel input filters of a face (R148). -/
structure Panel where
  localReq : Filter
  pOpen : Filter
  pClose : Filter
  pAll : Filter
  proofBypass : Filter
  gapBypass : Filter
  deriving DecidableEq, Repr

/-- The face mode record (section 9.1). -/
structure ModeRec where
  mode : FaceMode
  /-- Handover PENDING. -/
  handover : Bool
  /-- The enumeration target AUTO is present. -/
  toAuto : Bool
  wakeRound : Bool
  heldNotice : Bool
  panel : Panel
  localAck : Bool
  alarm : Bool
  deriving DecidableEq, Repr

/-- The face mode record after reset (R148). -/
def ModeRec.reset : ModeRec :=
  ⟨.unconfigured, false, false, false, false, ⟨.reset, .reset, .reset, .reset, .reset, .reset⟩, false, false⟩

/-! ### A face -/

/-- Every record of one face. The secured state is set for ASSERTED (section 9.6). -/
structure FaceRec where
  geom : Option Geometry
  classes : Vector MotionClass 4
  params : FaceParams
  berth : Berth
  align : AlignRec
  link : Link
  health : Vector Health 24
  doors : Vector Door 24
  sense : Vector Sense 24
  op : Option Op
  warning : Timer
  /-- The MODEL's own field: an automatic-opening notice has been handed to the face sequencer, which has not yet
  taken or refused it (R55; assumption 20). -/
  notice : Bool
  gap : GapRec
  mode : ModeRec
  secured : Bool
  deriving DecidableEq, Repr

/-- A face after every kind of reset (R2, R26, R40, R57, R58, R75, R98, R126, R148, R159). -/
def FaceRec.reset : FaceRec where
  geom := none
  classes := Vector.replicate 4 .default
  params := .default
  berth := .reset
  align := .reset
  link := .reset
  health := Vector.replicate 24 .reset
  doors := Vector.replicate 24 .reset
  sense := Vector.replicate 24 .reset
  op := none
  warning := none
  notice := false
  gap := .reset
  mode := .reset
  secured := false

/-! ### Part-wide blocks -/

/-- A door of a face. -/
structure DoorRef where
  face : Face
  door : DoorIx
  deriving DecidableEq, Repr

/-- A start queue entry (section 6.6). -/
structure QEntry where
  ref : DoorRef
  action : Action
  kind : OrderKind
  deriving DecidableEq, Repr

/-- The start arbiter (section 6.6). The two limits follow from the supply level and K (R114). -/
structure Arbiter where
  queue : List QEntry
  starting : List DoorRef
  deriving DecidableEq, Repr

/-- The supply levels (R114). -/
inductive SupplyLevel where
  | normal | low | critical
  deriving DecidableEq, Repr

/-- The supply monitor (section 6.7): level, filter counts, latest sample code. -/
structure Supply where
  level : SupplyLevel
  fall : Nat
  rise : Nat
  code : Byte
  deriving DecidableEq, Repr

/-- What brought a fire entry (section 8.2). -/
inductive FireCause where
  | fireIn | fireCommand
  deriving DecidableEq, Repr

/-- The fire record (section 8.2): the entry cause is present exactly while fire is in force. -/
structure Fire where
  cause : Option FireCause
  fireIn : Filter
  fireReset : Filter
  deriving DecidableEq, Repr

/-! ### Reports (section 10.4) -/

/-- The reset causes (R172). -/
inductive ResetCause where
  | powerOn | pin | request
  deriving DecidableEq, Repr

/-- The report classes, lowest first (R169). -/
inductive ReportClass where
  | state | record | safety
  deriving DecidableEq, Repr

/-- The causes of an AXLE_FAULT report (R23). -/
inductive AxleFault where
  | decode | underflow | overflow
  deriving DecidableEq, Repr

/-- The causes of a SECURED report (R160). -/
inductive SecuredCause where
  | report | lost | ret | enumeration | config | gap | bypass
  deriving DecidableEq, Repr

/-- The parts of the door condition of the proof (R160). -/
inductive DoorFail where
  | lost | noReport | notClosed | notLocked | handle
  deriving DecidableEq, Repr

/-- What clears a release latch (R138). -/
inductive ClearCause where
  | request | panel
  deriving DecidableEq, Repr

/-- The fields of a BERTH report (R26). -/
structure BerthReport where
  prev : BerthState
  next : BerthState
  cause : BerthCause
  dwell : Byte
  axles : Nat
  expected : Option Nat
  overrun : Bool
  unannounced : Bool
  unchecked : Bool
  served : Bool
  pattern : List Bool
  deriving DecidableEq, Repr

/-- The fields of an AXLE_FAULT report (R23). -/
structure AxleFaultReport where
  sensor : AxleSensor
  fault : AxleFault
  berth : BerthState
  axles : Nat
  dwell : Byte
  move : Option (AxlePos × AxlePos)
  deriving DecidableEq, Repr

/-- The fields of a DOOR report (R76). -/
structure DoorChange where
  state : DoorState
  cause : Option DiscCause
  iso : IsoSource
  latch : Bool
  late : Bool
  partialOpen : Bool
  change : DoorCause
  report : Option DoorReport
  attempts : Nat
  gapReopens : Nat
  verdict : Verdict
  dwell : Byte
  deriving DecidableEq, Repr

/-- The fields of a LINK report of event ENUMERATED (R61). -/
structure EnumReport where
  tag : Byte
  g : Nat
  n : Nat
  okCount : Nat
  lost : List (DoorIx × LostReason)
  extra : List (Nat × Byte)
  deriving DecidableEq, Repr

/-- The fields of a SUPPLY report (R119). -/
structure SupplyReport where
  prev : SupplyLevel
  next : SupplyLevel
  code : Byte
  ordinary : Nat
  fire : Nat
  starting : Nat
  queued : Nat
  deriving DecidableEq, Repr

/-- The fields of a GAP report (R134). -/
structure GapReport where
  prev : GapState
  next : GapState
  dwell : Byte
  cause : GapCause
  door : Option DoorIx
  reopens : Option Nat
  headBlocked : Bool
  tailBlocked : Bool
  blocked : List DoorIx
  waiting : List DoorIx
  bypass : Bool
  deriving DecidableEq, Repr

/-- The fields of a RELEASE report of event SET (R135). -/
structure ReleaseReport where
  door : DoorIx
  prev : DoorState
  pos : Nat
  motion : Motion
  locked : Bool
  closed : Bool
  mode : FaceMode
  berth : BerthState
  dwell : Byte
  op : Option (OpKind × Byte)
  deriving DecidableEq, Repr

/-- The fields of a RELEASE report of event CLEARED (R138). -/
structure ReleaseCleared where
  door : DoorIx
  cause : ClearCause
  mode : FaceMode
  berth : BerthState
  dwell : Byte
  deriving DecidableEq, Repr

/-- The fields of a MODE report (R149). -/
structure ModeReport where
  prev : FaceMode
  next : FaceMode
  handover : Bool
  cause : ModeCause
  localReq : Bool
  proofBypass : Bool
  gapBypass : Bool
  berth : BerthState
  dwell : Byte
  deriving DecidableEq, Repr

/-- The fields of a SECURED report (R160). -/
structure SecuredReport where
  prev : Bool
  next : Bool
  cause : SecuredCause
  proofBypass : Bool
  gapBypass : Bool
  gap : GapState
  failing : List (DoorIx × DoorFail)
  berth : BerthState
  dwell : Byte
  deriving DecidableEq, Repr

/-- The reports (section 10.4). -/
inductive Report where
  | start (cause : ResetCause) (straps : Straps) (revision : Byte)
  | berth (f : Face) (r : BerthReport)
  | axleFault (f : Face) (r : AxleFaultReport)
  | align (f : Face) (r : AlignRec)
  | linkEnumerated (f : Face) (r : EnumReport)
  | linkLost (f : Face) (d : DoorIx) (reason : LostReason) (g : Nat)
  | door (f : Face) (d : DoorIx) (r : DoorChange)
  | opDone (f : Face) (op : Op) (endCause : EndCause) (gap : GapOutcome)
  | supply (r : SupplyReport)
  | counts (f : Face) (dwell : Byte) (entries : List (DoorIx × Counts))
  | gap (f : Face) (r : GapReport)
  | release (f : Face) (r : ReleaseReport)
  | releaseCleared (f : Face) (r : ReleaseCleared)
  | mode (f : Face) (r : ModeReport)
  | secured (f : Face) (r : SecuredReport)
  deriving DecidableEq, Repr

/-! ### The part -/

/-- Every block but the host link interface: both faces, the configuration store's part-wide kinds, the start
arbiter, the supply monitor, the fire record and the report queue with its LOSS flag. -/
structure Part where
  faceA : FaceRec
  faceB : FaceRec
  straps : Straps
  profiles : Vector (Option Profile) 8
  params : PartParams
  arb : Arbiter
  supply : Supply
  fire : Fire
  reports : List Report
  loss : Bool
  deriving DecidableEq, Repr

/-- The part after every kind of reset, with the straps sampled at it (R2, R113, R118, R139, R172). -/
def Part.reset (straps : Straps) : Part where
  faceA := .reset
  faceB := .reset
  straps := straps
  profiles := Vector.replicate 8 none
  params := .default
  arb := ⟨[], []⟩
  supply := ⟨.normal, 0, 0, 0⟩
  fire := ⟨none, .reset, .reset⟩
  reports := []
  loss := false

/-! ### Host link interface (chapter 10) -/

/-- A good inbound frame (R164). -/
structure Frame where
  kind : Byte
  tag : Byte
  payload : List Byte
  deriving DecidableEq, Repr

/-- The result codes (R166). -/
inductive Result where
  | done | accepted | clamped | badKind | badLength | badValue | wrongMode | noTrain | notAligned | inUse | busy
  | localControl | localPending | fireActive
  deriving DecidableEq, Repr

/-- A reply: KIND, TAG, result code, details and enquiry data (R166). The link notes join it when its
transmission begins. -/
structure Reply where
  kind : Byte
  tag : Byte
  result : Result
  detailA : Byte
  detailB : Byte
  data : List Byte
  deriving DecidableEq, Repr

/-- The receiver (R162): WAITING, or ASSEMBLING with the bytes received after SOF, LEN first. -/
inductive Receiver where
  | waiting
  | assembling (bytes : List Byte)
  deriving DecidableEq, Repr

/-- The transmitter (R171): IDLE, or SENDING a reply with the link notes it carries, or a report with the LOSS
it carries. -/
inductive Transmitter where
  | idle
  | reply (r : Reply) (overrun discarded : Bool)
  | report (r : Report) (loss : Bool)
  deriving DecidableEq, Repr

/-- The host link interface (R164, R165, R171). -/
structure HostLink where
  rx : Receiver
  gapTimer : Timer
  inbound : List Frame
  overrun : Bool
  discarded : Bool
  reply : Option Reply
  /-- A RESET_PART has been taken: nothing more is dispatched (R168). -/
  resetting : Bool
  tx : Transmitter
  deriving DecidableEq, Repr

/-- The host link interface after every kind of reset (R164, R172). -/
def HostLink.reset : HostLink := ⟨.waiting, none, [], false, false, none, false, .idle⟩

/-- The state of the KP2448, and the queue of the commands that are waiting (the MODEL's own field). -/
structure State where
  part : Part
  host : HostLink
  pending : List Instr
  deriving DecidableEq, Repr

/-! ### Why a step can stop -/

/-- No command of this model stops with a fault: the manual names no condition that stops the part. The one
constructor is kept so that the type has a value. -/
inductive Fault where
  /-- Raised by no command of this model. Safe: nothing is claimed of a run that would meet it. -/
  | neverRaised
  deriving DecidableEq, Repr

/-- The reasons the model refuses a command. -/
inductive Refusal where
  /-- Raised by an arm of `exec` that has no meaning yet. Safe: nothing is claimed of it. -/
  | notModelled (mnemonic : String)
  deriving DecidableEq, Repr

/-! ### After reset -/

/-- The straps of `State.reset`: both faces present, the first rates. DESIGN CHOICE (assumption 2). -/
def strapsAtReset : Straps := ⟨true, 0, false⟩

/-- The state right after a power-on reset: every block at its reset state (R2, R164, R172), and the START
report, queued at the end of the reset, begun by the idle transmitter (R171, assumption 1). -/
def State.reset : State where
  part := .reset strapsAtReset
  host := { HostLink.reset with tx := .report (.start .powerOn strapsAtReset Config.siliconRevision) false }
  pending := []

end Sys2Proof.Machine
end

