-- ==== Sys2Proof/Machine/Ops.lean ====
section
/-! DEFINITION. The shared operations: access to the records of a face, filters, timers, configured doors and
the report queue. -/

namespace Sys2Proof.Machine

/-! ### Access -/

/-- Apply a function to every entry of a vector; it evaluates by structural recursion on the list of entries. -/
def mapVec {α β : Type} {k : Nat} (g : α → β) (v : Vector α k) : Vector β k := ⟨⟨v.toList.map g⟩, by simp⟩

/-- The records of a face. -/
def Part.face (p : Part) : Face → FaceRec
  | .A => p.faceA
  | .B => p.faceB

/-- Change the records of one face. -/
def Part.modFace (p : Part) (f : Face) (g : FaceRec → FaceRec) : Part :=
  match f with
  | .A => { p with faceA := g p.faceA }
  | .B => { p with faceB := g p.faceB }

/-- Face A is always present, face B when the FACES strap read 2 faces (R1). -/
def Part.present (p : Part) : Face → Bool
  | .A => true
  | .B => p.straps.twoFaces

/-- Change the record of one door. -/
def FaceRec.modDoor (r : FaceRec) (d : DoorIx) (g : Door → Door) : FaceRec :=
  { r with doors := r.doors.set d (g r.doors[d]) }

/-- Change the link health entry of one door. -/
def FaceRec.modHealth (r : FaceRec) (d : DoorIx) (g : Health → Health) : FaceRec :=
  { r with health := r.health.set d (g r.health[d]) }

/-- Change the passenger sensing of one door. -/
def FaceRec.modSense (r : FaceRec) (d : DoorIx) (g : Sense → Sense) : FaceRec :=
  { r with sense := r.sense.set d (g r.sense[d]) }

/-- Change the link record. -/
def FaceRec.modLink (r : FaceRec) (g : Link → Link) : FaceRec := { r with link := g r.link }

/-- Change the berth record. -/
def FaceRec.modBerth (r : FaceRec) (g : Berth → Berth) : FaceRec := { r with berth := g r.berth }

/-- Change the gap record. -/
def FaceRec.modGap (r : FaceRec) (g : GapRec → GapRec) : FaceRec := { r with gap := g r.gap }

/-- Change the face mode record. -/
def FaceRec.modMode (r : FaceRec) (g : ModeRec → ModeRec) : FaceRec := { r with mode := g r.mode }

/-- No automatic-opening notice waits any more: the sequencer has taken or refused it, or the AUTO mode it was given in
has ended, so that no automatic opening follows the fire or the LOCAL mode that comes between (R55, R147, R157;
assumption 20). -/
def FaceRec.dropNotice (r : FaceRec) : FaceRec := { r with notice := false }

/-- The number of configured doors of a face: 0 without geometry (R5, R75). -/
def FaceRec.n (r : FaceRec) : Nat :=
  match r.geom with
  | none => 0
  | some g => g.n

/-- A door index is configured when it is below n (R5). -/
def FaceRec.configured (r : FaceRec) (d : DoorIx) : Bool := decide (d.val < r.n)

/-- All door indices, door 0 first. -/
def allDoors : List DoorIx := List.finRange 24

/-- The configured doors of a face, door 0 first. -/
def FaceRec.configuredDoors (r : FaceRec) : List DoorIx := allDoors.filter r.configured

/-- The configured doors in one of the given states. -/
def FaceRec.doorsIn (r : FaceRec) (states : List DoorState) : List DoorIx :=
  r.configuredDoors.filter fun d => states.contains r.doors[d].state

/-- Run an operation over a list of doors, in order. -/
def forDoors (ds : List DoorIx) (op : DoorIx → Part → Part) (p : Part) : Part :=
  ds.foldl (fun p d => op d p) p

/-! ### Filters (R17) -/

/-- One sample through a primed filter with count `count`, and whether it accepted a new level (R17). A filter
that is not primed takes no sample: its first sample primes it (R18, R139, R148). -/
def Filter.sample (flt : Filter) (count : Nat) (level : Bool) : Filter × Bool :=
  if flt.primed then
    if level = flt.level then ({ flt with run := 0 }, false)
    else if flt.run + 1 ≥ count then ({ flt with level := level, run := 0 }, true)
    else ({ flt with run := flt.run + 1 }, false)
  else (flt, false)

/-- Prime a filter: the sampled level is taken directly (R18). -/
def Filter.prime (level : Bool) : Filter := ⟨level, 0, true⟩

/-- The level of a filter as the tests and the enquiries read it. An unprimed one reads CLEAR or INACTIVE: a door's beams
(R120), the end beams after a reset (R126) and the panel inputs (R148) by rule; the stop detectors, the end beams between
a geometry load and the first sample, and FIRE_IN and FIRE_RESET before theirs (R139), by the model's choice
(assumption 33). -/
def Filter.reads (flt : Filter) : Bool := flt.primed && flt.level

/-! ### Conditions several blocks read -/

/-- An enumeration is in progress: from its start to the link's entry to RUNNING (R57, R59). -/
def FaceRec.enumerating (r : FaceRec) : Bool :=
  match r.link.state with
  | .chainReset | .chainSettle | .enumerating | .sweeping => true
  | .idle | .running => false

/-- A configured door is one of the watched doors: isolation source NONE (R126). -/
def FaceRec.watched (r : FaceRec) (d : DoorIx) : Bool :=
  r.configured d && decide (r.doors[d].iso = .none)

/-- A train is present (R96): the berth is STOPPED, SERVING or CLEARED. -/
def Berth.trainPresent (b : Berth) : Bool :=
  match b.state with
  | .stopped | .serving | .cleared => true
  | _ => false

/-- The accepted detector levels, detector 0 first (R24). A detector that holds no level yet, between a geometry load and
its first sample, reads clear (assumption 33: the model's choice). -/
def Berth.pattern (b : Berth) : List Bool := b.detectors.map Filter.reads

/-- The pattern is monotone: clear detectors, then occupied ones (R24). -/
def monotone (pattern : List Bool) : Bool := (pattern.dropWhile (fun x => !x)).all id

/-- The number of clear detectors; it is k when the pattern is monotone (R24). -/
def clearCount (pattern : List Bool) : Nat := (pattern.filter (fun x => !x)).length

/-- Every configured detector reads clear (R33). -/
def Berth.allClear (b : Berth) : Bool := b.pattern.all (fun x => !x)

/-- The berth has nothing in it: A = 0 and every detector clear (R33). -/
def Berth.vacant (b : Berth) : Bool := decide (b.axles = 0) && b.allClear

/-- The door states in which a face is not at rest (R155). -/
def DoorState.busy : DoorState → Bool
  | .openQueued | .unlocking | .opening | .preClose | .held | .closeQueued | .closing | .proving
  | .reopening => true
  | _ => false

/-- The face is at rest (R155). -/
def FaceRec.atRest (r : FaceRec) : Bool :=
  !r.enumerating && r.op.isNone && r.configuredDoors.all fun d => !r.doors[d].state.busy

/-- The record holds a current nose (R40). -/
def AlignRec.currentNose (a : AlignRec) : Bool :=
  match a.status with
  | .aligned | .marginal | .outOfWindow | .notAnnounced | .consistMismatch => true
  | _ => false

/-- A profile is in use while an announcement held on either face names it (R9). -/
def Part.profileInUse (p : Part) (id : Nat) : Bool :=
  let names (r : FaceRec) : Bool :=
    match r.berth.ann with
    | none => false
    | some a => a.units.any fun u => decide (u.profile.val = id)
  names p.faceA || names p.faceB

/-- Stop every timer of a door record (R84). -/
def Door.stopTimers (d : Door) : Door :=
  { d with unlockT := none, motionT := none, lockProofT := none, pauseT := none, startT := none }

/-! ### The report queue (R170) -/

/-- The class of a report (section 10.4). -/
def Report.cls : Report → ReportClass
  | .start .. => .record
  | .berth _ r => if r.next = .rolling then .safety else .state
  | .axleFault .. => .safety
  | .align .. => .record
  | .linkEnumerated .. => .safety
  | .linkLost .. => .safety
  | .door .. => .state
  | .opDone .. => .record
  | .supply .. => .safety
  | .counts .. => .record
  | .gap .. => .state
  | .release .. => .safety
  | .releaseCleared .. => .safety
  | .mode .. => .safety
  | .secured .. => .safety

/-- The face and door of a DOOR report. -/
def Report.doorKey : Report → Option DoorRef
  | .door f d _ => some ⟨f, d⟩
  | _ => none

/-- Both are DOOR reports of the same face and door. -/
def Report.sameDoor (r x : Report) : Bool :=
  match r.doorKey with
  | none => false
  | some k => decide (x.doorKey = some k)

/-- Remove the oldest report of a class, if there is one. -/
def evictOldest (c : ReportClass) : List Report → Option (List Report)
  | [] => none
  | x :: xs => if x.cls = c then some xs else (evictOldest c xs).map (x :: ·)

/-- Make room for a report of class `c`: evict the oldest report of the lowest class below it (R170). -/
def makeRoom (c : ReportClass) (q : List Report) : Option (List Report) :=
  match c with
  | .state => none
  | .record => evictOldest .state q
  | .safety => (evictOldest .state q).orElse fun _ => evictOldest .record q

/-- The most reports the queue holds (R170). -/
def reportCap : Nat := 64

/-- A block queues a report (R170): merging of DOOR reports, then joining, eviction or discard. -/
def queueReport (r : Report) (p : Part) : Part :=
  let q := p.reports.filter fun x => !r.sameDoor x
  if q.length < reportCap then { p with reports := q ++ [r] }
  else
    match makeRoom r.cls q with
    | some q' => { p with reports := q' ++ [r], loss := true }
    | none => { p with reports := q, loss := true }

end Sys2Proof.Machine
end

