-- ==== Sys2Proof/Machine/Notices.lean ====
section
/-! DEFINITION. What a change in one block makes known to the others: cues, the secured proof, gap state
changes, mode changes, berth state changes, the end of an operation, and a door's change of state. -/

namespace Sys2Proof.Machine

/-! ### Cues (R96, R72) -/

/-- The cue a door shows, by the first row of R96 that holds. -/
def chosenCue (r : FaceRec) (d : DoorIx) : Cue :=
  let x := r.doors[d]
  match x.state with
  | .unknown => .dark
  | .released => .released
  | .obstructed | .discrepant => .fault
  | .held => .hold
  | .preClose | .closeQueued | .closing | .proving | .reopening => .closing
  | .closedLocked | .openQueued | .unlocking | .opening | .opened | .lost =>
    if x.iso ≠ .none ∧ r.berth.trainPresent then .noService
    else
      match x.verdict with
      | .vMatch => if r.berth.trainPresent then .openHere else .dark
      | .vPartial | .vNone => .noService
      | .vUnknown => .dark

/-- The link controller takes a cue handed for a door (R72). -/
def handCue (d : DoorIx) (c : Cue) (r : FaceRec) : FaceRec :=
  if r.configured d then
    r.modHealth d fun x => { x with pendingCue := if x.lastCue = some c then none else some c }
  else r

/-- The cue generator chooses a configured door's cue anew and hands a changed one on (R96). -/
def chooseCue (d : DoorIx) (r : FaceRec) : FaceRec :=
  let c := chosenCue r d
  if r.configured d ∧ c ≠ r.doors[d].cue then
    handCue d c (r.modDoor d fun x => { x with cue := c })
  else r

/-- The choice for every configured door, as at a change of the berth state (R96). -/
def refreshCues (r : FaceRec) : FaceRec := allDoors.foldl (fun r d => chooseCue d r) r

/-! ### The secured proof (R159, R160) -/

/-- The first part of the door condition that a door fails (R160). -/
def Door.failing (x : Door) : Option DoorFail :=
  if x.state = .lost then some .lost
  else
    match x.report with
    | none => some .noReport
    | some rep =>
      if !rep.closed then some .notClosed
      else if !rep.locked then some .notLocked
      else if rep.pulled then some .handle
      else none

/-- The configured doors that fail the door condition, each with its first failing part (R160). -/
def FaceRec.failingDoors (r : FaceRec) : List (DoorIx × DoorFail) :=
  r.configuredDoors.filterMap fun d => (r.doors[d].failing).map fun x => (d, x)

/-- The accepted level of the proof bypass (R148, R159). -/
def FaceRec.proofBypass (r : FaceRec) : Bool := r.mode.panel.proofBypass.reads

/-- The accepted level of the gap bypass (R148, R159). -/
def FaceRec.gapBypass (r : FaceRec) : Bool := r.mode.panel.gapBypass.reads

/-- The accepted level of the local request (R148). -/
def FaceRec.localReq (r : FaceRec) : Bool := r.mode.panel.localReq.reads

/-- The condition of R159 under which the secured state is ASSERTED. -/
def FaceRec.proofMet (r : FaceRec) : Bool :=
  r.proofBypass ||
    (r.geom.isSome && r.failingDoors.isEmpty &&
      (decide (r.gap.state = .notRequired) || decide (r.gap.state = .passed) || r.gapBypass))

/-- The proof logic recomputes the secured state; a change of it, or of a bypass level, queues a SECURED
report (R159, R160). -/
def recomputeSecured (f : Face) (cause : SecuredCause) (bypassChanged : Bool) (p : Part) : Part :=
  let r := p.face f
  let met := r.proofMet
  let p := p.modFace f fun r => { r with secured := met }
  if met ≠ r.secured ∨ bypassChanged then
    queueReport (.secured f
      { prev := r.secured, next := met, cause := cause, proofBypass := r.proofBypass, gapBypass := r.gapBypass,
        gap := r.gap.state, failing := r.failingDoors, berth := r.berth.state, dwell := r.berth.dwell }) p
  else p

/-! ### Gap state changes (R126, R134, R161) -/

/-- The watched doors whose outer beams read BLOCKED (R134). -/
def FaceRec.blockedDoors (r : FaceRec) : List DoorIx :=
  allDoors.filter fun d => r.watched d && r.sense[d].outer.reads

/-- The doors the gap check waits for: watched doors in a reopen cycle or in RELEASED (R128). The set is formed in every
gap state, so a GAP report lists such doors while the check is not running too (R134; assumption 51: the model's
choice). -/
def FaceRec.waitingDoors (r : FaceRec) : List DoorIx :=
  allDoors.filter fun d => r.watched d && (r.sense[d].inCycle || decide (r.doors[d].state = .released))

/-- Every watched outer beam and both end beams read CLEAR (R128, R131). -/
def FaceRec.gapClear (r : FaceRec) : Bool :=
  r.blockedDoors.isEmpty && !r.gap.headBeam.reads && !r.gap.tailBeam.reads

/-- Queue a GAP report of the face as it stands (R134). -/
def queueGapReport (f : Face) (prev : GapState) (cause : GapCause) (door : Option DoorIx) (p : Part) : Part :=
  let r := p.face f
  queueReport (.gap f
    { prev := prev, next := r.gap.state, dwell := r.berth.dwell, cause := cause, door := door,
      reopens := if cause = .reopen then door.map fun d => r.doors[d].gapReopens else none,
      headBlocked := r.gap.headBeam.reads, tailBlocked := r.gap.tailBeam.reads,
      blocked := r.blockedDoors, waiting := r.waitingDoors, bypass := r.gapBypass }) p

/-- A change of the gap state: its GAP report, the ALARM output, and the proof (R126, R134, R159, R161). The
gap timer is stopped; R128 starts it at the end of the event. -/
def gapTo (f : Face) (new : GapState) (cause : GapCause) (door : Option DoorIx) (p : Part) : Part :=
  let prev := (p.face f).gap.state
  let p := p.modFace f fun r => r.modGap fun g => { g with state := new, timer := none }
  if new = prev then p
  else
    (p.modFace f fun r => r.modMode fun m => { m with alarm := decide (new = .failed) })
      |> queueGapReport f prev cause door
      |> recomputeSecured f .gap false

/-- The gap state leaves NOT_REQUIRED and PASSED for PENDING (R127). -/
def gapPending (f : Face) (cause : GapCause) (door : Option DoorIx) (p : Part) : Part :=
  match (p.face f).gap.state with
  | .notRequired | .passed => gapTo f .pending cause door p
  | .pending | .running | .failed => p

/-- Every gap reopen cycle of the face ends (R126, R133). -/
def endCycles (r : FaceRec) : FaceRec :=
  { r with sense := mapVec (fun x => { x with inCycle := false }) r.sense }

/-- The gap check is abandoned (R133). -/
def abandonGap (f : Face) (p : Part) : Part :=
  let p := p.modFace f endCycles
  match (p.face f).gap.state with
  | .running | .failed => gapTo f .pending .abandoned none p
  | .notRequired | .pending | .passed => p

/-! ### Mode changes (R149, R155) -/

/-- Queue a MODE report of the face as it stands (R149). -/
def queueModeReport (f : Face) (prev : FaceMode) (cause : ModeCause) (p : Part) : Part :=
  let r := p.face f
  queueReport (.mode f
    { prev := prev, next := r.mode.mode, handover := r.mode.handover, cause := cause, localReq := r.localReq,
      proofBypass := r.proofBypass, gapBypass := r.gapBypass, berth := r.berth.state, dwell := r.berth.dwell }) p

/-- The handover is granted: the face enters LOCAL, LOCAL_ACK becomes active, and a held notice is discarded
(R154, R155), as is one that waits to be taken (R157; assumption 20). -/
def grantHandover (f : Face) (p : Part) : Part :=
  let prev := (p.face f).mode.mode
  (p.modFace f fun r => (r.modMode fun m =>
      { m with mode := .localCtl, handover := false, localAck := true, heldNotice := false }).dropNotice)
    |> queueModeReport f prev .handover

/-- In AUTO, an ACTIVE local request is granted at rest and otherwise makes the handover PENDING (R155). -/
def takeLocalRequest (f : Face) (p : Part) : Part :=
  let r := p.face f
  if r.mode.mode = .auto ∧ r.localReq then
    if r.atRest then grantHandover f p
    else if r.mode.handover then p
    else
      (p.modFace f fun r => r.modMode fun m => { m with handover := true })
        |> queueModeReport f r.mode.mode .handoverPending
  else p

/-- The face enters AUTO, and then takes an ACTIVE local request (R155). -/
def enterAuto (f : Face) (cause : ModeCause) (p : Part) : Part :=
  let prev := (p.face f).mode.mode
  (p.modFace f fun r => r.modMode fun m => { m with mode := .auto })
    |> queueModeReport f prev cause
    |> takeLocalRequest f

/-- The link controller's part of a wake: polls at normal pace for one round of n polls (R71). -/
def wakeLink (r : FaceRec) : FaceRec :=
  r.modLink fun l => { l with standbyTimer := none, pace := .wake, wakeCount := r.n, round := false }

/-- A wake event: a face in STANDBY enters AUTO and starts a wake round (R153). -/
def wakeFace (f : Face) (p : Part) : Part :=
  if (p.face f).mode.mode = .standby then
    (p.modFace f fun r => wakeLink (r.modMode fun m => { m with wakeRound := true }))
      |> enterAuto f .wake
  else p

/-! ### Berth state changes (R25, R26, R127) -/

/-- The fields a BERTH report carries (R26). -/
def berthReport (prev : BerthState) (cause : BerthCause) (b : Berth) : BerthReport :=
  { prev := prev, next := b.state, cause := cause, dwell := b.dwell, axles := b.axles,
    expected := b.ann.map Announcement.expected, overrun := b.overrun, unannounced := b.unannounced,
    unchecked := b.unchecked, served := b.served, pattern := b.pattern }

/-- The settle timer runs from the entry to ARRIVING, ROLLING and UNRECKONED, and is stopped at entry to every
other state (R25, R34). -/
def settleAtEntry (r : FaceRec) (new : BerthState) : Timer :=
  match new with
  | .arriving | .rolling | .unreckoned => some r.params.tSettle
  | .empty | .announced | .stopped | .serving | .cleared | .departing => none

/-- What an entry means to the gap check: an arrival at a door that stands open, or a train found at the face
(R127). -/
def berthGap (f : Face) (prev new : BerthState) (p : Part) : Part :=
  match new, prev with
  | .unreckoned, _ => gapPending f .unreckoned none p
  | .arriving, .empty | .arriving, .announced =>
    let r := p.face f
    if allDoors.any fun d => r.watched d && decide (r.doors[d].state ≠ .closedLocked) then
      gapPending f .arrival none p
    else p
  | _, _ => p

/-- The berth enters a state: settle timer, BERTH report, cues, gap check; a change in STANDBY is a wake event,
taken first (R25, R26, R96, R127, R153). -/
def enterBerth (f : Face) (new : BerthState) (cause : BerthCause) (p : Part) : Part :=
  let prev := (p.face f).berth.state
  let p := if new = prev then p else wakeFace f p
  let p := p.modFace f fun r =>
    refreshCues (r.modBerth fun b => { b with state := new, settle := settleAtEntry r new })
  let p := if new = prev then p else queueReport (.berth f (berthReport prev cause (p.face f).berth)) p
  berthGap f prev new p

/-! ### The end of an operation (R98 to R101, R107) -/

/-- The face sequencer's notice of a CLOSE's end to the berth monitor (R30). -/
def closeEndNotice (f : Face) (p : Part) : Part :=
  let r := p.face f
  if r.secured ∧ (r.berth.state = .serving ∨ (r.berth.state = .stopped ∧ r.berth.served)) then
    enterBerth f .cleared .closeDone p
  else p

/-- An operation ends: OP_DONE is queued, the record is discarded, and the end of a CLOSE is made known to the
berth monitor (R98, R100). -/
def endOp (f : Face) (endCause : EndCause) (gap : GapOutcome) (p : Part) : Part :=
  match (p.face f).op with
  | none => p
  | some op =>
    let p := queueReport (.opDone f op endCause gap) p
    let p := p.modFace f fun r => { r with op := none }
    match op.kind with
    | .opn => p
    | .close => closeEndNotice f p

/-- Give every PENDING target an outcome. -/
def Op.settlePending (op : Op) (o : DoorOutcome) : Op :=
  { op with targets := op.targets.map fun t => if t.outcome = .pending then { t with outcome := o } else t }

/-- An operation ends early: PENDING targets become EXCLUDED and a CLOSE's warning timer stops (R101). A CLOSE's gap
outcome is NOT_REQUIRED, for an end by ROLLING too (assumption 34: the model's choice). -/
def endOpEarly (f : Face) (endCause : EndCause) (p : Part) : Part :=
  match (p.face f).op with
  | none => p
  | some op =>
    (p.modFace f fun r =>
        { r with op := some (op.settlePending .excluded)
                 warning := match op.kind with
                            | .opn => r.warning
                            | .close => none })
      |> endOp f endCause .notRequired

/-- A CLOSE in GAP_WAIT takes the conclusion it waits for (R107, R132). -/
def concludeGap (f : Face) (gap : GapOutcome) (p : Part) : Part :=
  match (p.face f).op with
  | none => p
  | some op =>
    if op.phase = some .gapWait then
      (p.modFace f fun r => { r with op := some (op.settlePending .reopened) })
        |> endOp f .completed gap
    else p

/-! ### A door's change of state (R76) -/

/-- Change the followed entry of a target. -/
def Op.modTarget (op : Op) (d : DoorIx) (g : Target → Target) : Op :=
  { op with targets := op.targets.map fun t => if t.door = d ∧ t.followed then g t else t }

/-- A target leaves the operation in flight with an outcome and is followed no further (R99). -/
def leaveOp (d : DoorIx) (o : DoorOutcome) (r : FaceRec) : FaceRec :=
  { r with op := r.op.map fun op => op.modTarget d fun t => { t with outcome := o, followed := false } }

/-- The outcome a target takes at a door's change of state, by the table of R99. -/
def outcomeAt (kind : OpKind) (new : Door) (t : Target) : Target :=
  match new.state with
  | .released => { t with outcome := .released, followed := false }
  | .lost => { t with outcome := .lost, followed := false }
  | .discrepant => { t with outcome := .discrepant, followed := false }
  | s =>
    match kind with
    | .opn =>
      if s = .opened then { t with outcome := if new.partialOpen then .partialOpen else .opened } else t
    | .close =>
      if s = .closedLocked then { t with outcome := .closed }
      else if s = .obstructed then { t with outcome := .obstructed }
      else if t.outcome = .closed then { t with outcome := .pending }
      else t

/-- The face sequencer takes the notice of a door's change of state (R99). -/
def sequencerNotice (d : DoorIx) (new : Door) (r : FaceRec) : FaceRec :=
  { r with op := r.op.map fun op => op.modTarget d (outcomeAt op.kind new) }

/-- The passenger sensing unit takes the notice of a door's change of state: hold timer, priming, quiet timer
and reopen cycle (R120, R121, R122, R125, R130). From an entry to UNKNOWN or LOST to the next priming the crossing
decoder stands in NONE (assumption 35: the model's choice). -/
def senseAt (params : FaceParams) (old new : DoorState) (x : Sense) : Sense :=
  let x := if old = .held then { x with holdT := none } else x
  match new with
  | .held => { x with holdT := if params.tHoldMax = 0 then none else some params.tHoldMax }
  | .unknown =>
    { x with inner := { x.inner with primed := false }, outer := { x.outer with primed := false },
             dec := .idle, quietT := none }
  | .lost =>
    { x with inner := { x.inner with primed := false }, outer := { x.outer with primed := false },
             dec := .idle, quietT := none, inCycle := false }
  | .opened => if x.inCycle then { x with quietT := some params.tQuiet } else x
  | .closedLocked | .obstructed | .discrepant | .released => { x with inCycle := false }
  | .openQueued | .unlocking | .opening | .preClose | .closeQueued | .closing | .proving | .reopening => x

/-- A CLOSE of the face waits for the gap check. -/
def FaceRec.gapWaiting (r : FaceRec) : Bool :=
  match r.op with
  | none => false
  | some op => decide (op.phase = some .gapWait)

/-- What a door's entry to UNLOCKING or RELEASED means to the gap check (R127). -/
def doorGap (f : Face) (d : DoorIx) (new : DoorState) (p : Part) : Part :=
  let r := p.face f
  let train : Bool := decide (r.berth.state ≠ .empty) && decide (r.berth.state ≠ .announced)
  match new with
  | .unlocking =>
    if r.watched d ∧ r.sense[d].inCycle = false then
      match r.gap.state with
      | .running | .failed =>
        if r.gapWaiting then
          (p.modFace f fun r => r.modGap fun g => { g with state := .running, timer := none })
            |> (fun p => p.modFace f fun r => r.modMode fun m => { m with alarm := false })
            |> queueGapReport f r.gap.state .unlock (some d)
            |> recomputeSecured f .gap false
        else gapTo f .pending .unlock (some d) p
      | .notRequired | .passed => if train then gapPending f .unlock (some d) p else p
      | .pending => p
    else p
  | .released => if r.watched d && train then gapPending f .release (some d) p else p
  | _ => p

/-- The fields of a door record that a DOOR report follows (R76). -/
def Door.reported (x : Door) : DoorState × Option DiscCause × IsoSource × Bool × Bool × Bool :=
  (x.state, x.cause, x.iso, x.latch, x.late, x.partialOpen)

/-- The DOOR report of a door as it stands (R76). -/
def doorChange (x : Door) (cause : DoorCause) (dwell : Byte) : DoorChange :=
  { state := x.state, cause := x.cause, iso := x.iso, latch := x.latch, late := x.late,
    partialOpen := x.partialOpen, change := cause, report := x.report, attempts := x.attempts,
    gapReopens := x.gapReopens, verdict := x.verdict, dwell := dwell }

/-- Change a door's record, with everything R76 hangs on it: the DOOR report, and at a change of state the
notices to the face sequencer, the passenger sensing unit, the gap check and the cue generator. -/
def changeDoor (f : Face) (d : DoorIx) (cause : DoorCause) (g : Door → Door) (p : Part) : Part :=
  let old := (p.face f).doors[d]
  let new := g old
  let p := p.modFace f fun r => r.modDoor d fun _ => new
  let p :=
    if old.reported = new.reported then p
    else queueReport (.door f d (doorChange new cause (p.face f).berth.dwell)) p
  let p :=
    if old.state = new.state then p
    else
      (p.modFace f fun r =>
          (sequencerNotice d new r).modSense d (senseAt r.params old.state new.state))
        |> doorGap f d new.state
  p.modFace f (chooseCue d)

end Sys2Proof.Machine
end

