-- ==== Sys2Proof/Machine/Arbiter.lean ====
section
/-! DEFINITION. The start arbiter (section 6.6), the codes of a movement (R86), and the placing of MOVE and STOP
frames with the door link controller (R68). -/

namespace Sys2Proof.Machine

/-! ### Placing frames (R68) -/

/-- Remove a door from every pending MOVE frame and from the resend queue; empty MOVE frames are dropped. -/
def dropPending (d : DoorIx) (l : Link) : Link :=
  { l with
    moveQ := (l.moveQ.map fun m => { m with targets := m.targets.filter fun t => decide (t.door ≠ d) }).filter
      fun m => !m.targets.isEmpty
    resendQ := l.resendQ.filter fun r => decide (r.door ≠ d) }

/-- A MOVE is issued: discarded in IDLE, targets not configured discarded, every target taken out of earlier
frames, the frame at the tail of the MOVE queue (R68). -/
def FaceRec.placeMove (action : LinkAction) (ts : List MoveTarget) (r : FaceRec) : FaceRec :=
  let ts := ts.filter fun t => r.configured t.door
  if r.link.state = .idle ∨ ts.isEmpty then r
  else
    r.modLink fun l =>
      let l := ts.foldl (fun l t => dropPending t.door l) l
      { l with moveQ := l.moveQ ++ [⟨action, ts⟩] }

/-- A STOP is issued to a door: it joins the pending STOP frame (R68). -/
def FaceRec.placeStop (d : DoorIx) (r : FaceRec) : FaceRec :=
  if r.link.state = .idle ∨ r.configured d = false then r
  else
    r.modLink fun l =>
      let l := dropPending d l
      { l with stopFrame := allDoors.filter fun x => decide (x = d) || l.stopFrame.contains x }

/-! ### Codes (R86) -/

/-- The codes and the motion timeout a movement takes. -/
structure Codes where
  speed : Nat
  force : Nat
  timeout : Nat
  deriving DecidableEq, Repr

/-- The motion class index of a door, from the face geometry. -/
def FaceRec.classOf (r : FaceRec) (d : DoorIx) : Nat :=
  match r.geom with
  | none => 0
  | some g => ((g.doors.map DoorGeom.cls)[d.val]?).getD 0

/-- A motion class entry of the face. -/
def FaceRec.classEntry (r : FaceRec) (c : Nat) : MotionClass := (r.classes.toList[c]?).getD .default

/-- The lowest close force of the four entries. -/
def FaceRec.lowestForce (r : FaceRec) : Nat :=
  ((r.classes.toList.map MotionClass.closeForce).min?).getD 0

/-- The codes of a movement from the start queue (R86). -/
def moveCodes (r : FaceRec) (d : DoorIx) (action : Action) (kind : OrderKind) : Codes :=
  let own := r.classEntry (r.classOf d)
  match action, kind with
  | .toOpen, .fire => ⟨7, 0, (r.classEntry 3).timeout⟩
  | .toOpen, .ordinary | .toOpen, .forced | .toOpen, .maint => ⟨own.openSpeed, 0, own.timeout⟩
  | .toClose, .forced => ⟨own.closeSpeed, r.lowestForce, own.timeout⟩
  | .toClose, .ordinary | .toClose, .fire | .toClose, .maint => ⟨own.closeSpeed, own.closeForce, own.timeout⟩

/-- The codes of a directed REVERSE (R86). -/
def reverseCodes (r : FaceRec) (d : DoorIx) : Codes :=
  let own := r.classEntry (r.classOf d)
  ⟨own.openSpeed, 0, own.timeout⟩

/-! ### Entering a door state -/

/-- A door's record in a new state: the discrepancy cause stands only in DISCREPANT and the reopen cause only in
REOPENING (section 5.1). -/
def Door.enter (s : DoorState) (x : Door) : Door :=
  { x with
    state := s
    cause := if s = .discrepant then x.cause else none
    reopenCause := if s = .reopening then x.reopenCause else none }

/-! ### Limits (R114) -/

/-- The ordinary start limit. -/
def ordLimit (level : SupplyLevel) (k : Nat) : Nat :=
  match level with
  | .normal => k
  | .low => max 1 (k / 2)
  | .critical => 0

/-- The fire start limit. -/
def fireLimit (level : SupplyLevel) (k : Nat) : Nat :=
  match level with
  | .normal => k
  | .low => max 1 (k / 2)
  | .critical => 1

/-- The limit in force for a kind of start. -/
def Part.limitFor (p : Part) : OrderKind → Nat
  | .fire => fireLimit p.supply.level p.params.k
  | .ordinary | .forced | .maint => ordLimit p.supply.level p.params.k

/-! ### Grants (R115, R116) -/

/-- A grant made at a grant event, with the codes handed to the arbiter. -/
structure Grant where
  ref : DoorRef
  action : Action
  codes : Codes
  deriving DecidableEq, Repr

/-- The oldest fire start in the queue if it holds one, and otherwise its head (R115). -/
def candidate (q : List QEntry) : Option QEntry :=
  (q.find? fun e => decide (e.kind = .fire)).orElse fun _ => q.head?

/-- A grant at the door table (R85): state, start timer, motion timer. -/
def Door.granted (action : Action) (tStart timeout : Nat) (x : Door) : Door :=
  { x.enter (match action with
             | .toOpen => .unlocking
             | .toClose => .closing) with
    startT := some tStart
    motionT := some timeout }

/-- One granted door: out of the queue, into the starting set, and to the door table (R115, R85). -/
def grantDoor (e : QEntry) (codes : Codes) (p : Part) : Part :=
  { p with arb :=
      { queue := p.arb.queue.filter fun x => decide (x.ref ≠ e.ref), starting := p.arb.starting ++ [e.ref] } }
    |> changeDoor e.ref.face e.ref.door .grant (Door.granted e.action p.params.tStart codes.timeout)

/-- The step of R115, repeated until it grants nothing. -/
def grantLoop : Nat → List Grant → Part → Part × List Grant
  | 0, gs, p => (p, gs)
  | fuel + 1, gs, p =>
    match candidate p.arb.queue with
    | none => (p, gs)
    | some e =>
      if p.arb.starting.length < p.limitFor e.kind then
        let codes := moveCodes (p.face e.ref.face) e.ref.door e.action e.kind
        grantLoop fuel (gs ++ [⟨e.ref, e.action, codes⟩]) (grantDoor e codes p)
      else (p, gs)

/-- The grants of one face and one action as MOVE targets, in increasing index (R116). -/
def moveTargets (gs : List Grant) (f : Face) (action : Action) : List MoveTarget :=
  allDoors.filterMap fun d =>
    (gs.find? fun g => decide (g.ref = ⟨f, d⟩) && decide (g.action = action)).map fun g =>
      ⟨d, g.codes.speed, g.codes.force⟩

/-- One MOVE for each face and action, in the order of the first grant each contains (R116). -/
def issueGrants (gs : List Grant) (p : Part) : Part :=
  ((gs.map fun g => (g.ref.face, g.action)).eraseDups).foldl
    (fun p k =>
      p.modFace k.1 (FaceRec.placeMove
        (match k.2 with
         | .toOpen => .unlockOpen
         | .toClose => .closeLock) (moveTargets gs k.1 k.2))) p

/-- A grant event (R115, R116). -/
def grantEvent (p : Part) : Part :=
  let x := grantLoop p.arb.queue.length [] p
  issueGrants x.2 x.1

/-! ### Joining and leaving -/

/-- Change fields of a door record that no block is told of. -/
def onDoor (f : Face) (d : DoorIx) (g : Door → Door) (p : Part) : Part := p.modFace f fun r => r.modDoor d g

/-- A door joins the tail of the start queue (R113). -/
def joinQueue (e : QEntry) (p : Part) : Part := { p with arb := { p.arb with queue := p.arb.queue ++ [e] } }

/-- The end of a door's start phase: the start timer stops, the door leaves the starting set, and the departure
is a grant event (R85, R117). -/
def endStart (f : Face) (d : DoorIx) (p : Part) : Part :=
  if p.arb.starting.contains ⟨f, d⟩ then
    { p with arb := { p.arb with starting := p.arb.starting.filter fun x => decide (x ≠ (⟨f, d⟩ : DoorRef)) } }
      |> onDoor f d (fun x => { x with startT := none })
      |> grantEvent
  else p

/-- A door leaves the start machinery: out of the queue or out of the starting set, whichever holds it (R84,
R113). -/
def leaveMachinery (f : Face) (d : DoorIx) (p : Part) : Part :=
  { p with arb := { p.arb with queue := p.arb.queue.filter fun x => decide (x.ref ≠ ⟨f, d⟩) } }
    |> endStart f d

/-- Every door of a face leaves the start queue. -/
def leaveQueueAll (f : Face) (p : Part) : Part :=
  { p with arb := { p.arb with queue := p.arb.queue.filter fun x => decide (x.ref.face ≠ f) } }

/-- The doors of a face in the starting set. -/
def Part.startingOf (p : Part) (f : Face) : List DoorIx := allDoors.filter fun d => p.arb.starting.contains ⟨f, d⟩

/-- Every door of a face leaves the start machinery at one event (R6, R77): all leave the queue, then each leaves the
starting set, lowest index first, and each of these departures is a grant event (R117). -/
def leaveMachineryAll (f : Face) (p : Part) : Part :=
  p |> leaveQueueAll f |> forDoors (p.startingOf f) (endStart f)

/-! ### The supply monitor (section 6.7) -/

/-- The level below. -/
def SupplyLevel.lower : SupplyLevel → SupplyLevel
  | .normal => .low
  | .low => .critical
  | .critical => .critical

/-- The level above. -/
def SupplyLevel.higher : SupplyLevel → SupplyLevel
  | .normal => .normal
  | .low => .normal
  | .critical => .low

/-- A sample counts toward a fall (R118). -/
def countsFall (level : SupplyLevel) (pp : PartParams) (code : Nat) : Bool :=
  match level with
  | .normal => decide (code < pp.lowV)
  | .low => decide (code < pp.critV)
  | .critical => false

/-- A sample counts toward a rise (R118). -/
def countsRise (level : SupplyLevel) (pp : PartParams) (code : Nat) : Bool :=
  match level with
  | .normal => false
  | .low => decide (code ≥ pp.lowV + pp.h)
  | .critical => decide (code ≥ pp.critV + pp.h)

/-- One sample through the supply filter (R118). -/
def Supply.sample (pp : PartParams) (code : Byte) (s : Supply) : Supply :=
  let s := { s with code := code }
  if countsFall s.level pp code.toNat then
    if s.fall + 1 ≥ pp.fSup then { s with level := s.level.lower, fall := 0, rise := 0 }
    else { s with fall := s.fall + 1, rise := 0 }
  else if countsRise s.level pp code.toNat then
    if s.rise + 1 ≥ pp.fSup then { s with level := s.level.higher, fall := 0, rise := 0 }
    else { s with rise := s.rise + 1, fall := 0 }
  else { s with fall := 0, rise := 0 }

/-- A change of the supply level: the SUPPLY report with the limits then in force, and the arbiter's grants
(R119, R115). The report's numbers of starting and queued doors are those before the grants (assumption 41: the model's
choice). -/
def supplyChanged (prev : SupplyLevel) (p : Part) : Part :=
  p |> queueReport (.supply
      { prev := prev, next := p.supply.level, code := p.supply.code,
        ordinary := ordLimit p.supply.level p.params.k, fire := fireLimit p.supply.level p.params.k,
        starting := p.arb.starting.length, queued := p.arb.queue.length })
    |> grantEvent

/-- One sample of the drive supply (R118, R119). -/
def takeSupplySample (code : Byte) (p : Part) : Part :=
  let prev := p.supply.level
  let p := { p with supply := p.supply.sample p.params code }
  if p.supply.level = prev then p else supplyChanged prev p

end Sys2Proof.Machine
end

