-- ==== Sys2Proof/Machine/Doors.lean ====
section
/-! DEFINITION. The door table's orders and entries (chapter 5): queue orders, warning, hold and close, reversal
and stopping, release, discrepancy, loss, isolation, and the timers of a door record. -/

namespace Sys2Proof.Machine

/-! ### Entries that several rules share -/

/-- A door's record at an entry to CLOSED_LOCKED (R90). -/
def Door.closeLocked (x : Door) : Door :=
  { x.stopTimers.enter .closedLocked with order := none, partialOpen := false, forced := false }

/-- A door's record at an entry to OPEN: no timer, no order; PARTIAL_OPEN as the event leaves it. -/
def Door.standOpen (partialOpen : Bool) (x : Door) : Door :=
  { x.stopTimers.enter .opened with order := none, partialOpen := partialOpen }

/-- A target of the operation in flight leaves it with an outcome (R99). -/
def leaveOperation (f : Face) (d : DoorIx) (o : DoorOutcome) (p : Part) : Part := p.modFace f (leaveOp d o)

/-- Issue a STOP to a door; none is issued while its key isolation is set (R68, R81). -/
def issueStop (f : Face) (d : DoorIx) (p : Part) : Part :=
  if (p.face f).doors[d].keyIso then p else p.modFace f (FaceRec.placeStop d)

/-- Issue a directed REVERSE to a door (R92, R86). -/
def issueReverse (f : Face) (d : DoorIx) (p : Part) : Part :=
  p.modFace f (FaceRec.placeMove .reverse [⟨d, (reverseCodes (p.face f) d).speed, 0⟩])

/-- The face is in FIRE: the door table takes no close order (R142). -/
def FaceRec.inFire (r : FaceRec) : Bool := decide (r.mode.mode = .fire)

/-! ### Discrepancy (R94) -/

/-- A door enters DISCREPANT; `stop` says whether the table of R94 issues a STOP. -/
def enterDiscrepant (f : Face) (d : DoorIx) (why : DiscCause) (trig : DoorCause) (stop : Bool) (p : Part) : Part :=
  (p |> changeDoor f d trig (fun x =>
        { x.stopTimers.enter .discrepant with cause := some why, order := none, forced := false })
      |> leaveMachinery f d)
    |> fun p => if stop then issueStop f d p else p

/-! ### Release (R79, R135) -/

/-- The door was in motion, so that a release issues a STOP (R79). -/
def DoorState.moving : DoorState → Bool
  | .unlocking | .opening | .closing | .proving | .reopening => true
  | .unknown | .closedLocked | .openQueued | .opened | .preClose | .held | .closeQueued | .obstructed
  | .released | .discrepant | .lost => false

/-- The kind and tag of the operation a door would leave, when it is a followed target of one (R135). -/
def FaceRec.opOf (r : FaceRec) (d : DoorIx) : Option (OpKind × Byte) :=
  match r.op with
  | none => none
  | some op =>
    if op.targets.any fun t => decide (t.door = d) && t.followed then some (op.kind, op.tag) else none

/-- The RELEASE report of event SET, from the door's record before the release (R135). -/
def releaseSet (r : FaceRec) (d : DoorIx) : ReleaseReport :=
  let x := r.doors[d]
  { door := d, prev := x.state
    pos := match x.report with
           | none => 0
           | some rep => rep.pos
    motion := match x.report with
              | none => .idle
              | some rep => rep.motion
    locked := match x.report with
              | none => false
              | some rep => rep.locked
    closed := match x.report with
              | none => false
              | some rep => rep.closed
    mode := r.mode.mode, berth := r.berth.state, dwell := r.berth.dwell, op := r.opOf d }

/-- A door is released: the latch and the state, the start machinery, the operation, the timers, the STOP of a
door in motion, and the RELEASE report of a new setting (R79, R135). -/
def releaseDoor (f : Face) (d : DoorIx) (trig : DoorCause) (p : Part) : Part :=
  let r := p.face f
  let x := r.doors[d]
  let p := if x.latch then p else queueReport (.release f (releaseSet r d)) p
  let p := p
    |> changeDoor f d trig (fun x =>
        { x.stopTimers.enter .released with latch := true, order := none, partialOpen := false, forced := false })
    |> leaveMachinery f d
  if x.state.moving then issueStop f d p else p

/-- A release latch is cleared: RELEASE report CLEARED, and the door enters CLOSED_LOCKED (R138). -/
def clearLatch (f : Face) (d : DoorIx) (cause : ClearCause) (trig : DoorCause) (p : Part) : Part :=
  let r := p.face f
  p |> queueReport (.releaseCleared f
        { door := d, cause := cause, mode := r.mode.mode, berth := r.berth.state, dwell := r.berth.dwell })
    |> changeDoor f d trig (fun x => { x.closeLocked with latch := false })

/-! ### Open orders and withdrawals (R84, R82) -/

/-- The isolation admits an order of the kind: none reaches a key-isolated door, and host isolation stops ORDINARY
and FIRE (R81, R82). -/
def Door.isolationAllows (kind : OrderKind) (x : Door) : Bool :=
  match kind with
  | .ordinary | .fire => decide (x.iso = .none)
  | .maint | .forced => !x.keyIso

/-- The door table takes an open order of this kind (R84). -/
def Door.takesOpen (kind : OrderKind) (x : Door) : Bool :=
  x.isolationAllows kind &&
    (match x.state with
     | .closedLocked => true
     | .opened => x.partialOpen && (decide (kind = .fire) || decide (kind = .maint))
     | _ => false) &&
    (decide (kind ≠ .ordinary) || decide (x.verdict = .vMatch))

/-- An open order: taken, it puts the door in OPEN_QUEUED and at the tail of the start queue (R84). The grants
follow once every door of the event has joined (R113). -/
def openOrder (f : Face) (d : DoorIx) (kind : OrderKind) (trig : DoorCause) (p : Part) : Part :=
  let x := (p.face f).doors[d]
  if x.takesOpen kind then
    p |> changeDoor f d trig (fun x =>
          { x.enter .openQueued with order := some ⟨.toOpen, kind, decide (x.state = .opened)⟩ })
      |> joinQueue ⟨⟨f, d⟩, .toOpen, kind⟩
  else p

/-- The order in a queued door's record was taken from OPEN (R84). -/
def Door.fromOpen (x : Door) : Bool :=
  match x.order with
  | none => false
  | some o => o.fromOpen

/-- A withdrawn door's record (R84); the forced mark of a CLOSE_QUEUED door is kept (assumption 14: the model's
reading). -/
def Door.withdrawn (x : Door) : Door :=
  match x.state with
  | .openQueued => if x.fromOpen then x.standOpen x.partialOpen else x.closeLocked
  | .closeQueued => x.standOpen x.partialOpen
  | _ => x

/-- A withdrawal of a queued door; a target leaves its operation EXCLUDED (R84, R99). The DOOR report of this and of the
orders below carries cause ORDER, whatever led the block to its order (R76; assumption 52: the model's choice). -/
def withdrawDoor (f : Face) (d : DoorIx) (p : Part) : Part :=
  match (p.face f).doors[d].state with
  | .openQueued | .closeQueued =>
    p |> leaveOperation f d .excluded
      |> changeDoor f d .order Door.withdrawn
      |> leaveMachinery f d
  | _ => p

/-! ### Warning, hold and close orders (R89, R86) -/

/-- A begin-warning order (R89). A rewarn's order for a door whose key is out is not taken, though R81 names only queue,
reverse and stop orders (assumption 50: the model's choice). -/
def beginWarning (f : Face) (d : DoorIx) (p : Part) : Part :=
  if (p.face f).doors[d].state = .opened ∧ (p.face f).doors[d].keyIso = false then
    changeDoor f d .order (Door.enter .preClose) p
  else p

/-- A door enters CLOSE_QUEUED and joins the start queue; the forced mark makes the kind FORCED (R84, R86). -/
def queueClose (f : Face) (d : DoorIx) (kind : OrderKind) (trig : DoorCause) (p : Part) : Part :=
  let kind := if (p.face f).doors[d].forced then .forced else kind
  p |> changeDoor f d trig (fun x =>
        { x.stopTimers.enter .closeQueued with order := some ⟨.toClose, kind, false⟩ })
    |> joinQueue ⟨⟨f, d⟩, .toClose, kind⟩

/-- The states from which a close order of a kind is taken (R89, R95, R152). -/
def Door.closeFrom (kind : OrderKind) (x : Door) : Bool :=
  match kind, x.state with
  | .ordinary, .preClose | .ordinary, .held | .ordinary, .discrepant | .ordinary, .obstructed => true
  | .forced, .held => true
  | .maint, .opened => true
  | _, _ => false

/-- A close order; none is taken in FIRE (R89, R142). A forced-close order sets the forced mark. -/
def closeOrder (f : Face) (d : DoorIx) (kind : OrderKind) (trig : DoorCause) (p : Part) : Part :=
  let r := p.face f
  let x := r.doors[d]
  if r.inFire = false ∧ x.isolationAllows kind ∧ x.closeFrom kind then
    (if kind = .forced then onDoor f d (fun x => { x with forced := true }) p else p)
      |> queueClose f d kind trig
  else p

/-- A hold order (R89); with T_hold_max at 0 the hold limit is reached at the entry itself (R125). -/
def holdOrder (f : Face) (d : DoorIx) (p : Part) : Part :=
  if (p.face f).doors[d].state = .preClose then
    let p := changeDoor f d .order (Door.enter .held) p
    if (p.face f).params.tHoldMax = 0 then closeOrder f d .forced .order p else p
  else p

/-- A return-to-open order (R89). -/
def returnToOpen (f : Face) (d : DoorIx) (p : Part) : Part :=
  match (p.face f).doors[d].state with
  | .preClose | .held | .closeQueued =>
    p |> changeDoor f d .order (fun x => { x.standOpen x.partialOpen with forced := false })
      |> leaveMachinery f d
  | _ => p

/-! ### Reversal (R91, R92) -/

/-- A door enters REOPENING: timers, start phase, directed REVERSE, motion timer (R92). The frames of the grants that its
departure from the starting set frees are placed before its REVERSE (R85, R116; assumption 54: the model's choice). -/
def enterReopening (f : Face) (d : DoorIx) (why : ReopenCause) (trig : DoorCause) (p : Part) : Part :=
  let timeout := (reverseCodes (p.face f) d).timeout
  p |> changeDoor f d trig (fun x =>
        { x.stopTimers.enter .reopening with reopenCause := some why, order := none, motionT := some timeout })
    |> leaveMachinery f d
    |> issueReverse f d

/-- A reverse order, or the reversal of a gap reopen order (R92). -/
def reverseOrder (f : Face) (d : DoorIx) (why : ReopenCause) (p : Part) : Part :=
  let x := (p.face f).doors[d]
  if x.keyIso then p
  else
    match x.state with
    | .closing | .proving => enterReopening f d why .order p
    | .reopening =>
      if x.pauseT.isSome then changeDoor f d .order (fun x => x.standOpen x.partialOpen) p
      else onDoor f d (fun x => { x with reopenCause := some why }) p
    | _ => p

/-- The door table takes a gap reopen order (R92). -/
def Door.takesGapReopen (x : Door) : Bool :=
  match x.state with
  | .closing | .proving | .reopening => !x.keyIso
  | .preClose | .held | .closeQueued => true
  | .closedLocked => x.takesOpen .ordinary
  | _ => false

/-- A gap reopen order that the door table takes: the count, and the order its state asks for (R92). -/
def gapReopenOrder (f : Face) (d : DoorIx) (p : Part) : Part :=
  let p := onDoor f d (fun x => { x with gapReopens := x.gapReopens + 1 }) p
  match (p.face f).doors[d].state with
  | .closing | .proving | .reopening => reverseOrder f d .gap p
  | .preClose | .held | .closeQueued => returnToOpen f d p
  | .closedLocked => openOrder f d .ordinary .order p
  | _ => p

/-- An obstruction: a stall while closing (R91). Its DOOR report carries cause REPORT (R76; assumption 52: the model's
choice). The REVERSE at an entry to OBSTRUCTED, as at one to REOPENING, is placed after the frames of the grants that
the door's departure frees (R85, R116; assumption 54: the model's choice). -/
def obstruction (f : Face) (d : DoorIx) (p : Part) : Part :=
  let nObst := (p.face f).params.nObst
  if (p.face f).doors[d].attempts < nObst then
    p |> onDoor f d (fun x => { x with attempts := x.attempts + 1 })
      |> enterReopening f d .obstruction .report
  else
    p |> changeDoor f d .report (fun x =>
          { x.stopTimers.enter .obstructed with order := none, attempts := nObst })
      |> leaveMachinery f d
      |> issueReverse f d

/-! ### Stop orders (R93) -/

/-- The latest report shows the lock LOCKED. -/
def Door.seenLocked (x : Door) : Bool :=
  match x.report with
  | none => false
  | some rep => rep.locked

/-- A halting stop order (R93). The DOOR report of a door it makes DISCREPANT carries cause ORDER as well (R76;
assumption 52: the model's choice). -/
def haltingStop (f : Face) (d : DoorIx) (p : Part) : Part :=
  let x := (p.face f).doors[d]
  if x.keyIso then p
  else
    match x.state with
    | .unlocking =>
      if x.seenLocked then enterDiscrepant f d .noConfirm .order true p
      else p |> changeDoor f d .order (Door.standOpen true) |> leaveMachinery f d |> issueStop f d
    | .opening | .closing | .reopening =>
      p |> changeDoor f d .order (Door.standOpen true) |> leaveMachinery f d |> issueStop f d
    | _ => p

/-- A takeover stop order (R93). -/
def takeoverStop (f : Face) (d : DoorIx) (p : Part) : Part :=
  let x := (p.face f).doors[d]
  if x.keyIso then p
  else
    match x.state with
    | .unlocking | .opening =>
      p |> leaveOperation f d .excluded
        |> changeDoor f d .order (fun x => { x.stopTimers.enter .preClose with order := none })
        |> leaveMachinery f d
        |> issueStop f d
    | _ => p

/-! ### Loss and enumeration (R77, R83) -/

/-- A door enters LOST (R83). Its DOOR report carries cause LINK, at an enumeration poll too, where R76 names ENUMERATION
as well and no rule says which (assumption 52: the model's choice). -/
def enterLost (f : Face) (d : DoorIx) (p : Part) : Part :=
  p |> changeDoor f d .link (fun x =>
        { x.stopTimers.enter .lost with order := none, forced := false, partialOpen := false, late := false })
    |> leaveMachinery f d
    |> recomputeSecured f .lost false

/-- The link controller sets or clears a door's LATE flag (R58, R83). The DOOR report carries cause LINK: the example of
section 5.14 shows it where the flag is set, and no rule where it is cleared (assumption 52: the model's choice). -/
def setLate (f : Face) (d : DoorIx) (late : Bool) (p : Part) : Part :=
  changeDoor f d .link (fun x => { x with late := late }) p

/-- A door's record at the notice that an enumeration has begun (R77). -/
def Door.enumerated (x : Door) : Door :=
  { x.stopTimers.enter .unknown with
    report := none, late := false, keyIso := false, partialOpen := false, forced := false, order := none }

/-- The notice that an enumeration has begun, at the door table and the proof logic (R77, R159). -/
def doorsEnumerated (f : Face) (p : Part) : Part :=
  let ds := (p.face f).configuredDoors
  p |> leaveMachineryAll f
    |> forDoors ds (fun d p => p |> leaveOperation f d .lost |> changeDoor f d .enumeration Door.enumerated)
    |> recomputeSecured f .enumeration false

/-! ### Timers of a door record -/

/-- The command-sent notice: the unlock timer starts at a door's UNLOCK_OPEN (R66, R87). -/
def commandSent (params : FaceParams) (action : LinkAction) (x : Door) : Door :=
  if x.state = .unlocking ∧ action = .unlockOpen then { x with unlockT := some params.tUnlock } else x

/-- The unlock timer expires (R87). The DOOR reports of this and of the expiries below carry cause TIMER (R76; assumption
52: the model's choice). -/
def unlockExpiry (f : Face) (d : DoorIx) (p : Part) : Part :=
  if (p.face f).doors[d].unlockT.isSome then
    let p := onDoor f d (fun x => { x with unlockT := none }) p
    if (p.face f).doors[d].state = .unlocking then enterDiscrepant f d .unlockTimeout .timer true p else p
  else p

/-- The motion timer expires (R85). -/
def motionExpiry (f : Face) (d : DoorIx) (p : Part) : Part :=
  if (p.face f).doors[d].motionT.isSome then
    let p := onDoor f d (fun x => { x with motionT := none }) p
    match (p.face f).doors[d].state with
    | .unlocking | .opening | .closing | .reopening => enterDiscrepant f d .motionTimeout .timer true p
    | _ => p
  else p

/-- The lock-proof timer expires (R90). -/
def lockProofExpiry (f : Face) (d : DoorIx) (p : Part) : Part :=
  if (p.face f).doors[d].lockProofT.isSome then
    let p := onDoor f d (fun x => { x with lockProofT := none }) p
    if (p.face f).doors[d].state = .proving then enterDiscrepant f d .lockTimeout .timer false p else p
  else p

/-- The obstruction pause timer expires: CLOSE_QUEUED, or OPEN in FIRE (R92, R142). -/
def pauseExpiry (f : Face) (d : DoorIx) (p : Part) : Part :=
  if (p.face f).doors[d].pauseT.isSome then
    let p := onDoor f d (fun x => { x with pauseT := none }) p
    if (p.face f).doors[d].state = .reopening then
      if (p.face f).inFire then changeDoor f d .timer (fun x => x.standOpen x.partialOpen) p
      else grantEvent (queueClose f d .ordinary .timer p)
    else p
  else p

/-- The start timer expires: the start phase ends (R85). -/
def startExpiry (f : Face) (d : DoorIx) (p : Part) : Part :=
  if (p.face f).doors[d].startT.isSome then
    p |> onDoor f d (fun x => { x with startT := none }) |> endStart f d
  else p

end Sys2Proof.Machine
end

