-- ==== Sys2Proof/Machine/Sequencer.lean ====
section
/-! DEFINITION. The face sequencer (sections 6.2 to 6.5): taking an OPEN and a CLOSE, the warning, the gap wait,
ROLLING and EMPTY, and the fire opening test (section 8.3). -/

namespace Sys2Proof.Machine

/-! ### Answers (R166) -/

/-- A result code with its two details. -/
structure Answer where
  result : Result
  a : Byte
  b : Byte
  deriving DecidableEq, Repr

/-- A result with details 0. -/
def Answer.plain (r : Result) : Answer := ⟨r, 0, 0⟩

/-- BAD_VALUE with an offending entry. -/
def badValue (entry : Byte) : Answer := ⟨.badValue, entry, 0⟩

/-- The first check that fails: its answer, or `none` when all pass. -/
def firstFail : List (Bool × Answer) → Option Answer
  | [] => none
  | (bad, ans) :: rest => if bad then some ans else firstFail rest

/-! ### Completion and the gap wait (R99, R104, R107) -/

/-- Every target is concluded (R99). -/
def Op.complete (op : Op) : Bool := op.targets.all fun t => decide (t.outcome ≠ .pending)

/-- The CLOSE enters GAP_WAIT: the check is started if it is PENDING, and an active gap bypass concludes at once
(R107, R132). -/
def enterGapWait (f : Face) (op : Op) (p : Part) : Part :=
  let p := p.modFace f fun r => { r with op := some { op with phase := some .gapWait } }
  let p := if (p.face f).gap.state = .pending then gapTo f .running .targetsTerminal none p else p
  if (p.face f).gapBypass then concludeGap f .bypassed p else p

/-- A complete operation goes on: an OPEN ends, a CLOSE in CLOSING reads the gap state (R104, R107). -/
def seqCheck (f : Face) (p : Part) : Part :=
  match (p.face f).op with
  | none => p
  | some op =>
    if op.complete then
      match op.kind, op.phase with
      | .opn, _ => endOp f .completed .notRequired p
      | .close, some .closing =>
        match (p.face f).gap.state with
        | .notRequired => endOp f .completed .notRequired p
        | .passed => endOp f .completed .passed p
        | .failed => endOp f .completed .failed p
        | .pending | .running => enterGapWait f op p
      | .close, _ => p
    else p

/-! ### Taking an OPEN (R102, R103, R109) -/

/-- An OPEN as it is asked for. -/
structure OpenReq where
  source : OpSource
  tag : Byte
  marginal : Bool
  /-- The mask's 24 positions as a number, when the request carried one. -/
  mask : Option Nat
  deriving DecidableEq, Repr

/-- The doors a mask selects; without a mask, all. -/
def OpenReq.selects (q : OpenReq) (d : DoorIx) : Bool :=
  match q.mask with
  | none => true
  | some m => m.testBit d.val

/-- Step 3 of R102 for a source: `none` when the mode allows the operation (R102, R105). -/
def modeCheck (r : FaceRec) (source : OpSource) : Option Answer :=
  match source with
  | .host | .auto =>
    match r.mode.mode with
    | .unconfigured | .maint | .standby => some (.plain .wrongMode)
    | .localCtl => some (.plain .localControl)
    | .fire => some (.plain .fireActive)
    | .auto => if r.mode.handover then some (.plain .localPending) else none
  | .panel | .panelAll => if r.mode.mode = .localCtl then none else some (.plain .wrongMode)
  | .fire => if r.mode.mode = .fire then none else some (.plain .wrongMode)

/-- The face is openable (R54). -/
def openable (a : AlignRec) (marginal : Bool) : Bool :=
  decide (a.status = .aligned) || (decide (a.status = .marginal) && marginal)

/-- An operation in flight that an OPEN may not overtake (R102 step 4). -/
def openBlocked (r : FaceRec) : Bool :=
  match r.op with
  | none => false
  | some op =>
    match op.kind with
    | .opn => true
    | .close => decide (r.berth.state ≠ .serving)

/-- The berth states that refuse an OPEN as NO_TRAIN (R102 step 5). -/
def noTrainFor (source : OpSource) (s : BerthState) : Bool :=
  match s with
  | .empty | .announced | .arriving | .unreckoned | .departing => true
  | .rolling => decide (source = .panelAll)
  | .stopped | .serving | .cleared => false

/-- The checks of R102, in order; the answer of the first that fails. -/
def openCheck (f : Face) (q : OpenReq) (p : Part) : Option Answer :=
  let r := p.face f
  let masked := r.configuredDoors.filter q.selects
  firstFail
    [ (!p.present f, badValue 255),
      (r.enumerating, .plain .busy),
      ((modeCheck r q.source).isSome, (modeCheck r q.source).getD (.plain .wrongMode)),
      (openBlocked r, .plain .busy),
      (noTrainFor q.source r.berth.state, .plain .noTrain),
      (decide (q.source ≠ .panelAll) && !openable r.align q.marginal, .plain .notAligned),
      (q.mask.isSome && masked.isEmpty, badValue 255),
      (q.mask.isSome && masked.any fun d => decide (r.doors[d].verdict ≠ .vMatch), .plain .notAligned) ]

/-- The berth monitor's notice that an OPEN has been taken (R30). -/
def berthOpenNotice (f : Face) (p : Part) : Part :=
  let p := p.modFace f fun r => r.modBerth fun b => { b with served := true }
  match (p.face f).berth.state with
  | .stopped | .cleared => enterBerth f .serving .openTaken p
  | .empty | .announced | .arriving | .serving | .departing | .rolling | .unreckoned => p

/-- The doors still followed as targets of the operation in flight, in the given states. -/
def FaceRec.targetsIn (r : FaceRec) (states : List DoorState) : List DoorIx :=
  match r.op with
  | none => []
  | some op =>
    allDoors.filter fun d =>
      op.targets.any (fun t => decide (t.door = d) && t.followed) && states.contains r.doors[d].state

/-- An OPEN overtakes a CLOSE in flight: what R109 gives its doors, the end of the CLOSE, and the doors that
become targets of the OPEN. -/
def overtakeClose (f : Face) (q : OpenReq) (p : Part) : Part × List DoorIx :=
  match (p.face f).op with
  | none => (p, [])
  | some op =>
    match op.kind with
    | .opn => (p, [])
    | .close =>
      let r := p.face f
      let back := r.targetsIn [.preClose, .held, .closeQueued]
      let turned := r.targetsIn [.reopening]
      let reversed := (r.targetsIn [.closing, .proving]).filter fun d =>
        decide (r.doors[d].verdict = .vMatch) && q.selects d
      (p |> forDoors back (returnToOpen f)
         |> forDoors turned (fun d => reverseOrder f d .operation)
         |> forDoors reversed (fun d => reverseOrder f d .operation)
         |> abandonGap f
         |> endOpEarly f .superseded,
       allDoors.filter fun d => (back ++ turned ++ reversed).contains d)

/-- The doors an OPEN selects (R103). -/
def openSelection (r : FaceRec) (q : OpenReq) : List DoorIx :=
  r.configuredDoors.filter fun d =>
    let x := r.doors[d]
    decide (x.state = .closedLocked) && decide (x.iso = .none) &&
      (decide (q.source = .panelAll) || (decide (x.verdict = .vMatch) && q.selects d))

/-- The kind of the open orders an OPEN gives (R103). -/
def openKind (source : OpSource) : OrderKind :=
  match source with
  | .panelAll => .maint
  | .fire => .fire
  | .host | .auto | .panel => .ordinary

/-- The target entry of a door brought over from an overtaken CLOSE: concluded when it stands in OPEN (R109). -/
def broughtTarget (r : FaceRec) (d : DoorIx) : Target :=
  let x := r.doors[d]
  { door := d
    outcome := if x.state = .opened then (if x.partialOpen then .partialOpen else .opened) else .pending
    followed := true }

/-- The target entry of a door about to be given an open order: EXCLUDED when it does not take it (R103). -/
def orderedTarget (r : FaceRec) (kind : OrderKind) (d : DoorIx) : Target :=
  if r.doors[d].takesOpen kind then ⟨d, .pending, true⟩ else ⟨d, .excluded, false⟩

/-- An OPEN that has passed its checks is taken (R103, R109). -/
def takeOpen (f : Face) (q : OpenReq) (p : Part) : Part :=
  let (p, brought) := overtakeClose f q p
  let r := p.face f
  let chosen := openSelection r q
  let kind := openKind q.source
  let targets := allDoors.filterMap fun d =>
    if brought.contains d then some (broughtTarget r d)
    else if chosen.contains d then some (orderedTarget r kind d) else none
  (p.modFace f fun r =>
      { r with op := some ⟨.opn, q.source, q.tag, none, r.berth.dwell, targets⟩ })
    |> forDoors chosen (fun d => openOrder f d kind .order)
    |> grantEvent
    |> berthOpenNotice f

/-! ### Taking a CLOSE (R105, R108) -/

/-- A CLOSE is in flight. -/
def FaceRec.closing (r : FaceRec) : Bool :=
  match r.op with
  | none => false
  | some op => decide (op.kind = .close)

/-- The checks of R105, in order; the answer of the first that fails. -/
def closeCheck (f : Face) (source : OpSource) (p : Part) : Option Answer :=
  let r := p.face f
  firstFail
    [ (!p.present f, badValue 255),
      (r.enumerating, .plain .busy),
      ((modeCheck r source).isSome, (modeCheck r source).getD (.plain .wrongMode)),
      (r.closing, .plain .busy) ]

/-- A CLOSE overtakes an OPEN in flight (R108). -/
def overtakeOpen (f : Face) (p : Part) : Part :=
  let r := p.face f
  if r.op.isSome then
    p |> forDoors (r.targetsIn [.openQueued]) (withdrawDoor f)
      |> forDoors (r.targetsIn [.unlocking, .opening]) (takeoverStop f)
      |> endOpEarly f .superseded
  else p

/-- The doors a CLOSE targets (R105). -/
def closeTargets (r : FaceRec) : List DoorIx :=
  r.configuredDoors.filter fun d =>
    decide (r.doors[d].iso = .none) &&
      (match r.doors[d].state with
       | .closedLocked | .released | .lost | .unknown => false
       | _ => true)

/-- The target entry a CLOSE makes for a door (R105). A DISCREPANT door is no longer followed from the start, so that a
later release leaves its outcome as it is (R99, R110; assumption 42: the model's choice). -/
def closeTarget (r : FaceRec) (d : DoorIx) : Target :=
  match r.doors[d].state with
  | .obstructed => ⟨d, .obstructed, true⟩
  | .discrepant => ⟨d, .discrepant, false⟩
  | _ => ⟨d, .pending, true⟩

/-- What a CLOSE gives a target by its state (R105). A target in REOPENING is given nothing, whatever its reopen cause:
one of cause OPERATION enters OPEN at the end of its reversal (R92) and stands there PENDING (assumption 45: the model's
choice). -/
def leadToClose (f : Face) (d : DoorIx) (p : Part) : Part :=
  match (p.face f).doors[d].state with
  | .unlocking | .opening => takeoverStop f d p
  | .opened => beginWarning f d p
  | _ => p

/-- A CLOSE that has passed its checks is taken (R105, R108). -/
def takeClose (f : Face) (source : OpSource) (tag : Byte) (p : Part) : Part :=
  let p := overtakeOpen f p
  let p := forDoors ((p.face f).doorsIn [.openQueued]) (withdrawDoor f) p
  let ds := closeTargets (p.face f)
  let p := forDoors ds (leadToClose f) p
  let r := p.face f
  let targets := ds.map (closeTarget r)
  let warn : Bool := ds.any fun d => decide (r.doors[d].state = .preClose)
  p.modFace f fun r =>
    { r with
      op := some ⟨.close, source, tag, some (if warn then .warning else .closing), r.berth.dwell, targets⟩
      warning := if warn then some r.params.tWarn else r.warning }

/-! ### The warning (R106) -/

/-- A door is quiet: both its beams read CLEAR (R121). -/
def Sense.quiet (x : Sense) : Bool := !x.inner.reads && !x.outer.reads

/-- The face sequencer's order for a door in PRE_CLOSE at the warning's expiry (R106). -/
def afterWarning (f : Face) (d : DoorIx) (p : Part) : Part :=
  if (p.face f).sense[d].quiet then closeOrder f d .ordinary .order p else holdOrder f d p

/-- The CLOSE in flight goes from WARNING to CLOSING (R106). -/
def Op.warned (op : Op) : Op := if op.phase = some .warning then { op with phase := some .closing } else op

/-- The warning timer expires (R106). -/
def warningExpiry (f : Face) (p : Part) : Part :=
  if (p.face f).warning.isSome then
    let p := p.modFace f fun r => { r with warning := none }
    p |> forDoors ((p.face f).doorsIn [.preClose]) (afterWarning f)
      |> (fun p => p.modFace f fun r => { r with op := r.op.map Op.warned })
      |> grantEvent
  else p

/-- A door that a gap reopen has taken back to OPEN is rewarned (R106). -/
def rewarn (f : Face) (d : DoorIx) (p : Part) : Part :=
  p |> beginWarning f d
    |> fun p => p.modFace f fun r => { r with warning := some r.params.tWarn }

/-! ### ROLLING and EMPTY (R111, R112) -/

/-- The face sequencer at the berth's entry to ROLLING (R111). -/
def sequencerRolling (f : Face) (p : Part) : Part :=
  let p := forDoors ((p.face f).doorsIn [.openQueued, .closeQueued]) (withdrawDoor f) p
  let p := forDoors ((p.face f).doorsIn [.unlocking, .opening, .closing, .reopening]) (haltingStop f) p
  let p := forDoors ((p.face f).doorsIn [.preClose, .held]) (returnToOpen f) p
  (p.modFace f fun r => { r with warning := none })
    |> abandonGap f
    |> endOpEarly f .rolling

/-- The face sequencer at the berth's entry to EMPTY, after the gap state has become NOT_REQUIRED (R112). -/
def sequencerEmpty (f : Face) (p : Part) : Part :=
  match (p.face f).op with
  | none => p
  | some op =>
    match op.kind with
    | .opn =>
      let r := p.face f
      p |> forDoors (r.targetsIn [.openQueued]) (withdrawDoor f)
        |> forDoors (r.targetsIn [.unlocking, .opening]) (haltingStop f)
        |> endOpEarly f .empty
    | .close => concludeGap f .notRequired p

/-! ### Fire openings (R141, R143, R144) -/

/-- A door is fire-eligible (R141). -/
def FaceRec.fireEligible (r : FaceRec) (d : DoorIx) : Bool :=
  let x := r.doors[d]
  decide (x.iso = .none) && r.align.currentNose &&
    (match x.verdict with
     | .vMatch | .vPartial => true
     | .vNone | .vUnknown => false)

/-- A door is in the fire open set (R143). -/
def FaceRec.inFireSet (r : FaceRec) (d : DoorIx) : Bool :=
  let x := r.doors[d]
  r.configured d && r.fireEligible d &&
    (match x.state with
     | .closedLocked => true
     | .opened => x.partialOpen
     | _ => false)

/-- A door is a followed target of the operation in flight. -/
def FaceRec.isTarget (r : FaceRec) (d : DoorIx) : Bool :=
  match r.op with
  | none => false
  | some op => op.targets.any fun t => decide (t.door = d) && t.followed

/-- The targets of a fire opening with new doors added as PENDING entries (R143). -/
def addTargets (targets : List Target) (ds : List DoorIx) : List Target :=
  allDoors.filterMap fun d =>
    if ds.contains d then some ⟨d, .pending, true⟩ else targets.find? fun t => decide (t.door = d)

/-- The open orders of a fire opening, and the grants (R143, R113). -/
def fireOrders (f : Face) (ds : List DoorIx) (p : Part) : Part :=
  p |> forDoors ds (fun d => openOrder f d .fire .order) |> grantEvent

/-- The fire opening test, for the doors of the fire open set that it is made for (R143, R144). -/
def fireOpenTest (f : Face) (madeFor : List DoorIx) (p : Part) : Part :=
  let r := p.face f
  let ds := allDoors.filter fun d => r.inFireSet d && !r.isTarget d && madeFor.contains d
  if r.inFire = false ∨ ds.isEmpty then p
  else
    match r.op with
    | none =>
      (p.modFace f fun r =>
          { r with op := some ⟨.opn, .fire, 0, none, r.berth.dwell, addTargets [] ds⟩ })
        |> fireOrders f ds
        |> berthOpenNotice f
    | some op =>
      if op.source = .fire then
        (p.modFace f fun r => { r with op := some { op with targets := addTargets op.targets ds } })
          |> fireOrders f ds
      else p

end Sys2Proof.Machine
end

