-- ==== Sys2Proof/Machine/Passenger.lean ====
section
/-! DEFINITION. The passenger sensing unit (chapter 7): beam filters, crossing decoders and counts, the hold, and
the gap check. -/

namespace Sys2Proof.Machine

/-! ### Crossings (R122, R123) -/

/-- The result of a crossing decoder's sequence (R122). -/
inductive CrossResult where
  | board | alight | undirected
  deriving DecidableEq, Repr

/-- The decoder position two beam levels give (R122). -/
def crossPos (inner outer : Bool) : CrossPos :=
  match inner, outer with
  | false, false => .none
  | true, false => .inner
  | true, true => .both
  | false, true => .outer

/-- The result of an unspoiled sequence by its entry and exit sides (R122). -/
def crossResult (entry exit : CrossPos) : Option CrossResult :=
  match entry, exit with
  | .inner, .outer => some .board
  | .outer, .inner => some .alight
  | .both, _ => some .undirected
  | .inner, .both | .outer, .both => some .undirected
  | _, _ => none

/-- A move of the crossing decoder to a position (R122). -/
def CrossDecoder.move (pos : CrossPos) (d : CrossDecoder) : CrossDecoder × Option CrossResult :=
  if pos = d.pos then (d, none)
  else if d.pos = .none then (⟨pos, some pos, false⟩, none)
  else if pos = .none then
    (.idle, if d.spoiled then none else
      match d.entry with
      | none => none
      | some e => crossResult e d.pos)
  else ({ d with pos := pos }, none)

/-- The decoder at the priming of its filters: any sequence abandoned, a new one already spoiled (R120). -/
def CrossDecoder.prime (pos : CrossPos) : CrossDecoder :=
  if pos = .none then .idle else ⟨pos, some pos, true⟩

/-- One count, which stays at 65,535 and marks the door saturated (R123): the mark is set at a result that finds the
count there, not at the one that brings it there (assumption 49: the model's choice). -/
def bump (n : Nat) : Nat × Bool := if n ≥ 65535 then (65535, true) else (n + 1, false)

/-- A result added to a door's counts (R123). -/
def Counts.add (r : CrossResult) (c : Counts) : Counts :=
  match r with
  | .board => { c with board := (bump c.board).1, saturated := c.saturated || (bump c.board).2 }
  | .alight => { c with alight := (bump c.alight).1, saturated := c.saturated || (bump c.alight).2 }
  | .undirected =>
    { c with undirected := (bump c.undirected).1, saturated := c.saturated || (bump c.undirected).2 }

/-! ### The beams of one accepted reply (R120, R121) -/

/-- What a handed pair of beam levels brought. -/
structure BeamStep where
  sense : Sense
  result : Option CrossResult
  /-- An accepted change of the outer beam to BLOCKED. -/
  outerBlocked : Bool
  deriving DecidableEq, Repr

/-- Beam levels handed over for a door: priming, or one step of both filters with one decoder move and the
quiet timer started at an accepted change (R120, R121, R122). -/
def Sense.hand (params : FaceParams) (inner outer : Bool) (x : Sense) : BeamStep :=
  if x.inner.primed then
    let i := x.inner.sample params.fBeam inner
    let o := x.outer.sample params.fBeam outer
    let accepted : Bool := i.2 || o.2
    let m := x.dec.move (crossPos i.1.level o.1.level)
    { sense := { x with inner := i.1, outer := o.1, dec := m.1,
                        quietT := if accepted then some params.tQuiet else x.quietT }
      result := m.2
      outerBlocked := o.2 && o.1.level }
  else
    { sense := { x with inner := .prime inner, outer := .prime outer, dec := .prime (crossPos inner outer) }
      result := none
      outerBlocked := false }

/-! ### The gap check's judgement (R129, R131, R132) -/

/-- The gap state becomes FAILED, and a waiting CLOSE takes the conclusion (R129, R132). -/
def gapFails (f : Face) (cause : GapCause) (door : Option DoorIx) (p : Part) : Part :=
  p |> gapTo f .failed cause door |> concludeGap f .failed

/-- A gap reopen order given and taken: the reopen cycle, the order, its GAP report, and the grants (R129, R130,
R134). -/
def gapReopen (f : Face) (d : DoorIx) (p : Part) : Part :=
  (p.modFace f fun r => r.modSense d fun x => { x with inCycle := true })
    |> gapReopenOrder f d
    |> (fun p => queueGapReport f (p.face f).gap.state .reopen (some d) p)
    |> grantEvent

/-- An accepted change of a watched door's outer beam to BLOCKED, in RUNNING (R129). -/
def judgeBlocked (f : Face) (d : DoorIx) (p : Part) : Part :=
  let r := p.face f
  if r.gap.state = .running ∧ r.watched d ∧ r.sense[d].inCycle = false then
    match r.doors[d].state with
    | .preClose | .held | .closeQueued | .closing | .proving | .reopening | .closedLocked =>
      if r.doors[d].gapReopens < 2 then
        if r.doors[d].takesGapReopen then gapReopen f d p else gapFails f .reopenRefused (some d) p
      else gapFails f .reopensSpent (some d) p
    | .unknown | .openQueued | .unlocking | .opening | .opened | .obstructed | .released | .discrepant
    | .lost => p
  else p

/-- The beam levels of an accepted reply are handed over for a door (R120 to R123, R129). -/
def beamHandover (f : Face) (d : DoorIx) (inner outer : Bool) (p : Part) : Part :=
  let r := p.face f
  if r.configured d then
    let st := r.sense[d].hand r.params inner outer
    let p := p.modFace f fun r => r.modSense d fun _ => st.sense
    let p := match st.result with
      | none => p
      | some res =>
        if r.gap.counting then onDoor f d (fun x => { x with counts := x.counts.add res }) p else p
    if st.outerBlocked then judgeBlocked f d p else p
  else p

/-! ### Quiet and hold timers (R121, R125, R130) -/

/-- The hold rule settles a quiet door: the close order is given and the hold timer stops, whether or not the order
is taken (R125). The order's DOOR report carries cause ORDER and not TIMER (R76; assumption 52: the model's choice). -/
def settleHeld (f : Face) (d : DoorIx) (p : Part) : Part :=
  (p.modFace f fun r => r.modSense d fun x => { x with holdT := none }) |> closeOrder f d .ordinary .order |> grantEvent

/-- The quiet timer expires: the hold rule and the reclose rule test the door (R121, R125, R130). -/
def quietExpiry (f : Face) (d : DoorIx) (p : Part) : Part :=
  if (p.face f).sense[d].quietT.isSome then
    let p := p.modFace f fun r => r.modSense d fun x => { x with quietT := none }
    let r := p.face f
    if r.sense[d].quiet then
      if r.doors[d].state = .held then settleHeld f d p
      else if r.doors[d].state = .opened ∧ r.sense[d].inCycle then rewarn f d p
      else p
    else p
  else p

/-- The hold timer expires: a forced-close order (R125). Its DOOR report carries cause ORDER and not TIMER (R76;
assumption 52: the model's choice). -/
def holdExpiry (f : Face) (d : DoorIx) (p : Part) : Part :=
  if (p.face f).sense[d].holdT.isSome then
    let p := p.modFace f fun r => r.modSense d fun x => { x with holdT := none }
    if (p.face f).doors[d].state = .held then grantEvent (closeOrder f d .forced .order p) else p
  else p

/-! ### Gap end beams and the gap timer (R126, R128, R131) -/

/-- One sample of a gap end beam; an accepted change to BLOCKED in RUNNING fails the check (R126, R129). -/
def endBeamSample (f : Face) (beam : EndBeam) (blocked : Bool) (p : Part) : Part :=
  let r := p.face f
  if r.geom.isSome then
    let x := (match beam with
      | .head => r.gap.headBeam
      | .tail => r.gap.tailBeam).sample r.params.fPanel blocked
    let p := p.modFace f fun r => r.modGap fun g =>
      match beam with
      | .head => { g with headBeam := x.1 }
      | .tail => { g with tailBeam := x.1 }
    if x.2 ∧ blocked ∧ r.gap.state = .running then gapFails f .endBeam none p else p
  else p

/-- The gap timer runs exactly while the strip reads clear and the check waits for no door (R128). -/
def gapTimerUpdate (r : FaceRec) : FaceRec :=
  r.modGap fun g =>
    { g with timer :=
        if g.state = .running ∧ r.gapClear ∧ r.waitingDoors.isEmpty then
          (match g.timer with
           | none => some r.params.tGap
           | some t => some t)
        else none }

/-- The gap check at the end of an event: the return from FAILED, and the gap timer (R128, R131). -/
def gapUpdate (f : Face) (p : Part) : Part :=
  let r := p.face f
  (if r.gap.state = .failed ∧ r.gapClear then gapTo f .running .beamsClear none p else p)
    |> fun p => p.modFace f gapTimerUpdate

/-- The gap timer expires: PASSED, and a waiting CLOSE takes the conclusion (R128, R132). -/
def gapExpiry (f : Face) (p : Part) : Part :=
  if (p.face f).gap.timer.isSome ∧ (p.face f).gap.state = .running then
    p |> gapTo f .passed .timer none |> concludeGap f .passed
  else p

/-- The gap check ends at the berth's EMPTY entry and at a geometry load (R126, R133). -/
def endGapCheck (f : Face) (cause : GapCause) (p : Part) : Part :=
  (p.modFace f endCycles) |> gapTo f .notRequired cause none

/-! ### The dwell's counts (R123) -/

/-- The COUNTS report of a face (R123). -/
def queueCounts (f : Face) (p : Part) : Part :=
  let r := p.face f
  queueReport (.counts f r.berth.dwell (r.configuredDoors.map fun d => (d, r.doors[d].counts))) p

/-- The end of a dwell at the door table and the passenger sensing unit: counts, attempts and reopens return to
zero, and counting ends (R33, R123). The attempts and gap reopens of a record that is not configured are cleared too
(R75; assumption 40: the model's choice). -/
def clearDwell (r : FaceRec) : FaceRec :=
  ({ r with doors := mapVec (fun (x : Door) => { x with counts := .zero, attempts := 0, gapReopens := 0 }) r.doors }).modGap
    fun g => { g with counting := false }

end Sys2Proof.Machine
end

