-- ==== Sys2Proof/Machine/Align.lean ====
section
/-! DEFINITION. The alignment unit (chapter 3): the stages, the record's clearing and setting aside, and the
automatic opening. -/

namespace Sys2Proof.Machine

/-! ### Status and nose (R42 to R44) -/

/-- The axle check of a berth record (R28). -/
def Berth.axleCheck (b : Berth) : AxleCheck :=
  match b.ann with
  | none => .notAnnounced
  | some a =>
    if b.unchecked then .unchecked else if b.axles = a.expected then .agrees else .differs

/-- The window class of a stop error (R44). -/
def windowOf (params : FaceParams) (e : Int) : Window :=
  if e.natAbs ≤ params.wAuto then .aligned else if e.natAbs ≤ params.wExt then .marginal else .outOfWindow

/-- Stages 1 and 2: the nose of a monotone pattern with k clear detectors (R43, R44). -/
def noseOf (g : Geometry) (params : FaceParams) (k : Nat) : Nose :=
  let n := g.d0 + k * g.pitch - g.pitch / 2
  let e : Int := (n : Int) - (g.s0 : Int)
  { n := n, h := g.pitch / 2, e := e, window := windowOf params e }

/-- A window class as a status (R42 condition 7). -/
def Window.status : Window → AlignStatus
  | .aligned => .aligned
  | .marginal => .marginal
  | .outOfWindow => .outOfWindow

/-- What the conditions of R42 decide: a status for which no stage runs, or the stages to run. -/
inductive StatusPlan where
  | noStage (s : AlignStatus)
  | noseOnly
  | whole (mismatch : Bool)
  deriving DecidableEq, Repr

/-- The conditions of R42, in their order. -/
def statusPlan (b : Berth) : StatusPlan :=
  let pat := b.pattern
  let k := clearCount pat
  if b.overrun then .noStage .overrun
  else if !monotone pat then .noStage .positionUncertain
  else if k = 0 then .noStage .overrun
  else if k = pat.length then .noStage .undershoot
  else
    match b.axleCheck with
    | .notAnnounced => .noseOnly
    | .differs => .whole true
    | .unchecked | .agrees => .whole false

/-! ### Train door intervals (R45, R46) -/

/-- A closed interval of x. -/
structure Interval where
  lo : Int
  hi : Int
  deriving DecidableEq, Repr

/-- A train door placed along the face with the nose at N. -/
structure PlacedDoor where
  ref : TrainDoorRef
  span : Interval
  deriving DecidableEq, Repr

/-- A profile of the store, or an empty one where it is absent. -/
def Part.profileOf (p : Part) (u : UnitEntry) : Profile := (p.profiles[u.profile]).getD ⟨0, 0, 0, []⟩

/-- The placed offset of a train door (R46). -/
def placedOffset (o : Orientation) (len : Nat) (t : TrainDoor) : Int :=
  match o with
  | .aLeads => t.a
  | .bLeads => (len : Int) - t.a - t.t

/-- The placed doors of one unit with its base (R46). -/
def placeUnit (unitIx : Nat) (base : Int) (o : Orientation) (pr : Profile) : List PlacedDoor :=
  pr.doors.zipIdx.map fun x =>
    let lo := base + placedOffset o pr.len x.1
    ⟨⟨unitIx, x.2⟩, ⟨lo, lo + x.1.t⟩⟩

/-- Stage 3: the train doors of the announced units, unit 0 first (R45, R46). -/
def placeTrain (p : Part) (units : List UnitEntry) (n : Nat) : List PlacedDoor :=
  match units with
  | [] => []
  | [u] => placeUnit 0 n u.orientation (p.profileOf u)
  | u :: v :: _ =>
    let pu := p.profileOf u
    let pv := p.profileOf v
    placeUnit 0 n u.orientation pu ++
      placeUnit 1 ((n : Int) + pu.len + pu.coupler + pv.coupler) v.orientation pv

/-! ### Overlap and verdicts (R47 to R49) -/

/-- The width two intervals share (R47). -/
def overlap (x y : Interval) : Nat := (min x.hi y.hi - max x.lo y.lo).toNat

/-- An interval shifted along x. -/
def Interval.shift (i : Interval) (by_ : Int) : Interval := ⟨i.lo + by_, i.hi + by_⟩

/-- The worst-case overlap of an opening and a train door with uncertainty h (R47). -/
def worstOverlap (h : Nat) (opening : Interval) (t : Interval) : Nat :=
  min (overlap opening (t.shift (-(h : Int)))) (overlap opening (t.shift h))

/-- The opening of a platform door (R47). -/
def opening (g : DoorGeom) : Interval := ⟨(g.xc : Int) - (g.w / 2 : Nat), (g.xc : Int) + (g.w / 2 : Nat)⟩

/-- The largest worst-case overlap, and the first train door that gives it (R48). -/
def bestOf (h : Nat) (o : Interval) (ts : List PlacedDoor) : Nat × Option TrainDoorRef :=
  ts.foldl (fun acc t =>
    let v := worstOverlap h o t.span
    if v > acc.1 then (v, some t.ref) else acc) (0, none)

/-- The verdict an overlap gives (R48). -/
def verdictOf (oMin ov : Nat) : Verdict :=
  if ov ≥ oMin then .vMatch else if ov > 0 then .vPartial else .vNone

/-- Stage 4 for one platform door (R48). -/
def doorEntry (oMin h : Nat) (ts : List PlacedDoor) (g : DoorGeom) : DoorEntry :=
  let b := bestOf h (opening g) ts
  ⟨verdictOf oMin b.1, b.1, b.2⟩

/-- Stage 5: the train doors no platform door serves (R49). -/
def unservedOf (oMin h : Nat) (ts : List PlacedDoor) (gs : List DoorGeom) : List TrainDoorRef :=
  (ts.filter fun t => gs.all fun g => decide (worstOverlap h (opening g) t.span < oMin)).map PlacedDoor.ref

/-! ### The computation (R41) -/

/-- The alignment record a computation writes (R41 to R49). -/
def alignRecord (p : Part) (f : Face) (cause : AlignCause) : AlignRec :=
  let r := p.face f
  let b := r.berth
  match r.geom with
  | none => { r.align with cause := cause }
  | some g =>
    let unknown := g.doors.map fun _ => DoorEntry.unknown
    let nose := noseOf g r.params (clearCount b.pattern)
    match statusPlan b with
    | .noStage s =>
      { status := s, cause := cause, dwell := b.dwell, axleCheck := b.axleCheck, nose := none, doors := unknown,
        unserved := [] }
    | .noseOnly =>
      { status := .notAnnounced, cause := cause, dwell := b.dwell, axleCheck := b.axleCheck, nose := some nose,
        doors := unknown, unserved := [] }
    | .whole mismatch =>
      let ts := placeTrain p ((b.ann.map Announcement.units).getD []) nose.n
      { status := if mismatch then .consistMismatch else nose.window.status
        cause := cause, dwell := b.dwell, axleCheck := b.axleCheck, nose := some nose
        doors := g.doors.map (doorEntry r.params.oMin nose.h ts)
        unserved := unservedOf r.params.oMin nose.h ts g.doors }

/-- The door entry of a door index: UNKNOWN where the record has none (R40). -/
def AlignRec.entryOf (a : AlignRec) (d : DoorIx) : DoorEntry := (a.doors[d.val]?).getD .unknown

/-- A door's verdict and ov are handed to the door table; the cue is chosen anew (R41, R96). -/
def handVerdict (a : AlignRec) (d : DoorIx) (r : FaceRec) : FaceRec :=
  chooseCue d (r.modDoor d fun x => { x with verdict := (a.entryOf d).verdict, ov := (a.entryOf d).ov })

/-- The record is written and its verdicts are handed to the configured doors (R41, R51, R52). -/
def writeAlign (f : Face) (a : AlignRec) (p : Part) : Part :=
  p.modFace f fun r => r.configuredDoors.foldl (fun r d => handVerdict a d r) { r with align := a }

/-- The automatic-opening test, on the record as it stands (R55). -/
def autoTest (r : FaceRec) : Bool :=
  (decide (r.align.cause = .stopped) || decide (r.align.cause = .reannounce)) && !r.berth.served &&
    (match r.berth.ann with
     | none => false
     | some a => a.autoOpen) &&
    decide (r.align.axleCheck = .agrees) && decide (r.align.status = .aligned) && decide (r.mode.mode = .auto)

/-- The OPEN an automatic-opening notice asks for (R55, R102). -/
def autoReq : OpenReq := ⟨.auto, 0, false, none⟩

/-- The face sequencer takes or refuses the notice by the checks of R102 (R55). -/
def takeNotice (f : Face) (p : Part) : Part :=
  match openCheck f autoReq p with
  | none => takeOpen f autoReq p
  | some _ => p

/-- The automatic-opening test: when it succeeds the notice is handed to the face sequencer, which takes it at the
command AUTOMATIC_OPENING_NOTICE (R55; assumption 20). -/
def openingTest (r : FaceRec) : FaceRec := { r with notice := autoTest r }

/-- The test at a computation; during a wake round the face mode controller holds the notice (R55, R154). -/
def noticeTest (r : FaceRec) : FaceRec :=
  if autoTest r && r.mode.wakeRound then { r.modMode fun m => { m with heldNotice := true } with notice := false }
  else openingTest r

/-- The notice reaches the face sequencer, if one was handed on and none of its conditions has gone since: a train
that has been served meanwhile is not opened again (R55, R102; assumption 20). -/
def noticeArrives (f : Face) (p : Part) : Part :=
  let r := p.face f
  let p := p.modFace f FaceRec.dropNotice
  if r.notice ∧ autoTest r then takeNotice f p else p

/-- A computation of the alignment record, with its ALIGN report, the fire opening test and the automatic-opening
test (R41, R50, R55, R144). -/
def computeAlign (f : Face) (cause : AlignCause) (p : Part) : Part :=
  let a := alignRecord p f cause
  p |> writeAlign f a |> queueReport (.align f a) |> fireOpenTest f allDoors
    |> fun p => p.modFace f noticeTest

/-! ### Clearing and setting aside (R51, R52) -/

/-- The record cleared to NOT_COMPUTED; the dwell counter field is kept (R51). -/
def clearedAlign (r : FaceRec) (cause : AlignCause) : AlignRec :=
  { status := .notComputed, cause := cause, dwell := r.align.dwell, axleCheck := .notAnnounced, nose := none
    doors := List.replicate r.n DoorEntry.unknown, unserved := [] }

/-- The record is cleared (R51). -/
def clearAlign (f : Face) (cause : AlignCause) (p : Part) : Part :=
  writeAlign f (clearedAlign (p.face f) cause) p

/-- The record is set aside as MOVED, with its ALIGN report (R52). -/
def moveAlign (f : Face) (cause : AlignCause) (p : Part) : Part :=
  let r := p.face f
  let a := { r.align with status := .moved, cause := cause
                          doors := r.align.doors.map (fun _ => DoorEntry.unknown), unserved := [] }
  p |> writeAlign f a |> queueReport (.align f a)

end Sys2Proof.Machine
end

