-- ==== Sys2Proof/Machine/Berth.lean ====
section
/-! DEFINITION. The berth monitor (chapter 2): axle decoders and counts, the pattern, arrival, service, the end of
a dwell, configuration, and the host's requests to the berth. -/

namespace Sys2Proof.Machine

/-! ### The axle decoder (R19, R20) -/

/-- The position two head levels give. -/
def axlePos (s1 s2 : Bool) : AxlePos :=
  match s1, s2 with
  | false, false => .none
  | true, false => .s1
  | true, true => .both
  | false, true => .s2

/-- The positions are neighbours (R20). -/
def neighbours (x y : AxlePos) : Bool :=
  match x, y with
  | .none, .s1 | .s1, .none | .s1, .both | .both, .s1 | .both, .s2 | .s2, .both | .s2, .none | .none, .s2 => true
  | _, _ => false

/-- The side of a single position. -/
def AxlePos.side : AxlePos → Option HeadSide
  | .s1 => some .s1
  | .s2 => some .s2
  | .none | .both => Option.none

/-- The direction an unspoiled sequence through BOTH is counted in, by its sides (R19). -/
def axleResult (entry exit : Option HeadSide) : Option AxleDir :=
  match entry, exit with
  | some .s1, some .s2 => some .inward
  | some .s2, some .s1 => some .outward
  | _, _ => Option.none

/-- A move of the decoder: the new decoder, the counted axle, and whether it is a decode error (R19, R20). -/
def AxleDecoder.move (pos : AxlePos) (d : AxleDecoder) : AxleDecoder × Option AxleDir × Bool :=
  if pos = d.pos then (d, Option.none, false)
  else
    let err := !neighbours d.pos pos
    if pos = .none then
      (.idle, if d.spoiled || err || !d.passedBoth then Option.none else axleResult d.entry d.pos.side, err)
    else
      ({ pos := pos
         entry := d.entry.or pos.side
         spoiled := d.spoiled || err
         passedBoth := d.passedBoth || decide (pos = .both) }, Option.none, err)

/-- The decoder at priming: a position other than NONE starts a spoiled sequence (R18). A position S1 or S2 is recorded
as its entry side, though the side the wheel came from is not known (assumption 24: the model's choice). -/
def AxleDecoder.prime (pos : AxlePos) : AxleDecoder :=
  if pos = .none then .idle else ⟨pos, pos.side, true, decide (pos = .both)⟩

/-- An axle unit at the first sample after a geometry load (R18). -/
def AxleUnit.prime (s1 s2 : Bool) : AxleUnit := ⟨.prime s1, .prime s2, .prime (axlePos s1 s2)⟩

/-! ### Entries -/

/-- Restart the settle timer (R25). -/
def restartSettle (r : FaceRec) : FaceRec := r.modBerth fun b => { b with settle := some r.params.tSettle }

/-- The berth enters EMPTY from another state, with the effects of R33. -/
def enterEmpty (f : Face) (cause : BerthCause) (p : Part) : Part :=
  (p.modFace f fun r => r.modBerth fun b =>
      { b with ann := none, axles := 0, overrun := false, unannounced := false, unchecked := false, served := false })
    |> enterBerth f .empty cause
    |> clearAlign f .empty
    |> queueCounts f
    |> (fun p => p.modFace f clearDwell)
    |> endGapCheck f .empty
    |> sequencerEmpty f

/-- The berth enters STOPPED (R28, R123, R41). -/
def enterStopped (f : Face) (cause : BerthCause) (p : Part) : Part :=
  (p.modFace f fun r => r.modBerth fun b => { b with dwell := b.dwell + 1 })
    |> enterBerth f .stopped cause
    |> (fun p => p.modFace f fun r => r.modGap fun g => { g with counting := true })
    |> computeAlign f .stopped

/-- The berth enters ROLLING (R32, R52, R111). -/
def enterRolling (f : Face) (p : Part) : Part :=
  p |> enterBerth f .rolling .sensors |> moveAlign f .rolling |> sequencerRolling f

/-- The berth enters DEPARTING (R31, R52). -/
def enterDeparting (f : Face) (p : Part) : Part :=
  p |> enterBerth f .departing .sensors |> moveAlign f .departing

/-- Every configured door is CLOSED_LOCKED (R31). -/
def FaceRec.allClosed (r : FaceRec) : Bool := r.configuredDoors.all fun d => decide (r.doors[d].state = .closedLocked)

/-- ARRIVING and DEPARTING give way to EMPTY at an event after which nothing is in the berth (R33). -/
def emptyIfVacant (f : Face) (p : Part) : Part :=
  let b := (p.face f).berth
  if (b.state = .arriving ∨ b.state = .departing) ∧ b.vacant then enterEmpty f .sensors p else p

/-! ### Movement (R25, R27, R29, R31, R32) -/

/-- A movement: `arrives` is set for a count that raised A above 0 or a detector that became occupied. -/
def movement (f : Face) (arrives : Bool) (p : Part) : Part :=
  let r := p.face f
  let p := match r.berth.state with
    | .empty =>
      if arrives then
        (p.modFace f fun r => r.modBerth fun b => { b with unannounced := true }) |> enterBerth f .arriving .sensors
      else p
    | .announced => if arrives then enterBerth f .arriving .sensors p else p
    | .arriving => p.modFace f restartSettle
    | .stopped =>
      if r.berth.served then if r.allClosed then enterDeparting f p else enterRolling f p
      else p |> enterBerth f .arriving .sensors |> clearAlign f .arriving
    | .serving | .cleared => if r.allClosed then enterDeparting f p else enterRolling f p
    | .rolling => if r.allClosed then enterDeparting f p else p.modFace f restartSettle
    | .departing => p
    | .unreckoned => p.modFace f restartSettle
  emptyIfVacant f p

/-! ### Axles (R17, R20 to R23) -/

/-- The AXLE_FAULT report of a face (R23); it is queued before any movement of its count, so it carries the berth state
before the movement (assumption 32: the model's choice). -/
def queueAxleFault (f : Face) (sensor : AxleSensor) (fault : AxleFault) (move : Option (AxlePos × AxlePos))
    (p : Part) : Part :=
  let b := (p.face f).berth
  queueReport (.axleFault f
    { sensor := sensor, fault := fault, berth := b.state, axles := b.axles, dwell := b.dwell, move := move }) p

/-- In UNRECKONED with no announcement counted axles leave A at 0 (R21). -/
def Berth.countsHeld (b : Berth) : Bool := decide (b.state = .unreckoned) && b.ann.isNone

/-- A counted axle changes A, with its UNDERFLOW or OVERFLOW report, which carries the berth state before the movement
of the same count (R21, R23; assumption 32). -/
def countAxle (f : Face) (sensor : AxleSensor) (dir : AxleDir) (p : Part) : Part :=
  let b := (p.face f).berth
  if b.countsHeld then p
  else
    match dir with
    | .inward =>
      if b.axles ≥ 255 then queueAxleFault f sensor .overflow none p
      else p.modFace f fun r => r.modBerth fun b => { b with axles := b.axles + 1 }
    | .outward =>
      if b.axles = 0 then queueAxleFault f sensor .underflow none p
      else p.modFace f fun r => r.modBerth fun b => { b with axles := b.axles - 1 }

/-- An outward count at the exit sensor in ARRIVING or STOPPED sets OVERRUN (R22). -/
def overrunAt (sensor : AxleSensor) (dir : AxleDir) (b : Berth) : Berth :=
  match sensor, dir, b.state with
  | .exit, .outward, .arriving | .exit, .outward, .stopped => { b with overrun := true }
  | _, _, _ => b

/-- A counted axle: the wake of an inward entry count, the count with its fault report, OVERRUN, and then the movement
(R19, R21, R22, R153; assumption 32). -/
def axleCounted (f : Face) (sensor : AxleSensor) (dir : AxleDir) (p : Part) : Part :=
  let p := if sensor = .entry ∧ dir = .inward then wakeFace f p else p
  let before := (p.face f).berth.axles
  let p := countAxle f sensor dir p
  let p := p.modFace f fun r => r.modBerth (overrunAt sensor dir)
  movement f (decide ((p.face f).berth.axles > before)) p

/-- The axle unit of a sensor. -/
def Berth.axleUnit (b : Berth) : AxleSensor → AxleUnit
  | .entry => b.entry
  | .exit => b.exit

/-- Store the axle unit of a sensor. -/
def Berth.setAxleUnit (s : AxleSensor) (u : AxleUnit) (b : Berth) : Berth :=
  match s with
  | .entry => { b with entry := u }
  | .exit => { b with exit := u }

/-- One sample of the two heads of a sensor (R17 to R20, R35). -/
def axleSample (f : Face) (sensor : AxleSensor) (s1 s2 : Bool) (p : Part) : Part :=
  let r := p.face f
  if r.geom.isSome then
    let u := r.berth.axleUnit sensor
    let x := u.s1.sample r.params.fAxle s1
    let y := u.s2.sample r.params.fAxle s2
    let m := u.dec.move (axlePos x.1.level y.1.level)
    if x.2 || y.2 then
      let p := p.modFace f fun r => r.modBerth fun b => b.setAxleUnit sensor ⟨x.1, y.1, m.1⟩
      let p := if (p.face f).berth.state = .unreckoned then p.modFace f restartSettle else p
      let p := if m.2.2 then
          queueAxleFault f sensor .decode (some (u.dec.pos, axlePos x.1.level y.1.level)) p else p
      match m.2.1 with
      | none => p
      | some dir => axleCounted f sensor dir p
    else p.modFace f fun r => r.modBerth fun b => b.setAxleUnit sensor ⟨x.1, y.1, u.dec⟩
  else p

/-! ### Detectors (R24) -/

/-- One sample of a stop detector; an accepted change is movement (R24, R25). -/
def detectorSample (f : Face) (i : Fin 16) (occupied : Bool) (p : Part) : Part :=
  let r := p.face f
  match r.berth.detectors[i.val]? with
  | none => p
  | some flt =>
    let x := flt.sample r.params.fAxle occupied
    let p := p.modFace f fun r => r.modBerth fun b => { b with detectors := b.detectors.set i.val x.1 }
    if x.2 then movement f occupied p else p

/-! ### The settle timer (R28, R32, R35) -/

/-- Both decoders wait in NONE (R35). -/
def Berth.decodersIdle (b : Berth) : Bool := decide (b.entry.dec.pos = .none) && decide (b.exit.dec.pos = .none)

/-- The settle timer's expiry in UNRECKONED (R35). -/
def settleUnreckoned (f : Face) (p : Part) : Part :=
  let b := (p.face f).berth
  if b.allClear && b.decodersIdle then
    let p := p.modFace f fun r => r.modBerth fun b => { b with axles := 0, unchecked := false }
    if b.ann.isSome then enterBerth f .announced .settle p else enterEmpty f .settle p
  else if b.ann.isSome then
    (p.modFace f fun r => r.modBerth fun b => { b with unchecked := true }) |> enterStopped f .settle
  else p

/-- The settle timer expires (R28, R32, R35). -/
def settleExpiry (f : Face) (p : Part) : Part :=
  if (p.face f).berth.settle.isSome then
    let p := p.modFace f fun r => r.modBerth fun b => { b with settle := none }
    let b := (p.face f).berth
    match b.state with
    | .arriving => enterStopped f .settle p
    | .rolling => if b.vacant then enterEmpty f .settle p else enterStopped f .settle p
    | .unreckoned => settleUnreckoned f p
    | .empty | .announced | .stopped | .serving | .cleared | .departing => p
  else p

/-! ### Configuration (R34, R18, R126) -/

/-- The berth record at a geometry load with M detectors (R34). Until the first sample primes them the filters hold no
level (R18), and the decoders stand in NONE, unspoiled, with every detector clear (assumption 33: the model's choice). -/
def Berth.configure (m : Nat) (b : Berth) : Berth :=
  { b with settle := none, axles := 0, overrun := false, unannounced := false, unchecked := false,
           entry := .reset, exit := .reset, detectors := List.replicate m .reset, configuring := true }

/-- The filters and decoders of a face at its first sample after a geometry load (R18, R24, R126). -/
def primeTrack (s : TrackSample) (r : FaceRec) : FaceRec :=
  (r.modBerth fun b =>
      { b with
        entry := .prime s.entryS1 s.entryS2
        exit := .prime s.exitS1 s.exitS2
        detectors := b.detectors.zipIdx.map fun x => .prime ((s.detectors.toList[x.2]?).getD false)
        configuring := false }).modGap
    fun g => { g with headBeam := .prime s.headBeam, tailBeam := .prime s.tailBeam }

/-- The first sample after a geometry load ends the configuration event (R18, R34). R34 holds that no announcement can be
held then; one taken since the load, at a face that went from MAINT to FIRE, is cleared with the EMPTY entry, or held on
in UNRECKONED with A and AXLES_UNCHECKED as they stand, 0 and clear unless the berth was UNRECKONED already (assumption
47: the model's choice). -/
def firstSample (f : Face) (s : TrackSample) (p : Part) : Part :=
  if (p.face f).berth.configuring then
    let p := p.modFace f (primeTrack s)
    let b := (p.face f).berth
    if b.allClear then if b.state = .empty then p else enterEmpty f .config p
    else enterBerth f .unreckoned .config p
  else p

/-! ### Host requests to the berth (R36 to R38) -/

/-- The checks of R36 and R37 for enumeration and mode. -/
def berthModeCheck (r : FaceRec) : Option Answer :=
  firstFail
    [ (r.enumerating, .plain .busy),
      (decide (r.mode.mode = .unconfigured) || decide (r.mode.mode = .maint), .plain .wrongMode) ]

/-- A train being served or leaving (R36, R37). -/
def Berth.engaged (b : Berth) : Bool :=
  match b.state with
  | .serving | .rolling | .cleared | .departing => true
  | .empty | .announced | .arriving | .stopped | .unreckoned => false

/-- The units of an announcement: the index of the first bad one, or the entries (R36 step 4). -/
def readUnits (p : Part) : Nat → List (Byte × Byte) → Except Nat (List UnitEntry)
  | _, [] => .ok []
  | i, (id, o) :: rest =>
    if h : id.toNat < 8 then
      if o.toNat ≥ 2 ∨ (p.profiles[id.toNat]).isNone then .error i
      else
        match readUnits p (i + 1) rest with
        | .error j => .error j
        | .ok us => .ok (⟨⟨id.toNat, h⟩, if o = 0 then .aLeads else .bLeads⟩ :: us)
    else .error i

/-- The expected axles of an announcement (R36). -/
def expectedAxles (p : Part) (us : List UnitEntry) : Nat := (us.map fun u => (p.profileOf u).axles).sum

/-- An ANNOUNCE_TRAIN that is taken (R36, R35). -/
def takeAnnouncement (f : Face) (a : Announcement) (p : Part) : Part :=
  let p := wakeFace f p
  let p := p.modFace f fun r => r.modBerth fun b => { b with ann := some a }
  match (p.face f).berth.state with
  | .empty => enterBerth f .announced .announce p
  | .arriving => p.modFace f fun r => r.modBerth fun b => { b with unannounced := false }
  | .stopped =>
    (p.modFace f fun r => r.modBerth fun b => { b with unannounced := false }) |> computeAlign f .reannounce
  | .unreckoned =>
    p.modFace f fun r => restartSettle (r.modBerth fun b => { b with unchecked := true, axles := a.expected })
  | .announced | .serving | .cleared | .departing | .rolling => p

/-- ANNOUNCE_TRAIN (R36). -/
def announceTrain (f : Face) (autoOpen : Bool) (units : List (Byte × Byte)) (p : Part) : Answer × Part :=
  let r := p.face f
  match berthModeCheck r with
  | some ans => (ans, p)
  | none =>
    if r.berth.engaged then (.plain .busy, p)
    else if units.length = 1 ∨ units.length = 2 then
      match readUnits p 0 units with
      | .error i => (badValue (byteOf i), p)
      | .ok us => (.plain .done, takeAnnouncement f ⟨us, autoOpen, expectedAxles p us⟩ p)
    else (badValue 255, p)

/-- The announcement is cleared by a withdrawal (R37). -/
def dropAnnouncement (b : Berth) : Berth := { b with ann := none, unannounced := true }

/-- WITHDRAW_TRAIN (R37). -/
def withdrawTrain (f : Face) (p : Part) : Answer × Part :=
  let r := p.face f
  match berthModeCheck r with
  | some ans => (ans, p)
  | none =>
    match r.berth.state, r.berth.ann with
    | .announced, _ => (.plain .done, enterEmpty f .withdraw p)
    | .arriving, some _ => (.plain .done, p.modFace f fun r => r.modBerth dropAnnouncement)
    | .stopped, some _ =>
      (.plain .done, (p.modFace f fun r => r.modBerth dropAnnouncement) |> computeAlign f .withdraw)
    | .unreckoned, some _ =>
      (.plain .done, p.modFace f fun r =>
        restartSettle (r.modBerth fun b => { b with ann := none, unchecked := false, axles := 0 }))
    | .serving, _ | .rolling, _ | .cleared, _ | .departing, _ => (.plain .busy, p)
    | .empty, _ | .arriving, none | .stopped, none | .unreckoned, none => (.plain .noTrain, p)

/-- A sequence in progress is marked spoiled (R38). -/
def AxleUnit.spoil (u : AxleUnit) : AxleUnit :=
  if u.dec.pos = .none then u else { u with dec := { u.dec with spoiled := true } }

/-- CLEAR_BERTH (R38). Between a geometry load and its first sample every detector reads clear (assumption 33: the
model's choice). -/
def clearBerth (f : Face) (p : Part) : Answer × Part :=
  let r := p.face f
  if r.enumerating then (.plain .busy, p)
  else if r.geom.isNone ∨ r.berth.allClear = false then (.plain .wrongMode, p)
  else if r.berth.state = .empty then (.plain .done, p)
  else
    (.plain .done,
      (p.modFace f fun r => r.modBerth fun b =>
          { b with axles := 0, entry := b.entry.spoil, exit := b.exit.spoil })
        |> enterEmpty f .clear)

end Sys2Proof.Machine
end

