-- ==== Sys2Proof/Machine/Judge.lean ====
section
/-! DEFINITION. The door table's application of an accepted report (R77, R78, R80, R81, R85, R87 to R92), a door's
return from LOST, and DOOR_ISOLATE, DOOR_READMIT and DOOR_RESTORE (R82, R95). -/

namespace Sys2Proof.Machine

/-! ### Tests on a report -/

/-- Closed switch CLOSED, lock LOCKED, motion IDLE. -/
def DoorReport.shut (rep : DoorReport) : Bool := rep.closed && rep.locked && decide (rep.motion = .idle)

/-- The report shows a unit fault. -/
def DoorReport.faulty (rep : DoorReport) : Bool := decide (rep.fault ≠ .none)

/-- The report shows the key out of AUTO (R77). -/
def DoorReport.keyOut (rep : DoorReport) : Bool := decide (rep.key ≠ .auto)

/-- The leaf moves under its drive. -/
def DoorReport.travelling (rep : DoorReport) : Bool := decide (rep.motion = .opening) || decide (rep.motion = .closing)

/-- Motion IDLE at full travel. -/
def DoorReport.fullyOpen (rep : DoorReport) : Bool := decide (rep.motion = .idle) && decide (rep.pos ≥ 980)

/-- Motion STALLED. -/
def DoorReport.stalled (rep : DoorReport) : Bool := decide (rep.motion = .stalled)

/-- The fields whose change wakes a face in STANDBY: all but the confirmation result (R153). -/
def DoorReport.sameAs (x y : DoorReport) : Bool := decide ({ x with confirm := .none } = { y with confirm := .none })

/-! ### The key-follow table (R81) -/

/-- A door's record as its key dictates (R81). -/
def Door.keyFollow (rep : DoorReport) (x : Door) : Door :=
  if rep.shut then x.closeLocked
  else if rep.motion = .opening then x.enter .opening
  else if rep.motion = .closing then x.enter .closing
  else { x.enter .opened with partialOpen := decide (rep.pos < 980) }

/-- Key isolation begins: start machinery, operation, timers, order, reopen cause and forced mark (R81). -/
def beginKey (f : Face) (d : DoorIx) (p : Part) : Part :=
  p |> leaveOperation f d .excluded
    |> leaveMachinery f d
    |> onDoor f d (fun x => { x.stopTimers with order := none, reopenCause := none, forced := false })

/-! ### Classification (R77) -/

/-- The state a single report gives a door (R77); the report and the key isolation have been taken. The DOOR report of
the classification carries cause REPORT, at a first report after enumeration and at a return from LOST alike, where R76
names ENUMERATION and LINK too and no rule says which (assumption 52: the model's choice). -/
def classify (f : Face) (d : DoorIx) (rep : DoorReport) (p : Part) : Part :=
  if (p.face f).doors[d].latch ∨ rep.pulled then releaseDoor f d .report p
  else if rep.faulty then enterDiscrepant f d .unitFault .report false p
  else if rep.keyOut then changeDoor f d .report (Door.keyFollow rep) p
  else if rep.shut then changeDoor f d .report Door.closeLocked p
  else enterDiscrepant f d .returnedOpen .report false p

/-! ### The rule of the present state (R80, R87, R88, R90, R91, R92) -/

/-- A report outside the expectation: UNCOMMANDED, but never under WAITING (R78). -/
def uncommanded (f : Face) (d : DoorIx) (rep : DoorReport) (p : Part) : Part :=
  if rep.confirm = .waiting then p else enterDiscrepant f d .uncommanded .report false p

/-- A completed or partial opening, or a completed reversal: the door enters OPEN (R87, R88, R92). -/
def opensTo (f : Face) (d : DoorIx) (partialOpen : Bool) (p : Part) : Part :=
  changeDoor f d .report (Door.standOpen partialOpen) p

/-- UNLOCKING (R87, R88). -/
def judgeUnlocking (f : Face) (d : DoorIx) (rep : DoorReport) (p : Part) : Part :=
  let p := if rep.locked then p else onDoor f d (fun x => { x with unlockT := none }) p
  if !rep.locked && decide (rep.motion = .opening) then changeDoor f d .report (Door.enter .opening) p
  else if !rep.locked && rep.fullyOpen then opensTo f d false p
  else if !rep.locked && rep.stalled then opensTo f d true p
  else if rep.motion = .closing then uncommanded f d rep p
  else p

/-- OPENING (R87, R88). -/
def judgeOpening (f : Face) (d : DoorIx) (rep : DoorReport) (p : Part) : Part :=
  if rep.fullyOpen then opensTo f d false p
  else if rep.stalled then opensTo f d true p
  else if rep.locked ∨ rep.motion = .closing then uncommanded f d rep p
  else p

/-- CLOSING (R90, R91). -/
def judgeClosing (f : Face) (d : DoorIx) (rep : DoorReport) (p : Part) : Part :=
  if rep.closed && rep.locked then changeDoor f d .report Door.closeLocked p
  else if rep.closed then
    let tLock := (p.face f).params.tLock
    changeDoor f d .report (fun x => { x.enter .proving with motionT := none, lockProofT := some tLock }) p
  else if rep.stalled then obstruction f d p
  else if rep.motion = .opening then uncommanded f d rep p
  else p

/-- PROVING (R90). -/
def judgeProving (f : Face) (d : DoorIx) (rep : DoorReport) (p : Part) : Part :=
  if rep.closed && rep.locked then changeDoor f d .report Door.closeLocked p
  else if !rep.closed then uncommanded f d rep p
  else p

/-- REOPENING (R92). -/
def judgeReopening (f : Face) (d : DoorIx) (rep : DoorReport) (p : Part) : Part :=
  let x := (p.face f).doors[d]
  if rep.fullyOpen || rep.stalled then
    if x.pauseT.isSome then p
    else if x.reopenCause = some .obstruction then
      let tObst := (p.face f).params.tObst
      changeDoor f d .report (fun x =>
        { x with motionT := none, partialOpen := rep.stalled, pauseT := some tObst }) p
    else opensTo f d rep.stalled p
  else if rep.motion = .closing ∨ rep.locked then uncommanded f d rep p
  else p

/-- The rule of the door's present state judges a report: step 8 of R78. -/
def judgeState (f : Face) (d : DoorIx) (rep : DoorReport) (p : Part) : Part :=
  let x := (p.face f).doors[d]
  match x.state with
  | .closedLocked => if rep.shut then p else uncommanded f d rep p
  | .openQueued =>
    if x.fromOpen then if rep.locked || rep.travelling then uncommanded f d rep p else p
    else if rep.shut then p else uncommanded f d rep p
  | .opened => if rep.locked || rep.travelling then uncommanded f d rep p else p
  | .preClose | .held | .closeQueued => if rep.travelling then uncommanded f d rep p else p
  | .obstructed => if rep.locked || decide (rep.motion = .closing) then uncommanded f d rep p else p
  | .unlocking => judgeUnlocking f d rep p
  | .opening => judgeOpening f d rep p
  | .closing => judgeClosing f d rep p
  | .proving => judgeProving f d rep p
  | .reopening => judgeReopening f d rep p
  | .unknown | .released | .discrepant | .lost => p

/-! ### The steps of R78 -/

/-- The first line of R78 that holds; `oldKey` is the key isolation before the report. Whatever it makes of the door is
told with cause REPORT (R76; assumption 52: the model's choice). -/
def judgeLines (f : Face) (d : DoorIx) (oldKey : Bool) (rep : DoorReport) (p : Part) : Part :=
  let x := (p.face f).doors[d]
  if rep.pulled ∧ x.state ≠ .released then releaseDoor f d .report p
  else if x.state = .released then p
  else if rep.faulty ∧ x.state ≠ .discrepant then enterDiscrepant f d .unitFault .report false p
  else if oldKey ∧ x.keyIso = false then
    if rep.shut ∧ rep.faulty = false then changeDoor f d .report Door.closeLocked p
    else if x.state = .discrepant then p
    else enterDiscrepant f d .returnedOpen .report false p
  else if x.state = .discrepant then p
  else if x.keyIso then
    (if oldKey then p else beginKey f d p) |> changeDoor f d .report (Door.keyFollow rep)
  else if rep.confirm = .failed then enterDiscrepant f d .noConfirm .report false p
  else judgeState f d rep p

/-- The report shows enough travel to end the start phase of the movement (R85). -/
def travelled (s : DoorState) (pos : Nat) : Bool :=
  match s with
  | .unlocking | .opening => decide (pos ≥ 100)
  | .closing | .proving => decide (pos ≤ 900)
  | _ => true

/-- The start phase is judged after the state is settled (R78, R85). -/
def judgeStart (f : Face) (d : DoorIx) (rep : DoorReport) (p : Part) : Part :=
  if travelled (p.face f).doors[d].state rep.pos then endStart f d p else p

/-- In FIRE, the fire opening test for a door that has entered CLOSED_LOCKED or whose isolation source has become
NONE (R144). -/
def fireDoorTest (f : Face) (d : DoorIx) (before : Door) (p : Part) : Part :=
  let x := (p.face f).doors[d]
  if (x.state = .closedLocked ∧ before.state ≠ .closedLocked) ∨ (x.iso = .none ∧ before.iso ≠ .none) then
    fireOpenTest f [d] p
  else p

/-- The report and its key are taken into the record (R77, R78). -/
def storeReport (f : Face) (d : DoorIx) (rep : DoorReport) (p : Part) : Part :=
  p |> onDoor f d (fun x => { x with report := some rep })
    |> changeDoor f d .report (fun x => { x with keyIso := rep.keyOut })

/-- A report that differs from the door's latest one wakes a face in STANDBY (R153); with no latest report it counts as
differing (assumption 37: the model's choice). -/
def reportWakes (x : Door) (rep : DoorReport) : Bool :=
  match x.report with
  | none => true
  | some old => !rep.sameAs old

/-- The door table takes an accepted report (R77, R78, R83, R159). The proof is recomputed before the door is judged, and
at a return from LOST after it is classified, which decides the cause of a SECURED report where the gap state changes at
the same event (R160; assumption 53: the model's choice). -/
def applyReport (f : Face) (d : DoorIx) (rep : DoorReport) (p : Part) : Part :=
  let p := if reportWakes (p.face f).doors[d] rep then wakeFace f p else p
  let before := (p.face f).doors[d]
  let p := storeReport f d rep p
  let p := match before.state with
    | .unknown => p |> recomputeSecured f .report false |> classify f d rep
    | .lost => p |> classify f d rep |> recomputeSecured f .ret false
    | _ => p |> recomputeSecured f .report false |> judgeLines f d before.keyIso rep
  p |> judgeStart f d rep |> fireDoorTest f d before

/-! ### Requests for a door (R82, R95, R138) -/

/-- The checks of R82 for geometry, index and enumeration; the door index when they pass. -/
def doorCheck (r : FaceRec) (d : Byte) : Except Answer DoorIx :=
  if h : d.toNat < 24 then
    if d.toNat < r.n then if r.enumerating then .error (.plain .busy) else .ok ⟨d.toNat, h⟩
    else .error (badValue 255)
  else .error (badValue 255)

/-- A door's watched and fire standing after a change of isolation by the host; its DOOR report carries cause REQUEST
(R76; assumption 52: the model's choice). -/
def setHostIso (f : Face) (d : DoorIx) (iso : Bool) (p : Part) : Part :=
  let before := (p.face f).doors[d]
  p |> changeDoor f d .request (fun x => { x with hostIso := iso }) |> fireDoorTest f d before

/-- DOOR_ISOLATE (R82). -/
def doorIsolate (f : Face) (d : Byte) (p : Part) : Answer × Part :=
  match doorCheck (p.face f) d with
  | .error ans => (ans, p)
  | .ok d =>
    match (p.face f).doors[d].state with
    | .closedLocked | .opened | .obstructed | .discrepant => (.plain .done, setHostIso f d true p)
    | _ => (.plain .busy, p)

/-- DOOR_READMIT (R82). -/
def doorReadmit (f : Face) (d : Byte) (p : Part) : Answer × Part :=
  match doorCheck (p.face f) d with
  | .error ans => (ans, p)
  | .ok d => (.plain .done, setHostIso f d false p)

/-- The latest report shows handle NORMAL, closed switch CLOSED and lock LOCKED (R95). -/
def Door.restored (x : Door) : Bool :=
  match x.report with
  | none => false
  | some rep => !rep.pulled && rep.closed && rep.locked

/-- The latest report also shows motion IDLE (R95). -/
def Door.restedShut (x : Door) : Bool :=
  match x.report with
  | none => false
  | some rep => rep.shut && !rep.pulled

/-- The latest report shows a unit fault (R95). -/
def Door.reportFaulty (x : Door) : Bool :=
  match x.report with
  | none => false
  | some rep => rep.faulty

/-- The mode check of a single-door close attempt (R95). -/
def closeAttemptCheck (r : FaceRec) (d : DoorIx) : Option Answer :=
  firstFail
    [ (decide (r.mode.mode = .fire), .plain .fireActive),
      (r.mode.handover, .plain .localPending),
      (decide (r.mode.mode = .localCtl), .plain .localControl),
      (decide (r.mode.mode = .unconfigured) || decide (r.mode.mode = .standby), .plain .wrongMode),
      (r.doors[d].hostIso, badValue 255),
      (r.doors[d].keyIso, badValue 255) ]

/-- A single-door close attempt (R95): it joins no operation (R110). Its DOOR report carries cause REQUEST and not ORDER
(R76; assumption 52: the model's choice). -/
def closeAttempt (f : Face) (d : DoorIx) (p : Part) : Answer × Part :=
  match closeAttemptCheck (p.face f) d with
  | some ans => (ans, p)
  | none =>
    let r := p.face f
    let p := if r.doors[d].state = .obstructed then
        p.modFace f fun r => leaveOp d .obstructed (r.modDoor d fun x => { x with attempts := 0 })
      else p
    (.plain .accepted, p |> closeOrder f d .ordinary .request |> grantEvent)

/-- DOOR_RESTORE (R95, R138). Its DOOR report carries cause REQUEST (R76; assumption 52: the model's choice). -/
def doorRestore (f : Face) (d : Byte) (p : Part) : Answer × Part :=
  match doorCheck (p.face f) d with
  | .error ans => (ans, p)
  | .ok d =>
    let x := (p.face f).doors[d]
    match x.state with
    | .released =>
      if x.restored then
        (.plain .done, p |> clearLatch f d .request .request |> fireDoorTest f d x)
      else (badValue 255, p)
    | .discrepant =>
      if x.keyIso || x.reportFaulty then (badValue 255, p)
      else if x.restedShut then
        (.plain .done, p |> changeDoor f d .request Door.closeLocked |> fireDoorTest f d x)
      else closeAttempt f d p
    | .obstructed => closeAttempt f d p
    | _ => (badValue 255, p)

/-- The doors a panel door-reset restores: the RELEASED doors of the face that meet the condition (R95). -/
def FaceRec.resettable (r : FaceRec) : List DoorIx := (r.doorsIn [.released]).filter fun d => r.doors[d].restored

/-- A panel door-reset clears the latch of every door that meets the condition; in FIRE the fire opening test is
made for those doors together, so that their grants are those of one event (R95, R138, R144, R145). The DOOR reports
carry cause ORDER (R76; assumption 52: the model's choice). -/
def panelDoorReset (f : Face) (p : Part) : Part :=
  let ds := (p.face f).resettable
  p |> forDoors ds (fun d => clearLatch f d .panel .order) |> fireOpenTest f ds

end Sys2Proof.Machine
end

