-- ==== Sys2Proof/Machine/Link.lean ====
section
/-! DEFINITION. The door link controller (chapter 4) but for its poll cycle: the return to IDLE, the start of an
enumeration, frames as they begin, confirmation, pace and flash. -/

namespace Sys2Proof.Machine

/-! ### The link record -/

/-- Every pending frame of the face discarded, the poll awaiting its reply ended without effect, the line idle
(R57, R59). -/
def Link.quieten (l : Link) : Link :=
  { l with stopFrame := [], moveQ := [], resendQ := [], sync := none, round := false, line := .idle,
           chainEnable := false, chainResetTimer := none, chainSettleTimer := none, replyTimer := none,
           standbyTimer := none, flashTimer := none }

/-- The return to IDLE; g is kept (R57). -/
def Link.toIdle (l : Link) : Link := { l.quieten with state := .idle }

/-- The link record at the start of an enumeration (R59). -/
def Link.startEnum (tag : Byte) (l : Link) : Link :=
  { l.quieten with state := .chainReset, enumTag := tag, pace := .normal, wakeCount := 0, extra := [],
                   chainResetTimer := some 10 }

/-- Every health entry as after a reset (R58). -/
def resetHealth (r : FaceRec) : FaceRec := { r with health := Vector.replicate 24 .reset }

/-- An enumeration starts; the health entries are reset once the doors, and so their cues, have changed, so that no
cue is pending (R58, R59, R77, R151, R154). -/
def startEnumeration (f : Face) (tag : Byte) (toAuto : Bool) (p : Part) : Part :=
  (p.modFace f fun r =>
      (r.modLink (Link.startEnum tag)).modMode fun m =>
        { m with toAuto := toAuto, wakeRound := false, heldNotice := false })
    |> doorsEnumerated f
    |> fun p => p.modFace f resetHealth

/-- The chain reset timer expires (R59). -/
def chainResetExpiry (f : Face) (p : Part) : Part :=
  if (p.face f).link.chainResetTimer.isSome then
    p.modFace f fun r => r.modLink fun l =>
      { l with chainResetTimer := none, chainEnable := true, state := .chainSettle, chainSettleTimer := some 20 }
  else p

/-- The next link generation number (R60). -/
def nextGeneration (g : Nat) : Nat := if g = 0 ∨ g ≥ 255 then 1 else g + 1

/-- The chain settle timer expires: MARK is begun with the next generation number (R60). -/
def chainSettleExpiry (f : Face) (p : Part) : Part :=
  if (p.face f).link.chainSettleTimer.isSome then
    p.modFace f fun r =>
      let g := nextGeneration r.link.g
      let r := r.configuredDoors.foldl (fun r d => r.modHealth d fun h => { h with lastCue := some .dark }) r
      r.modLink fun l =>
        { l with chainSettleTimer := none, g := g, line := .sending (.mark g r.n), state := .enumerating,
                 pollPos := 0 }
  else p

/-! ### Pace (R70, R71) -/

/-- The link's part of an entry to STANDBY (R70, R71). -/
def standbyLink (r : FaceRec) : FaceRec :=
  r.modLink fun l => { l with pace := .standby, standbyTimer := some 1000, wakeCount := 0, round := false }

/-- The standby round timer expires (R70). -/
def standbyExpiry (f : Face) (p : Part) : Part :=
  if (p.face f).link.standbyTimer.isSome then
    p.modFace f fun r => r.modLink fun l =>
      if l.round then { l with standbyTimer := some 1000 }
      else { l with standbyTimer := some 1000, round := true, pollPos := 0 }
  else p

/-- The flash timer expires (R73). -/
def flashExpiry (f : Face) (p : Part) : Part :=
  if (p.face f).link.flashTimer.isSome then
    p.modFace f fun r => r.modLink fun l =>
      let phase := (l.flashPhase + 1) % 8
      { l with flashTimer := some 125, flashPhase := phase, sync := some (phase, r.params.phaseMode) }
  else p

/-! ### Command ids (R66) -/

/-- The next command id of a door (R66). -/
def nextId (id : Nat) : Nat := if id ≥ 15 then 1 else id + 1

/-- A door's health entry when a MOVE or STOP that targets it is sent (R66). -/
def Health.sent (action : LinkAction) (speed force : Nat) (h : Health) : Health :=
  { h with lastId := nextId h.lastId, awaited := some ⟨action, nextId h.lastId, speed, force, true⟩, resends := 0,
           confirm := false }

/-- A target of a frame as it is sent: the id, and the command-sent notice (R66, R87). -/
def sendTo (action : LinkAction) (r : FaceRec) (t : MoveTarget) : FaceRec :=
  (r.modHealth t.door (Health.sent action t.speed t.force)).modDoor t.door (commandSent r.params action)

/-! ### Confirmation (R67) -/

/-- The awaited command, the resend count and the confirm-poll mark cleared. -/
def Health.settled (h : Health) : Health := { h with awaited := none, resends := 0, confirm := false }

/-- The judgement of an accepted reply: its result, the health entry after it, and the resend it queues (R67). -/
def confirmReply (inFire : Bool) (d : DoorIx) (replyId : Nat) (h : Health) : Confirm × Health × Option Resend :=
  match h.awaited with
  | none => (.none, h, none)
  | some a =>
    if h.confirm = false then (.waiting, h, none)
    else if replyId = a.id then (.confirmed, h.settled, none)
    else if (inFire && decide (a.action = .closeLock)) || decide (h.resends ≥ 2) then (.failed, h.settled, none)
    else
      (.waiting, { h with awaited := some { a with due := false }, resends := h.resends + 1, confirm := false },
        some ⟨d, a.action, a.id, a.speed, a.force⟩)

/-- A directed resend joins the tail of the resend queue, unless one for the door is there (R67). -/
def queueResend (x : Option Resend) (l : Link) : Link :=
  match x with
  | none => l
  | some rs =>
    if l.resendQ.any fun y => decide (y.door = rs.door) then l else { l with resendQ := l.resendQ ++ [rs] }

/-- A CLOSE_LOCK resend is pending for a door. -/
def FaceRec.closeResend (r : FaceRec) (d : DoorIx) : Bool :=
  r.link.resendQ.any fun x => decide (x.door = d) && decide (x.action = .closeLock)

/-- At the face's entry to FIRE each pending CLOSE_LOCK resend is removed and its door's confirmation ended
(R67). -/
def dropCloseResends (r : FaceRec) : FaceRec :=
  let ds := allDoors.filter r.closeResend
  (ds.foldl (fun r d => r.modHealth d Health.settled) r).modLink fun l =>
    { l with resendQ := l.resendQ.filter fun x => decide (x.action ≠ .closeLock) }

/-! ### The frame scheduler (R69, R72) -/

/-- A poll is due (R69). -/
def Link.pollDue (l : Link) : Bool :=
  match l.pace with
  | .normal | .wake => true
  | .standby => l.round

/-- A frame other than a poll is sent: the non-poll run (R69). -/
def Link.sends (fr : LinkFrame) (l : Link) : Link :=
  { l with line := .sending fr, nonPoll := if l.pollDue then l.nonPoll + 1 else l.nonPoll }

/-- The STOP frame begins (R69 step 2, R66). -/
def sendStop (r : FaceRec) : FaceRec :=
  let ds := r.link.stopFrame
  let r := ds.foldl (fun r d => sendTo .stop r ⟨d, 0, 0⟩) r
  r.modLink fun l =>
    Link.sends (.stop l.g (ds.map fun d => (d, r.health[d].lastId))) { l with stopFrame := [] }

/-- The MOVE frame at the head of the queue begins (R69 step 3, R66); its targets stand in increasing index
(section 4.10). -/
def sendMove (m : MoveFrame) (rest : List MoveFrame) (r : FaceRec) : FaceRec :=
  let ts := allDoors.filterMap fun d => m.targets.find? fun t => decide (t.door = d)
  let r := ts.foldl (sendTo m.action) r
  r.modLink fun l =>
    Link.sends (.move l.g m.action (ts.map fun t => (t, r.health[t.door].lastId))) { l with moveQ := rest }

/-- A door's health entry when a resend of it with an id is sent: a frame that carries the awaited id makes the next poll
of the door the one that judges it (R67). -/
def Health.resent (id : Nat) (h : Health) : Health :=
  { h with awaited := h.awaited.map fun a => if a.id = id then { a with due := true } else a }

/-- The resend at the head of its queue begins; it carries the id already given (R66, R69 step 4). -/
def sendResend (x : Resend) (rest : List Resend) (r : FaceRec) : FaceRec :=
  (r.modHealth x.door (Health.resent x.id)).modLink fun l =>
    Link.sends
      (if x.action = .stop then .stop l.g [(x.door, x.id)]
       else .move l.g x.action [(⟨x.door, x.speed, x.force⟩, x.id)])
      { l with resendQ := rest }

/-- A door has a pending cue and is not LOST (R72). -/
def FaceRec.cuePending (r : FaceRec) (d : DoorIx) : Option Cue :=
  if r.health[d].health = .lost then none else r.health[d].pendingCue

/-- The code of the next CUE frame: the pending cue of the lowest-index door that has one (R72). -/
def FaceRec.nextCue (r : FaceRec) : Option Cue := (allDoors.filterMap r.cuePending).head?

/-- The CUE frame of a code begins (R72). -/
def sendCue (c : Cue) (r : FaceRec) : FaceRec :=
  let ds := allDoors.filter fun d => decide (r.cuePending d = some c)
  let r := ds.foldl (fun r d => r.modHealth d fun h => { h with lastCue := some c, pendingCue := none }) r
  r.modLink fun l => Link.sends (.cue l.g ds c) l

/-- A door's health entry when a poll of it is sent: the confirm-poll mark is set when a frame carrying the awaited id has
been sent since a reply was last judged (R67). -/
def Health.polled (h : Health) : Health := { h with confirm := h.awaited.any Awaited.due }

/-- The next poll of the round-robin begins: the confirm-poll mark, the poll position (R67, R69, R70). -/
def sendPoll (r : FaceRec) : FaceRec :=
  let pos := r.link.pollPos
  let r := if h : pos < 24 then r.modHealth ⟨pos, h⟩ Health.polled else r
  r.modLink fun l =>
    { l with line := .sending (.poll l.g pos false), nonPoll := 0
             pollPos := if pos + 1 ≥ r.n then 0 else pos + 1 }

/-- A frame opportunity in RUNNING (R69). -/
def opportunity (r : FaceRec) : FaceRec :=
  let l := r.link
  if l.pollDue && decide (l.nonPoll ≥ 4) then sendPoll r
  else if !l.stopFrame.isEmpty then sendStop r
  else
    match l.moveQ, l.resendQ, r.nextCue, l.sync with
    | m :: rest, _, _, _ => sendMove m rest r
    | [], x :: rest, _, _ => sendResend x rest r
    | [], [], some c, _ => sendCue c r
    | [], [], none, some s => r.modLink fun l => Link.sends (.sync l.g s.1 s.2) { l with sync := none }
    | [], [], none, none => if l.pollDue then sendPoll r else r

/-- The line is free at the end of an event: the next frame begins (R61, R69). A standby wake with the line idle is so an
opportunity too, and the wake round's first poll begins at the wake event (R71, R153; assumption 44: the model's
choice). The polls of R61 leave the non-poll run as it stands until the entry to RUNNING (R69; assumption 48: the
model's choice). -/
def linkPump (r : FaceRec) : FaceRec :=
  if r.link.line = .idle then
    match r.link.state with
    | .running => opportunity r
    | .enumerating => r.modLink fun l => { l with line := .sending (.poll l.g l.pollPos false) }
    | .sweeping => r.modLink fun l => { l with line := .sending (.poll l.g l.pollPos true) }
    | .idle | .chainReset | .chainSettle => r
  else r

/-- The end of sending a door link frame: a poll awaits its reply, any other frame leaves the line idle (R63,
R69). -/
def frameSent (f : Face) (p : Part) : Part :=
  p.modFace f fun r => r.modLink fun l =>
    match l.line with
    | .sending (.poll _ pos sweep) =>
      { l with line := .awaiting pos sweep false, replyTimer := some r.params.tReply }
    | .sending _ => { l with line := .idle }
    | .idle | .awaiting _ _ _ => l

end Sys2Proof.Machine
end

