-- ==== Sys2Proof/Machine/Modes.lean ====
section
/-! DEFINITION. The release logic's fire state (sections 8.2 and 8.4) and the face mode controller (chapter 9):
mode requests, maintenance, standby, the panel, the bypasses. -/

namespace Sys2Proof.Machine

/-! ### Fire entry and exit (R140, R141, R146, R147) -/

/-- The MODE cause of a fire entry (R149). -/
def FireCause.mode : FireCause → ModeCause
  | .fireIn => .fireIn
  | .fireCommand => .fireCommand

/-- What a door receives at its face's entry to FIRE, but for the withdrawals: the table of R141. -/
def fireAct (f : Face) (d : DoorIx) (p : Part) : Part :=
  let r := p.face f
  match r.doors[d].state with
  | .preClose | .held => returnToOpen f d p
  | .closing => if r.fireEligible d then reverseOrder f d .operation p else haltingStop f d p
  | .proving => if r.fireEligible d then reverseOrder f d .operation p else p
  | .reopening => reverseOrder f d .operation p
  | _ => p

/-- The states R141 acts on besides the queued ones. -/
def fireActStates : List DoorState := [.preClose, .held, .closing, .proving, .reopening]

/-- The table of R141 for the doors a choice of states picks: the queued ones first, then the others. -/
def fireTable (f : Face) (pick : FaceRec → List DoorState → List DoorIx) (p : Part) : Part :=
  let p := forDoors (pick (p.face f) [.openQueued, .closeQueued]) (withdrawDoor f) p
  forDoors (pick (p.face f) fireActStates) (fireAct f) p

/-- At the face's entry to FIRE a pending CLOSE_LOCK frame is dropped: during fire the door link carries none (R142;
assumption 30). -/
def dropCloseFrames (r : FaceRec) : FaceRec :=
  r.modLink fun l => { l with moveQ := l.moveQ.filter fun m => decide (m.action ≠ .closeLock) }

/-- The face sequencer, the door table and the passenger sensing unit at the face's entry to FIRE (R141): the
targets of the operation in flight and its OP_DONE; the warning timer and the other doors; the gap check; the fire
opening test. The queue holds no start of the face from the first step on, so none is granted between the steps. -/
def fireSteps (f : Face) (p : Part) : Part :=
  p |> leaveQueueAll f
    |> fireTable f FaceRec.targetsIn
    |> endOpEarly f .fire
    |> (fun p => p.modFace f fun r => { r with warning := none })
    |> fireTable f FaceRec.doorsIn
    |> (fun p => p.modFace f dropCloseFrames)
    |> abandonGap f
    |> fireOpenTest f allDoors

/-- The face mode record at an entry to FIRE (R140, R154, R156). -/
def ModeRec.enterFire (m : ModeRec) : ModeRec :=
  { m with mode := .fire, handover := false, localAck := false, heldNotice := false
           wakeRound := m.wakeRound || decide (m.mode = .standby) }

/-- A face enters FIRE: mode, MODE report, link, and the steps of R141 (R140); an automatic-opening notice not yet taken
is dropped (R147; assumption 20). -/
def enterFire (f : Face) (cause : ModeCause) (p : Part) : Part :=
  let prev := (p.face f).mode.mode
  (p.modFace f fun r =>
      let r := if prev = .standby then wakeLink r else r
      dropCloseResends (r.modMode ModeRec.enterFire).dropNotice)
    |> queueModeReport f prev cause
    |> fireSteps f

/-- A present face takes the fire entry (R140). -/
def faceFireEntry (cause : ModeCause) (f : Face) (p : Part) : Part :=
  if p.present f then
    match (p.face f).mode.mode with
    | .auto | .localCtl | .maint | .standby => enterFire f cause p
    | .unconfigured | .fire => p
  else p

/-- Fire enters force, when it is not already in force (R140); face A takes the entry before face B (assumption 36: the
model's choice). -/
def fireEntry (cause : FireCause) (p : Part) : Part :=
  if p.fire.cause.isSome then p
  else
    { p with fire := { p.fire with cause := some cause } }
      |> faceFireEntry cause.mode .A
      |> faceFireEntry cause.mode .B

/-- A face in FIRE takes the exit; an entry to LOCAL discards a held notice, and no automatic-opening notice outlives
the fire (R147, R154, R156; assumption 20). -/
def faceFireExit (f : Face) (p : Part) : Part :=
  let r := p.face f
  if p.present f ∧ r.mode.mode = .fire then
    let p := p.modFace f FaceRec.dropNotice
    if r.link.state = .idle then
      let p := (p.modFace f fun r => r.modMode fun m => { m with mode := .maint })
        |> queueModeReport f .fire .fireReset
        |> startEnumeration f 0 true
      if r.localReq then
        (p.modFace f fun r => r.modMode fun m => { m with handover := true })
          |> queueModeReport f .maint .handoverPending
      else p
    else if r.localReq then
      (p.modFace f fun r => r.modMode fun m => { m with mode := .localCtl, localAck := true, heldNotice := false })
        |> queueModeReport f .fire .fireReset
    else
      (p.modFace f fun r => r.modMode fun m => { m with mode := .auto }) |> queueModeReport f .fire .fireReset
  else p

/-- Fire leaves force (R146, R147); face A takes the exit before face B (assumption 36). -/
def fireExit (p : Part) : Part :=
  { p with fire := { p.fire with cause := none } } |> faceFireExit .A |> faceFireExit .B

/-- One sample of FIRE_IN (R139, R140). -/
def fireInSample (active : Bool) (p : Part) : Part :=
  let x := p.fire.fireIn.sample p.params.fFire active
  let p := { p with fire := { p.fire with fireIn := x.1 } }
  if x.2 ∧ active then fireEntry .fireIn p else p

/-- One sample of FIRE_RESET (R139, R146). -/
def fireResetSample (active : Bool) (p : Part) : Part :=
  let x := p.fire.fireReset.sample p.params.fFire active
  let p := { p with fire := { p.fire with fireReset := x.1 } }
  if x.2 ∧ active ∧ p.fire.cause.isSome ∧ p.fire.fireIn.reads = false then fireExit p else p

/-! ### Mode requests (R150, R151) -/

/-- Every non-isolated configured door is CLOSED_LOCKED (R150). -/
def FaceRec.closedForStandby (r : FaceRec) : Bool :=
  r.configuredDoors.all fun d => decide (r.doors[d].iso ≠ .none) || decide (r.doors[d].state = .closedLocked)

/-- A change of mode by a request, with its MODE report (R150). -/
def modeByRequest (f : Face) (mode : FaceMode) (p : Part) : Part :=
  let prev := (p.face f).mode.mode
  (p.modFace f fun r => r.modMode fun m => { m with mode := mode }) |> queueModeReport f prev .request

/-- The face enters STANDBY (R150, R70, R154). -/
def enterStandby (f : Face) (p : Part) : Part :=
  (p.modFace f fun r => (standbyLink r).modMode fun m => { m with wakeRound := false, heldNotice := false })
    |> modeByRequest f .standby

/-- SET_FACE_MODE (R150). -/
def setFaceMode (f : Face) (mode : Byte) (tag : Byte) (p : Part) : Answer × Part :=
  let r := p.face f
  if mode.toNat > 2 then (badValue 255, p)
  else if r.enumerating then (.plain .busy, p)
  else
    match r.mode.mode with
    | .unconfigured =>
      if mode = 0 ∧ r.geom.isSome then (.plain .accepted, startEnumeration f tag true p) else (.plain .wrongMode, p)
    | .auto =>
      if mode = 0 then (.plain .done, p)
      else if r.mode.handover then (.plain .localPending, p)
      else if r.berth.state = .empty ∧ r.atRest ∧ (mode = 1 ∨ r.closedForStandby) then
        (.plain .done, if mode = 1 then modeByRequest f .maint p else enterStandby f p)
      else (.plain .busy, p)
    | .localCtl => (.plain .localControl, p)
    | .maint =>
      if mode = 0 then (.plain .accepted, startEnumeration f tag true p)
      else if mode = 1 then (.plain .done, p)
      else (.plain .wrongMode, p)
    | .standby =>
      if mode = 0 then (.plain .done, wakeFace f p)
      else if mode = 1 then (.plain .wrongMode, p)
      else (.plain .done, p)
    | .fire => (.plain .fireActive, p)

/-- ENUMERATE_FACE (R151). -/
def enumerateFace (f : Face) (tag : Byte) (p : Part) : Answer × Part :=
  let r := p.face f
  if r.enumerating then (.plain .busy, p)
  else
    match r.mode.mode with
    | .maint => (.plain .accepted, startEnumeration f tag false p)
    | .auto =>
      if r.mode.handover then (.plain .localPending, p)
      else if r.berth.state = .empty ∧ r.atRest then (.plain .accepted, startEnumeration f tag false p)
      else (.plain .busy, p)
    | .unconfigured | .standby => (.plain .wrongMode, p)
    | .localCtl => (.plain .localControl, p)
    | .fire => (.plain .fireActive, p)

/-- The mode controller's notice that an enumeration has completed (R151, R140). -/
def enumerationCompleted (f : Face) (p : Part) : Part :=
  let m := (p.face f).mode
  if m.toAuto then
    let p := p.modFace f fun r => r.modMode fun m => { m with toAuto := false }
    match m.mode with
    | .unconfigured | .maint => if p.fire.cause.isSome then enterFire f .enumerated p else enterAuto f .enumerated p
    | .auto | .localCtl | .standby | .fire => p
  else p

/-- The wake round has ended with its notice: a held notice is discarded and the test made again on the record as
it stands (R154). -/
def wakeRoundEnded (f : Face) (p : Part) : Part :=
  p.modFace f fun r =>
    let r' := r.modMode fun m => { m with wakeRound := false, heldNotice := false }
    if r.mode.heldNotice then openingTest r' else r'

/-! ### Maintenance moves (R152) -/

/-- The states in which a maintenance move is refused BAD_VALUE (R152 step 5). -/
def DoorState.unfit : DoorState → Bool
  | .lost | .unknown | .released | .discrepant | .obstructed => true
  | _ => false

/-- MAINT_MOVE; `toClose` is set for CLOSE (R152). The DOOR report of the taken order carries cause ORDER (assumption 52:
the model's choice). -/
def maintMove (f : Face) (d : Byte) (toClose : Bool) (p : Part) : Answer × Part :=
  let r := p.face f
  match doorCheck r d with
  | .error ans => (ans, p)
  | .ok d =>
    let x := r.doors[d]
    let there : Bool := if toClose then decide (x.state = .closedLocked) else decide (x.state = .opened) && !x.partialOpen
    match firstFail
        [ (decide (r.mode.mode = .fire), .plain .fireActive),
          (decide (r.mode.mode = .localCtl), .plain .localControl),
          (r.mode.handover, .plain .localPending),
          (decide (r.mode.mode ≠ .maint), .plain .wrongMode),
          (decide (r.link.state ≠ .running), .plain .wrongMode),
          (x.state.unfit || x.keyIso, badValue 255),
          (x.state.busy, .plain .busy),
          (there, .plain .done) ] with
    | some ans => (ans, p)
    | none =>
      (.plain .accepted,
        (if toClose then closeOrder f d .maint .order p else openOrder f d .maint .order p) |> grantEvent)

/-! ### The panel (R148, R155 to R158) -/

/-- Change the panel filters of a face. -/
def modPanel (g : Panel → Panel) (r : FaceRec) : FaceRec := r.modMode fun m => { m with panel := g m.panel }

/-- The accepted local request becomes ACTIVE (R155, R156). -/
def localActive (f : Face) (p : Part) : Part :=
  let r := p.face f
  match r.mode.mode with
  | .auto => takeLocalRequest f p
  | .standby => wakeFace f p
  | .maint =>
    let p := if r.enumerating then p.modFace f fun r => r.modMode fun m => { m with toAuto := true }
      else startEnumeration f 0 true p
    (p.modFace f fun r => r.modMode fun m => { m with handover := true }) |> queueModeReport f .maint .handoverPending
  | .unconfigured | .localCtl | .fire => p

/-- The accepted local request becomes INACTIVE (R155, R156); the face that returns to AUTO gives no automatic opening
for a stop already computed (R157; assumption 20). -/
def localDropped (f : Face) (p : Part) : Part :=
  let r := p.face f
  if r.mode.mode = .localCtl then
    (p.modFace f fun r => (r.modMode fun m => { m with localAck := false }).dropNotice) |> enterAuto f .localDropped
  else if r.mode.handover then
    (p.modFace f fun r => r.modMode fun m => { m with handover := false })
      |> queueModeReport f r.mode.mode .handoverCancelled
  else p

/-- One sample of the local request (R148, R155). -/
def localSample (f : Face) (active : Bool) (p : Part) : Part :=
  let r := p.face f
  let x := r.mode.panel.localReq.sample r.params.fPanel active
  let p := p.modFace f (modPanel fun q => { q with localReq := x.1 })
  if x.2 then if active then localActive f p else localDropped f p else p

/-- An OPEN the panel asks for is taken or refused (R102, R158). -/
def panelOpen (f : Face) (source : OpSource) (p : Part) : Part :=
  let q : OpenReq := ⟨source, 0, true, none⟩
  match openCheck f q p with
  | none => takeOpen f q p
  | some _ => p

/-- A CLOSE the panel asks for is taken or refused (R105, R158). -/
def panelClose (f : Face) (p : Part) : Part :=
  match closeCheck f .panel p with
  | none => takeClose f .panel 0 p
  | some _ => p

/-- A rising edge of P_OPEN (R158). -/
def openEdge (f : Face) (p : Part) : Part :=
  let r := p.face f
  if r.mode.mode = .localCtl then panelOpen f (if r.mode.panel.pAll.reads then .panelAll else .panel) p else p

/-- A rising edge of P_CLOSE (R158, R95). -/
def closeEdge (f : Face) (p : Part) : Part :=
  let r := p.face f
  if r.mode.panel.pAll.reads then
    if r.mode.mode = .localCtl ∨ (r.mode.mode = .fire ∧ r.localReq) then panelDoorReset f p else p
  else if r.mode.mode = .localCtl then panelClose f p
  else p

/-- One sample of P_OPEN (R148, R158). -/
def openButtonSample (f : Face) (active : Bool) (p : Part) : Part :=
  let r := p.face f
  let x := r.mode.panel.pOpen.sample r.params.fPanel active
  let p := p.modFace f (modPanel fun q => { q with pOpen := x.1 })
  if x.2 ∧ active then openEdge f p else p

/-- One sample of P_CLOSE (R148, R158). -/
def closeButtonSample (f : Face) (active : Bool) (p : Part) : Part :=
  let r := p.face f
  let x := r.mode.panel.pClose.sample r.params.fPanel active
  let p := p.modFace f (modPanel fun q => { q with pClose := x.1 })
  if x.2 ∧ active then closeEdge f p else p

/-- One sample of P_ALL: a level, acted on at the other edges (R148, R158). -/
def allButtonSample (f : Face) (active : Bool) (p : Part) : Part :=
  p.modFace f fun r => modPanel (fun q => { q with pAll := (q.pAll.sample r.params.fPanel active).1 }) r

/-- The proof bypass has changed (R159, R160). -/
def proofBypassChanged (f : Face) (p : Part) : Part := recomputeSecured f .bypass true p

/-- The gap bypass has changed; becoming ACTIVE it concludes a waiting CLOSE (R132, R159, R160). -/
def gapBypassChanged (f : Face) (p : Part) : Part :=
  let p := recomputeSecured f .bypass true p
  if (p.face f).gapBypass then concludeGap f .bypassed p else p

/-- One sample of the proof bypass (R148). -/
def proofBypassSample (f : Face) (active : Bool) (p : Part) : Part :=
  let r := p.face f
  let x := r.mode.panel.proofBypass.sample r.params.fPanel active
  let p := p.modFace f (modPanel fun q => { q with proofBypass := x.1 })
  if x.2 then proofBypassChanged f p else p

/-- One sample of the gap bypass (R148). -/
def gapBypassSample (f : Face) (active : Bool) (p : Part) : Part :=
  let r := p.face f
  let x := r.mode.panel.gapBypass.sample r.params.fPanel active
  let p := p.modFace f (modPanel fun q => { q with gapBypass := x.1 })
  if x.2 then gapBypassChanged f p else p

/-- The panel filters of a face primed at the first sample after a reset; a primed ACTIVE level of the local
request and of each bypass is a change of level (R148). -/
def primePanel (f : Face) (s : PanelLevels) (p : Part) : Part :=
  if p.present f then
    let p := p.modFace f (modPanel fun _ =>
      { localReq := .prime s.localReq, pOpen := .prime s.pOpen, pClose := .prime s.pClose, pAll := .prime s.pAll,
        proofBypass := .prime s.proofBypass, gapBypass := .prime s.gapBypass })
    let p := if s.proofBypass then proofBypassChanged f p else p
    let p := if s.gapBypass then gapBypassChanged f p else p
    if s.localReq then localActive f p else p
  else p

/-- The first sample after a reset, taken while the fire filters are unprimed (R139, R148). -/
def resetSample (s : ResetSample) (p : Part) : Part :=
  if p.fire.fireIn.primed then p
  else
    let p := p |> primePanel .A s.panelA |> primePanel .B s.panelB
    let p := { p with fire := { p.fire with fireIn := .prime s.fireIn, fireReset := .prime s.fireReset } }
    if s.fireIn then fireEntry .fireIn p else p

/-! ### The end of an event -/

/-- A PENDING handover is granted at the at-rest event (R155). -/
def handoverCheck (f : Face) (p : Part) : Part :=
  let r := p.face f
  if r.mode.mode = .auto ∧ r.mode.handover ∧ r.atRest then grantHandover f p else p

end Sys2Proof.Machine
end

