-- ==== Sys2Proof/Machine/Operands.lean ====
section
/-! DEFINITION. The operands of the host's requests: the payload of each kind as R165 and R173 lay it out. -/

namespace Sys2Proof.Machine

/-- A multi-byte field, most significant byte first (R173). -/
def beNat (bs : List Byte) : Nat := bs.foldl (fun acc b => acc * 256 + b.toNat) 0

/-- Fields of the given widths from the front of a payload (R173). -/
def readFields : List Nat → List Byte → List Nat
  | [], _ => []
  | w :: ws, bs => beNat (bs.take w) :: readFields ws (bs.drop w)

/-- Byte `i` of a payload. -/
def byteAt (bs : List Byte) (i : Nat) : Byte := (bs[i]?).getD 0

/-- A face byte (R165 step 3): `none` when it names neither face. -/
def readFace (b : Byte) : Option Face := if b = 0 then some .A else if b = 1 then some .B else none

/-- The request kinds of section 10.3. -/
inductive ReqKind where
  | enquirePart | enquireFace | enquireDoor | enquireBerth | enquireAlign | enquireCounts
  | loadGeometry | loadProfile | loadFaceParams | loadClasses | loadPartParams
  | announceTrain | withdrawTrain | openFace | closeFace
  | doorRestore | doorIsolate | doorReadmit | maintMove
  | setFaceMode | enumerateFace | clearBerth | fireCommand | resetPart
  deriving DecidableEq, Repr

/-- The KIND byte of a request (section 10.3). -/
def ReqKind.code : ReqKind → Byte
  | .enquirePart => 0x01
  | .enquireFace => 0x02
  | .enquireDoor => 0x03
  | .enquireBerth => 0x04
  | .enquireAlign => 0x05
  | .enquireCounts => 0x06
  | .loadGeometry => 0x10
  | .loadProfile => 0x11
  | .loadFaceParams => 0x12
  | .loadClasses => 0x13
  | .loadPartParams => 0x14
  | .announceTrain => 0x20
  | .withdrawTrain => 0x21
  | .openFace => 0x22
  | .closeFace => 0x23
  | .doorRestore => 0x30
  | .doorIsolate => 0x31
  | .doorReadmit => 0x32
  | .maintMove => 0x33
  | .setFaceMode => 0x40
  | .enumerateFace => 0x41
  | .clearBerth => 0x42
  | .fireCommand => 0x43
  | .resetPart => 0x44

/-- Every request kind. -/
def allKinds : List ReqKind :=
  [.enquirePart, .enquireFace, .enquireDoor, .enquireBerth, .enquireAlign, .enquireCounts, .loadGeometry,
   .loadProfile, .loadFaceParams, .loadClasses, .loadPartParams, .announceTrain, .withdrawTrain, .openFace,
   .closeFace, .doorRestore, .doorIsolate, .doorReadmit, .maintMove, .setFaceMode, .enumerateFace, .clearBerth,
   .fireCommand, .resetPart]

/-- The request kind a KIND byte names (R165 step 1). -/
def ReqKind.ofCode (b : Byte) : Option ReqKind := allKinds.find? fun k => decide (k.code = b)

/-- A payload whose length is reckoned from the count at byte `i` (R165 step 2). -/
def countedLength (pl : List Byte) (i most fixed each : Nat) : Bool :=
  match pl[i]? with
  | none => false
  | some c => decide (c.toNat ≤ most) && decide (pl.length = fixed + each * c.toNat)

/-- The payload length the kind requires (R165 step 2, section 10.3). -/
def ReqKind.lengthOk (k : ReqKind) (pl : List Byte) : Bool :=
  match k with
  | .enquirePart => decide (pl.length ≤ 1)
  | .enquireFace | .enquireBerth | .enquireAlign | .enquireCounts | .withdrawTrain | .closeFace | .enumerateFace
  | .clearBerth => decide (pl.length = 1)
  | .enquireDoor | .doorRestore | .doorIsolate | .doorReadmit | .setFaceMode => decide (pl.length = 2)
  | .maintMove => decide (pl.length = 3)
  | .openFace => decide (pl.length = 5)
  | .fireCommand | .resetPart => decide (pl.length = 0)
  | .loadGeometry => countedLength pl 1 255 11 6
  | .loadProfile => countedLength pl 7 40 8 5
  | .announceTrain => countedLength pl 2 255 3 2
  | .loadFaceParams => decide (pl.length = 30)
  | .loadClasses => decide (pl.length = 21)
  | .loadPartParams => decide (pl.length = 8)

/-- The kind's payload begins with a face byte (section 10.3). -/
def ReqKind.namesFace : ReqKind → Bool
  | .enquirePart | .loadProfile | .loadPartParams | .fireCommand | .resetPart => false
  | .enquireFace | .enquireDoor | .enquireBerth | .enquireAlign | .enquireCounts | .loadGeometry
  | .loadFaceParams | .loadClasses | .announceTrain | .withdrawTrain | .openFace | .closeFace | .doorRestore
  | .doorIsolate | .doorReadmit | .maintMove | .setFaceMode | .enumerateFace | .clearBerth => true

/-- The coded bytes R165 step 3 checks beside the face byte. -/
def ReqKind.codesOk (k : ReqKind) (pl : List Byte) : Bool :=
  match k with
  | .announceTrain => decide ((byteAt pl 1).toNat ≤ 1)
  | .maintMove => decide ((byteAt pl 2).toNat ≤ 1)
  | _ => true

/-- The door entries of a LOAD_GEOMETRY: xc, w, class (section 10.3). -/
def readDoorGeoms : Nat → List Byte → List DoorGeom
  | 0, _ => []
  | n + 1, bs =>
    ⟨beNat (bs.take 3), beNat ((bs.drop 3).take 2), beNat ((bs.drop 5).take 1)⟩ :: readDoorGeoms n (bs.drop 6)

/-- The geometry of a LOAD_GEOMETRY payload: face, n, D0, p, M, S0, door entries (section 10.3). -/
def readGeometry (pl : List Byte) : Geometry :=
  { d0 := beNat ((pl.drop 2).take 3), pitch := beNat ((pl.drop 5).take 2), m := beNat ((pl.drop 7).take 1)
    s0 := beNat ((pl.drop 8).take 3), doors := readDoorGeoms (beNat ((pl.drop 1).take 1)) (pl.drop 11) }

/-- The train doors of a LOAD_PROFILE: a, t (section 10.3). -/
def readTrainDoors : Nat → List Byte → List TrainDoor
  | 0, _ => []
  | m + 1, bs => ⟨beNat (bs.take 3), beNat ((bs.drop 3).take 2)⟩ :: readTrainDoors m (bs.drop 5)

/-- The profile of a LOAD_PROFILE payload: id, L, c, axles, door count, entries (section 10.3). -/
def readProfile (pl : List Byte) : Profile :=
  { len := beNat ((pl.drop 1).take 3), coupler := beNat ((pl.drop 4).take 2), axles := beNat ((pl.drop 6).take 1)
    doors := readTrainDoors (beNat ((pl.drop 7).take 1)) (pl.drop 8) }

/-- The entries of a LOAD_CLASSES payload (section 10.3). -/
def readClasses (pl : List Byte) : Vector MotionClass 4 :=
  let entry (i : Nat) : MotionClass :=
    let bs := pl.drop (1 + 5 * i)
    ⟨beNat (bs.take 1), beNat ((bs.drop 1).take 1), beNat ((bs.drop 2).take 1), beNat ((bs.drop 3).take 2)⟩
  #v[entry 0, entry 1, entry 2, entry 3]

/-- The units of an ANNOUNCE_TRAIN payload: profile and orientation bytes (section 10.3). -/
def readUnitBytes : Nat → List Byte → List (Byte × Byte)
  | 0, _ => []
  | u + 1, bs => (byteAt bs 0, byteAt bs 1) :: readUnitBytes u (bs.drop 2)

/-- The widths of the seventeen face parameters (section 1.6, R173). -/
def faceParamWidths : List Nat := [1, 1, 2, 2, 2, 2, 2, 2, 2, 2, 1, 2, 1, 2, 2, 2, 1]

/-- The widths of the seven part parameters (section 1.7, R173). -/
def partParamWidths : List Nat := [1, 1, 1, 1, 1, 2, 1]

end Sys2Proof.Machine
end

