-- ==== Sys2Proof/Machine/Store.lean ====
section
/-! DEFINITION. The configuration store (chapter 1): the checks, the clamping and the effects of the five load
requests. -/

namespace Sys2Proof.Machine

/-! ### Clamping (R3 step 5) -/

/-- A value replaced by the nearer limit of its range. -/
def clampTo (lo hi v : Nat) : Nat := max lo (min hi v)

/-- DONE, or CLAMPED with the number of clamped fields and the table number of the first (R3, R166). -/
def clampAnswer (fields : List Nat) : Answer :=
  match fields with
  | [] => .plain .done
  | first :: _ => ⟨.clamped, byteOf fields.length, byteOf first⟩

/-- The table numbers of the fields whose stored value differs from the one sent: number, sent, stored. -/
def clampedFields (xs : List (Nat × Nat × Nat)) : List Nat :=
  (xs.filter fun x => decide (x.2.1 ≠ x.2.2)).map fun x => x.1

/-! ### Geometry (R4 to R6) -/

/-- The largest position of a face (R1). -/
def faceEnd : Nat := 250000

/-- The checks of R4. -/
def Geometry.arrayOk (g : Geometry) : Bool :=
  decide (1 ≤ g.n) && decide (g.n ≤ 24) && decide (2 ≤ g.m) && decide (g.m ≤ 16) && decide (g.pitch % 2 = 0) &&
    decide (20 ≤ g.pitch) && decide (g.pitch ≤ 500) && decide (g.d0 + (g.m - 1) * g.pitch ≤ faceEnd) &&
    decide (g.d0 ≤ g.s0) && decide (g.s0 ≤ g.d0 + (g.m - 1) * g.pitch)

/-- The checks of R5 for one door entry, with the entry before it. -/
def doorGeomOk (prev : Option DoorGeom) (g : DoorGeom) : Bool :=
  decide (g.w % 2 = 0) && decide (1200 ≤ g.w) && decide (g.w ≤ 3600) && decide (g.cls ≤ 3) &&
    decide (g.w / 2 ≤ g.xc) && decide (g.xc + g.w / 2 ≤ faceEnd) &&
    (match prev with
     | none => true
     | some q => decide (q.xc < g.xc) && decide (q.xc + q.w / 2 + g.w / 2 ≤ g.xc))

/-- The index of the first door entry that fails R5. -/
def firstBadDoor : Nat → Option DoorGeom → List DoorGeom → Option Nat
  | _, _, [] => none
  | i, prev, g :: rest => if doorGeomOk prev g then firstBadDoor (i + 1) (some g) rest else some i

/-- A door's record at a geometry load (R6). PARTIAL_OPEN and the forced mark, which R6 names neither among the fields
it clears nor among those it keeps, are kept (assumption 21: the model's choice). -/
def Door.reconfigured (x : Door) : Door :=
  { x.stopTimers.enter .unknown with report := none, late := false, keyIso := false, order := none }

/-- The records of a face that a geometry load sets before its doors change (R6, R34, R57, R120, R126). R126 primes the end
beams at the first sample after a load and says nothing of them before it; the load unprimes them, so that both read CLEAR
until then, in the load's own GAP report too (assumption 33: the model's choice). -/
def FaceRec.configure (g : Geometry) (r : FaceRec) : FaceRec :=
  { r with
    geom := some g
    link := r.link.toIdle
    sense := Vector.replicate 24 .reset
    berth := r.berth.configure g.m
    gap := { r.gap with headBeam := .reset, tailBeam := .reset }
    doors := mapVec (fun (x : Door) => { x with verdict := .vUnknown, ov := 0 }) r.doors }

/-- A geometry load that is taken; the health entries are reset once the doors, and so their cues, have changed, so
that no cue is pending (R6, R58). The gap check ends before the proof is recomputed for the load, so a load that also
changes the gap state withdraws with cause GAP (R6, R160; assumption 38: the model's choice). -/
def takeGeometry (f : Face) (g : Geometry) (p : Part) : Part :=
  let p := p |> leaveMachineryAll f |> fun p => p.modFace f (FaceRec.configure g)
  p |> clearAlign f .config
    |> forDoors (p.face f).configuredDoors (fun d => changeDoor f d .config Door.reconfigured)
    |> endGapCheck f .config
    |> recomputeSecured f .config false
    |> fun p => p.modFace f resetHealth

/-- LOAD_GEOMETRY (R3 to R6). -/
def loadGeometry (f : Face) (g : Geometry) (p : Part) : Answer × Part :=
  let r := p.face f
  let mode := r.mode.mode
  match firstFail
      [ (r.enumerating, .plain .busy),
        (decide (mode ≠ .unconfigured) && decide (mode ≠ .maint), .plain .wrongMode),
        (decide (mode = .maint) && !r.atRest, .plain .busy),
        (!g.arrayOk, badValue 255) ] with
  | some ans => (ans, p)
  | none =>
    match firstBadDoor 0 none g.doors with
    | some i => (badValue (byteOf i), p)
    | none => (.plain .done, takeGeometry f g p)

/-! ### Motion classes (R7) -/

/-- The checks every load of a face's parameters begins with (R3, R7, R10). -/
def loadModeCheck (r : FaceRec) : Option Answer :=
  let mode := r.mode.mode
  firstFail
    [ (r.enumerating, .plain .busy),
      (decide (mode ≠ .unconfigured) && decide (mode ≠ .maint), .plain .wrongMode) ]

/-- The three codes of an entry lie in 0 to 7 (R7). -/
def MotionClass.codesOk (c : MotionClass) : Bool :=
  decide (c.openSpeed ≤ 7) && decide (c.closeSpeed ≤ 7) && decide (c.closeForce ≤ 7)

/-- An entry as it is stored (R7). -/
def MotionClass.clamped (c : MotionClass) : MotionClass := { c with timeout := clampTo 2000 15000 c.timeout }

/-- LOAD_CLASSES (R7). -/
def loadClasses (f : Face) (cs : Vector MotionClass 4) (p : Part) : Answer × Part :=
  match loadModeCheck (p.face f) with
  | some ans => (ans, p)
  | none =>
    match (cs.toList.findIdx? fun c => !c.codesOk) with
    | some i => (badValue (byteOf i), p)
    | none =>
      (clampAnswer (clampedFields (cs.toList.map fun c => (4, c.timeout, c.clamped.timeout))),
        p.modFace f fun r => { r with classes := mapVec MotionClass.clamped cs })

/-! ### Profiles (R8, R9) -/

/-- Checks 2 to 4 of R8. -/
def Profile.headOk (pr : Profile) : Bool :=
  decide (5000 ≤ pr.len) && decide (pr.len ≤ 120000) && decide (pr.coupler ≤ 2000) && decide (2 ≤ pr.axles) &&
    decide (pr.axles ≤ 64)

/-- Checks 5 to 8 of R8 for one train door, with the one before it. -/
def trainDoorOk (len : Nat) (prev : Option TrainDoor) (t : TrainDoor) : Bool :=
  decide (t.t % 2 = 0) && decide (600 ≤ t.t) && decide (t.t ≤ 3000) && decide (t.a + t.t ≤ len) &&
    (match prev with
     | none => true
     | some q => decide (q.a + q.t ≤ t.a))

/-- The index of the first train door that fails. -/
def firstBadTrainDoor (len : Nat) : Nat → Option TrainDoor → List TrainDoor → Option Nat
  | _, _, [] => none
  | i, prev, t :: rest => if trainDoorOk len prev t then firstBadTrainDoor len (i + 1) (some t) rest else some i

/-- LOAD_PROFILE, erasing when the door count is 0 (R8, R9). -/
def loadProfile (id : Nat) (pr : Profile) (p : Part) : Answer × Part :=
  if p.profileInUse id then (.plain .inUse, p)
  else if h : id < 8 then
    if pr.doors.isEmpty then (.plain .done, { p with profiles := p.profiles.set id none })
    else if !pr.headOk then (badValue 255, p)
    else
      match firstBadTrainDoor pr.len 0 none pr.doors with
      | some i => (badValue (byteOf i), p)
      | none => (.plain .done, { p with profiles := p.profiles.set id (some pr) })
  else (badValue 255, p)

/-! ### Face parameters (R10, R11) -/

/-- The face parameters a payload's fields give, clamped in table order (R10). -/
def clampFaceParams : List Nat → FaceParams
  | [a, b, c, d, e, o, g, h, i, j, k, l, m, n, q, s, t] =>
    let wAuto := clampTo 0 1000 d
    { fAxle := clampTo 1 8 a, fPanel := clampTo 1 8 b, tSettle := clampTo 200 5000 c, wAuto := wAuto
      wExt := clampTo wAuto 2000 e, oMin := clampTo 600 2000 o, tReply := clampTo 100 1000 g
      tUnlock := clampTo 200 3000 h, tLock := clampTo 200 3000 i, tObst := clampTo 200 5000 j
      nObst := clampTo 1 3 k, tWarn := clampTo 1000 5000 l, fBeam := clampTo 1 4 m, tQuiet := clampTo 500 3000 n
      tHoldMax := clampTo 0 10000 q, tGap := clampTo 500 3000 s
      phaseMode := if t = 0 then .common else .alternate }
  | _ => .default

/-- The face parameters as numbers in table order (R14). -/
def FaceParams.fields (x : FaceParams) : List Nat :=
  [x.fAxle, x.fPanel, x.tSettle, x.wAuto, x.wExt, x.oMin, x.tReply, x.tUnlock, x.tLock, x.tObst, x.nObst, x.tWarn,
   x.fBeam, x.tQuiet, x.tHoldMax, x.tGap, x.phaseMode.ctorIdx]

/-- The table numbers of the fields changed by clamping. -/
def numbersClamped (sent stored : List Nat) : List Nat :=
  clampedFields (((sent.zip stored).zipIdx).map fun x => (x.2 + 1, x.1.1, x.1.2))

/-- The obstruction attempts lowered to a smaller N_obst (R11). -/
def lowerAttempts (nObst : Nat) (r : FaceRec) : FaceRec :=
  { r with doors := mapVec (fun (x : Door) => { x with attempts := min x.attempts nObst }) r.doors }

/-- LOAD_FACE_PARAMS (R10, R11). -/
def loadFaceParams (f : Face) (sent : List Nat) (p : Part) : Answer × Part :=
  match loadModeCheck (p.face f) with
  | some ans => (ans, p)
  | none =>
    if ((sent[5]?).getD 0) % 2 ≠ 0 then (badValue 6, p)
    else if (sent[16]?).getD 0 > 1 then (badValue 17, p)
    else
      let params := clampFaceParams sent
      (clampAnswer (numbersClamped sent params.fields),
        p.modFace f fun r => lowerAttempts params.nObst { r with params := params })

/-! ### Part parameters (R12, R13) -/

/-- The part parameters a payload's fields give, clamped in table order (R12). -/
def clampPartParams : List Nat → PartParams
  | [k, l, c, h, s, t, q] =>
    let lowV := clampTo 1 235 l
    { k := clampTo 1 12 k, lowV := lowV, critV := clampTo 0 (lowV - 1) c, h := clampTo 0 20 h, fSup := clampTo 1 8 s
      tStart := clampTo 100 2000 t, fFire := clampTo 1 8 q }
  | _ => .default

/-- The part parameters as numbers in table order (R15). -/
def PartParams.fields (x : PartParams) : List Nat := [x.k, x.lowV, x.critV, x.h, x.fSup, x.tStart, x.fFire]

/-- LOAD_PART_PARAMS: taken in every mode; both supply counts return to zero, and the arbiter grants (R12, R13). -/
def loadPartParams (sent : List Nat) (p : Part) : Answer × Part :=
  let params := clampPartParams sent
  (clampAnswer (numbersClamped sent params.fields),
    { p with params := params, supply := { p.supply with fall := 0, rise := 0 } } |> grantEvent)

end Sys2Proof.Machine
end

