-- ==== Sys2Proof/Machine/Flags.lean ====
section
/-! DEFINITION. The packed flag bytes the two links carry (R166, R169, R173) and the byte encoders of R173. -/

namespace Sys2Proof.Machine

/-! ### Numbers on the wire: most significant byte first (R173) -/

/-- A one-byte field. -/
def u8 (n : Nat) : List Byte := [byteOf n]

/-- A two-byte field. -/
def u16 (n : Nat) : List Byte := [byteOf (n / 256), byteOf n]

/-- A three-byte field. -/
def u24 (n : Nat) : List Byte := [byteOf (n / 65536), byteOf (n / 256), byteOf n]

/-- A four-byte field. -/
def u32 (n : Nat) : List Byte := [byteOf (n / 16777216), byteOf (n / 65536), byteOf (n / 256), byteOf n]

/-- A one-byte field, 0xFF when absent (R173). -/
def u8Opt : Option Nat → List Byte
  | none => [0xFF]
  | some n => u8 n

/-- A two-byte length, 0xFFFF when absent (R173). -/
def u16Opt : Option Nat → List Byte
  | none => [0xFF, 0xFF]
  | some n => u16 n

/-- A three-byte position, 0xFFFFFF when absent (R173). -/
def u24Opt : Option Nat → List Byte
  | none => [0xFF, 0xFF, 0xFF]
  | some n => u24 n

/-- Up to eight flags in one byte, in the order listed, from bit 0, unused bits zero (R173). -/
def flags (fs : List Bool) : List Byte :=
  [byteOf (fs.foldr (fun b acc => (if b then 1 else 0) + 2 * acc) 0)]

/-- A set of indices as a 24-bit set, bit i for index i (R173). -/
def indexSet (is : List Nat) : List Byte := u24 ((is.map fun i => 2 ^ i).sum)

/-- A set of doors (R173). -/
def doorSet (ds : List DoorIx) : List Byte := indexSet (ds.map Fin.val)

/-- A detector pattern: bit i for detector i (R173), set when it is OCCUPIED (assumption 16: the model's choice). -/
def patternSet (pattern : List Bool) : List Byte :=
  indexSet ((List.range pattern.length).filter fun i => pattern.getD i false)

/-- A list of varying length: entry count, then the entries (R173). -/
def listOf {α : Type} (enc : α → List Byte) (xs : List α) : List Byte :=
  u8 xs.length ++ xs.flatMap enc

/-- E as a signed 16-bit quantity, carried within ±32,767, 0x8000 when absent (R44, R173). -/
def errorField : Option Int → List Byte
  | none => [0x80, 0x00]
  | some e =>
    let c : Int := max (-32767) (min 32767 e)
    u16 ((c % 65536).toNat)

/-! ### Notes bytes -/

/-- The link notes byte of a reply: OVERRUN in bit 0, DISCARDED in bit 1 (R166). -/
def linkNotes (overrun discarded : Bool) : List Byte := flags [overrun, discarded]

/-- The report notes byte: LOSS in bit 0, the class in bits 2 and 1 (R169). -/
def reportNotes (loss : Bool) (c : ReportClass) : List Byte :=
  [byteOf ((if loss then 1 else 0) + 2 * c.ctorIdx)]

end Sys2Proof.Machine
end

