-- ==== Sys2Proof/Machine/Wire.lean ====
section
/-! DEFINITION. The frames of the two links as bytes: check values, door link frames and STATUS replies (R74),
reports and replies (R166, R169, R173). -/

namespace Sys2Proof.Machine

/-! ### Check values -/

/-- One bit of a CRC-16 with generator `poly`, most significant bit first. -/
def crcBit (poly : BitVec 16) (c : BitVec 16) : BitVec 16 :=
  if c.msb then (c <<< 1) ^^^ poly else c <<< 1

/-- One byte into a CRC-16, most significant bit first. -/
def crcByte (poly : BitVec 16) (c : BitVec 16) (b : Byte) : BitVec 16 :=
  Nat.repeat (crcBit poly) 8 (c ^^^ (b.zeroExtend 16 <<< 8))

/-- A CRC-16 with initial value 0xFFFF, unreflected, without final complement. -/
def crc16 (poly : BitVec 16) (bytes : List Byte) : BitVec 16 :=
  bytes.foldl (crcByte poly) 0xFFFF

/-- The CRC of a host link frame (R163). -/
def hostCrc (bytes : List Byte) : List Byte := u16 (crc16 0x8005 bytes).toNat

/-- The CRC of a door link frame: section 4.10 gives the generator and the initial value; most significant bit first,
unreflected and without complement is PRESUMED (assumption 31). -/
def linkCrc (bytes : List Byte) : List Byte := u16 (crc16 0x1021 bytes).toNat

/-! ### Door link frames (section 4.10) -/

/-- The envelope of a door link frame (R74). -/
def linkEnvelope (kind : Byte) (g : Nat) (body : List Byte) : List Byte :=
  let covered := byteOf (body.length + 2) :: kind :: byteOf g :: body
  0xA5 :: covered ++ linkCrc covered

/-- The action code of a MOVE frame (section 4.10). -/
def LinkAction.code : LinkAction → Nat
  | .unlockOpen => 1
  | .closeLock => 2
  | .reverse => 3
  | .stop => 0

/-- The bytes of a frame the part sends (R74). -/
def LinkFrame.bytes : LinkFrame → List Byte
  | .mark g n => linkEnvelope 0x10 g (u8 n)
  | .poll g pos sweep => linkEnvelope 0x20 g (u8 pos ++ u8 (if sweep then 1 else 0))
  | .move g action ts =>
    linkEnvelope 0x30 g (doorSet (ts.map fun x => x.1.door) ++ u8 action.code ++
      ts.flatMap fun x => u8 (16 * x.1.speed + x.1.force) ++ u8 x.2)
  | .stop g ts => linkEnvelope 0x40 g (doorSet (ts.map Prod.fst) ++ ts.flatMap fun x => u8 x.2)
  | .cue g ds c => linkEnvelope 0x50 g (doorSet ds ++ u8 c.ctorIdx)
  | .sync g phase mode => linkEnvelope 0x60 g (u8 phase ++ u8 mode.ctorIdx)

/-! ### STATUS replies (R63) -/

/-- A good STATUS reply: its unit type, its report (with no confirmation result yet) and its beam levels. -/
structure StatusReply where
  report : DoorReport
  inner : Bool
  outer : Bool
  deriving DecidableEq, Repr

/-- The unit type of a door unit (R63). -/
def doorUnitType : Byte := 0x2D

/-- The motion codes of a STATUS reply. -/
def Motion.ofCode (b : Byte) : Option Motion :=
  if b = 0 then some .idle else if b = 1 then some .opening else if b = 2 then some .closing
  else if b = 3 then some .stalled else none

/-- The key codes of a STATUS reply. -/
def Key.ofCode (b : Byte) : Option Key :=
  if b = 0 then some .auto else if b = 1 then some .opn else if b = 2 then some .close
  else if b = 3 then some .isolate else none

/-- The unit fault codes of a STATUS reply. -/
def UnitFault.ofCode (n : Nat) : Option UnitFault :=
  if n = 0 then some .none else if n = 1 then some .drive else if n = 2 then some .sensor else Option.none

/-- The bytes of a reply from its start byte: bytes before a 0xA5 begin no frame (R74). -/
def replyStart (bytes : List Byte) : List Byte := bytes.dropWhile fun b => b != 0xA5

/-- The LEN of a reply is not that of a STATUS reply, which makes it bad at once (R74). -/
def replyLenBad (bytes : List Byte) : Bool :=
  match replyStart bytes with
  | _ :: len :: _ => decide (len ≠ 10)
  | _ => false

/-- The reply frame has been received whole: 14 bytes from the start byte (section 4.10). -/
def replyComplete (bytes : List Byte) : Bool := decide ((replyStart bytes).length ≥ 14)

/-- The acceptance tests of R63 but for the unit type: CRC, LEN, KIND, g, position, leaf position, defined
codes and zero unused flag bits. -/
def judgeReply (g pos : Nat) (bytes : List Byte) : Option StatusReply :=
  match replyStart bytes with
  | _ :: len :: kind :: rg :: rpos :: type :: leafH :: leafL :: mot :: fl :: key :: cf :: crcH :: crcL :: _ =>
    let leaf := leafH.toNat * 256 + leafL.toNat
    if [crcH, crcL] = linkCrc [len, kind, rg, rpos, type, leafH, leafL, mot, fl, key, cf] ∧ len = 10 ∧
        kind = 0x80 ∧ rg = byteOf g ∧ rpos = byteOf pos ∧ leaf ≤ 1000 ∧ fl.toNat < 32 then
      match Motion.ofCode mot, Key.ofCode key, UnitFault.ofCode (cf.toNat % 16) with
      | some m, some k, some u =>
        some { report := ⟨type, leaf, m, fl.getLsbD 0, fl.getLsbD 1, fl.getLsbD 2, k, cf.toNat / 16, u, .none⟩
               inner := fl.getLsbD 3
               outer := fl.getLsbD 4 }
      | _, _, _ => none
    else none
  | _ => none

/-! ### Reports (R169, R173) -/

/-- The strap values (R173). -/
def Straps.bytes (s : Straps) : List Byte :=
  u8 (if s.twoFaces then 2 else 1) ++ u8 s.hostRate.val ++ u8 (if s.linkFast then 1 else 0)

/-- A level, CLEAR or INACTIVE as 0 and BLOCKED or ACTIVE as 1 (R173). -/
def levelByte (x : Bool) : List Byte := u8 (if x then 1 else 0)

/-- A face byte (R173). -/
def faceByte (f : Face) : List Byte := u8 f.ctorIdx

/-- The pattern with its monotone indication and k (R24, R26). -/
def patternField (pattern : List Bool) : List Byte :=
  patternSet pattern ++ flags [monotone pattern] ++
    u8Opt (if monotone pattern then some (clearCount pattern) else none)

/-- The secured state as an enumerated value: ASSERTED, WITHDRAWN (section 9.6). -/
def securedCode (s : Bool) : List Byte := u8 (if s then 0 else 1)

/-- N, h and E of a nose, each marked absent where the record holds none (R44, R50). -/
def noseFields (x : Option Nose) : List Byte :=
  u24Opt (x.map Nose.n) ++ u16Opt (x.map Nose.h) ++ errorField (x.map Nose.e)

/-- The position, motion, lock, closed switch, handle and key of a report, when present (R76). -/
def reportFields : Option DoorReport → List Byte
  | none => [0xFF, 0xFF, 0xFF, 0xFF, 0xFF]
  | some r => u16 r.pos ++ u8 r.motion.ctorIdx ++ flags [r.locked, r.closed, r.pulled] ++ u8 r.key.ctorIdx

/-- A train door reference: bit 7 unit, bits 5 to 0 door, 0xFF when absent (R173). -/
def trainDoorField : Option TrainDoorRef → List Byte
  | none => [0xFF]
  | some r => u8 (128 * r.unitIx + r.doorIx)

/-- The KIND of a report (section 10.4). -/
def Report.kind : Report → Byte
  | .start .. => 0x40
  | .berth .. => 0x41
  | .axleFault .. => 0x42
  | .align .. => 0x43
  | .linkEnumerated .. => 0x44
  | .linkLost .. => 0x44
  | .door .. => 0x45
  | .opDone .. => 0x46
  | .supply .. => 0x47
  | .counts .. => 0x48
  | .gap .. => 0x49
  | .release .. => 0x4A
  | .releaseCleared .. => 0x4A
  | .mode .. => 0x4B
  | .secured .. => 0x4C

/-- The TAG of a report: the operation's for OP_DONE, the enumeration tag for ENUMERATED, else 0 (R169). -/
def Report.tag : Report → Byte
  | .opDone _ op _ _ => op.tag
  | .linkEnumerated _ r => r.tag
  | _ => 0

/-- The fields of a BERTH report in the order of R26. -/
def BerthReport.bytes (r : BerthReport) : List Byte :=
  u8 r.prev.ctorIdx ++ u8 r.next.ctorIdx ++ u8 r.cause.ctorIdx ++ [r.dwell] ++ u8 r.axles ++ u8Opt r.expected ++
    flags [r.overrun, r.unannounced, r.unchecked, r.served] ++ patternField r.pattern

/-- The fields of an AXLE_FAULT report in the order of R23. An UNDERFLOW or OVERFLOW, which carries no move, sends its two
position bytes as absent, 0xFF, where an OPEN's OP_DONE leaves its gap outcome out (assumption 16: the model's
choice). -/
def AxleFaultReport.bytes (r : AxleFaultReport) : List Byte :=
  u8 r.sensor.ctorIdx ++ u8 r.fault.ctorIdx ++ u8 r.berth.ctorIdx ++ u8 r.axles ++ [r.dwell] ++
    u8Opt (r.move.map fun m => m.1.ctorIdx) ++ u8Opt (r.move.map fun m => m.2.ctorIdx)

/-- The fields of an ALIGN report in the order of R50. -/
def AlignRec.reportBytes (a : AlignRec) : List Byte :=
  u8 a.cause.ctorIdx ++ [a.dwell] ++ u8 a.status.ctorIdx ++ u8 a.axleCheck.ctorIdx ++
    u8Opt (a.nose.map fun x => x.window.ctorIdx) ++ noseFields a.nose ++
    listOf (fun e => u8 e.verdict.ctorIdx ++ u16 e.ov) a.doors ++ u8 a.unserved.length

/-- The fields of a DOOR report in the order of R76. -/
def DoorChange.bytes (r : DoorChange) : List Byte :=
  u8 r.state.ctorIdx ++ u8Opt (r.cause.map DiscCause.ctorIdx) ++ u8 r.iso.ctorIdx ++
    flags [r.latch, r.late, r.partialOpen] ++ u8 r.change.ctorIdx ++ reportFields r.report ++
    u8 r.attempts ++ u8 r.gapReopens ++ u8 r.verdict.ctorIdx ++ [r.dwell]

/-- The fields of an OP_DONE report in the order of R100; the gap outcome is a CLOSE's only, and an OPEN's report has no
byte for it, where an AXLE_FAULT marks its move absent. An outcome's code counts PENDING as 0, so OPENED is 1 and EXCLUDED
9, for no rule lists the outcomes in one order (R99, R173; assumption 16: the model's choice). -/
def opDoneBytes (op : Op) (endCause : EndCause) (gap : GapOutcome) : List Byte :=
  u8 op.kind.ctorIdx ++ u8 op.source.ctorIdx ++ [op.tag] ++ [op.dwell] ++ u8 endCause.ctorIdx ++
    listOf (fun t => u8 t.door.val ++ u8 t.outcome.ctorIdx) op.targets ++
    (match op.kind with
     | .opn => []
     | .close => u8 gap.ctorIdx)

/-- The fields of a COUNTS report in the order of R123. -/
def countsBytes (dwell : Byte) (es : List (DoorIx × Counts)) : List Byte :=
  [dwell] ++
    listOf (fun e => u8 e.1.val ++ u16 e.2.board ++ u16 e.2.alight ++ u16 e.2.undirected ++ flags [e.2.saturated]) es ++
    u32 ((es.map fun e => e.2.board).sum) ++ u32 ((es.map fun e => e.2.alight).sum) ++
    u32 ((es.map fun e => e.2.undirected).sum)

/-- The fields of a GAP report in the order of R134; the code of cause REOPEN, the place of the gap reopens count, the
order of the end beams, head before tail, and the blocked and the waited-for doors as two door sets of three bytes, not
as lists of varying length (R173 has both forms), are the model's choice (assumption 16). -/
def GapReport.bytes (r : GapReport) : List Byte :=
  u8 r.prev.ctorIdx ++ u8 r.next.ctorIdx ++ [r.dwell] ++ u8 r.cause.ctorIdx ++ u8Opt (r.door.map Fin.val) ++
    u8Opt r.reopens ++ levelByte r.headBlocked ++ levelByte r.tailBlocked ++ doorSet r.blocked ++ doorSet r.waiting ++
    flags [r.bypass]

/-- The fields of a RELEASE report of event SET in the order of R135. The event SET is coded 0, and CLEARED 1, for no list
defines both values (R135, R138, R173; assumption 16: the model's choice). -/
def ReleaseReport.bytes (r : ReleaseReport) : List Byte :=
  u8 r.door.val ++ u8 0 ++ u8 r.prev.ctorIdx ++ u16 r.pos ++ u8 r.motion.ctorIdx ++ flags [r.locked, r.closed] ++
    u8 r.mode.ctorIdx ++ u8 r.berth.ctorIdx ++ [r.dwell] ++
    u8Opt (r.op.map fun o => o.1.ctorIdx) ++ u8Opt (r.op.map fun o => o.2.toNat)

/-- The fields of a RELEASE report of event CLEARED in the order of R138; the event, which R138's list leaves out, stands
after the door index, where R135 lists it for SET, and is coded 1, SET being 0 (assumption 16: the model's choice). -/
def ReleaseCleared.bytes (r : ReleaseCleared) : List Byte :=
  u8 r.door.val ++ u8 1 ++ u8 r.cause.ctorIdx ++ u8 r.mode.ctorIdx ++ u8 r.berth.ctorIdx ++ [r.dwell]

/-- The fields of a MODE report in the order of R149. -/
def ModeReport.bytes (r : ModeReport) : List Byte :=
  u8 r.prev.ctorIdx ++ u8 r.next.ctorIdx ++ u8 (if r.handover then 1 else 0) ++ u8 r.cause.ctorIdx ++
    levelByte r.localReq ++ levelByte r.proofBypass ++ levelByte r.gapBypass ++ u8 r.berth.ctorIdx ++ [r.dwell]

/-- The fields of a SECURED report in the order of R160. -/
def SecuredReport.bytes (r : SecuredReport) : List Byte :=
  securedCode r.prev ++ securedCode r.next ++ u8 r.cause.ctorIdx ++ levelByte r.proofBypass ++ levelByte r.gapBypass ++
    u8 r.gap.ctorIdx ++ listOf (fun e => u8 e.1.val ++ u8 e.2.ctorIdx) r.failing ++ u8 r.berth.ctorIdx ++ [r.dwell]

/-- The fields of a report, in its defining rule's order (R169, R173). The chain position and the unit type of an extra
unit, the number of doors OK, the start limits, the numbers of starting and queued doors, the attempts and the reopens
are one byte each (assumption 16: the model's choice). -/
def Report.fields : Report → List Byte
  | .start cause straps rev => u8 cause.ctorIdx ++ Straps.bytes straps ++ [rev]
  | .berth f r => faceByte f ++ r.bytes
  | .axleFault f r => faceByte f ++ r.bytes
  | .align f r => faceByte f ++ r.reportBytes
  | .linkEnumerated f r =>
    u8 0 ++ faceByte f ++ [r.tag] ++ u8 r.g ++ u8 r.n ++ u8 r.okCount ++
      listOf (fun e => u8 e.1.val ++ u8 e.2.ctorIdx) r.lost ++ listOf (fun e => u8 e.1 ++ [e.2]) r.extra
  | .linkLost f d reason g => u8 1 ++ faceByte f ++ u8 d.val ++ u8 reason.ctorIdx ++ u8 g
  | .door f d r => faceByte f ++ u8 d.val ++ r.bytes
  | .opDone f op e g => faceByte f ++ opDoneBytes op e g
  | .supply r =>
    u8 r.prev.ctorIdx ++ u8 r.next.ctorIdx ++ [r.code] ++ u8 r.ordinary ++ u8 r.fire ++ u8 r.starting ++ u8 r.queued
  | .counts f dwell es => faceByte f ++ countsBytes dwell es
  | .gap f r => faceByte f ++ r.bytes
  | .release f r => faceByte f ++ r.bytes
  | .releaseCleared f r => faceByte f ++ r.bytes
  | .mode f r => faceByte f ++ r.bytes
  | .secured f r => faceByte f ++ r.bytes

/-! ### Host link frames (section 10.1) -/

/-- The start-of-frame byte of the host link. -/
def hostSof : Byte := 0xC3

/-- A host link frame as bytes: SOF, LEN, KIND, TAG, payload, CRC (section 10.1, R163). -/
def hostFrame (kind tag : Byte) (payload : List Byte) : List Byte :=
  let covered := byteOf (payload.length + 2) :: kind :: tag :: payload
  hostSof :: covered ++ hostCrc covered

/-- The result codes (R166). -/
def Result.code : Result → Nat
  | .done => 0x00
  | .accepted => 0x01
  | .clamped => 0x02
  | .badKind => 0x10
  | .badLength => 0x11
  | .badValue => 0x12
  | .wrongMode => 0x20
  | .noTrain => 0x21
  | .notAligned => 0x22
  | .inUse => 0x23
  | .busy => 0x24
  | .localControl => 0x25
  | .localPending => 0x26
  | .fireActive => 0x27

/-- A reply frame with the link notes it carries (R166, section 10.7). -/
def Reply.frame (r : Reply) (overrun discarded : Bool) : List Byte :=
  hostFrame r.kind r.tag
    (u8 r.result.code ++ linkNotes overrun discarded ++ [r.detailA, r.detailB] ++ r.data)

/-- A report frame with the LOSS it carries (R169, section 10.7). -/
def Report.frame (r : Report) (loss : Bool) : List Byte :=
  hostFrame r.kind r.tag (reportNotes loss r.cls ++ r.fields)

/-- What the TX line carries: the frame being sent, or nothing (R171). -/
def Transmitter.bytes : Transmitter → List Byte
  | .idle => []
  | .reply r o d => r.frame o d
  | .report r loss => r.frame loss

/-- What a door link's data pair carries from the part: the frame being sent, or nothing (R74). -/
def Line.bytes : Line → List Byte
  | .sending fr => fr.bytes
  | _ => []

/-- Driver enable is active from the first byte of a frame to the end of its CRC (R74). -/
def Line.driverEnable : Line → Bool
  | .sending _ => true
  | _ => false

/-- The SECURED output of a face: it toggles at 1 kHz while this is set, and is static low otherwise; a face
that is absent is held low (R1, R160). -/
def Part.securedToggles (p : Part) (f : Face) : Bool := p.present f && (p.face f).secured

end Sys2Proof.Machine
end

