-- ==== Sys2Proof/Machine/Enquiry.lean ====
section
/-! DEFINITION. The data of the enquiry replies (R14, R15, R39, R56, R97, R124, R167), encoded by R173. -/

namespace Sys2Proof.Machine

/-! ### The part (R15, R167) -/

/-- The supply and part parameters as bytes, in table order. -/
def PartParams.bytes (x : PartParams) : List Byte :=
  ((x.fields.zip partParamWidths).map fun y => if y.2 = 2 then u16 y.1 else u8 y.1).flatten

/-- A profile's presence and use, and its fields when present (R15, R167). Of an absent profile L, c, axles and the door
count are left out, where other fields are sent with an absent mark (R173; assumption 16: the model's choice). -/
def profileHead (p : Part) (id : Fin 8) : List Byte :=
  match p.profiles[id] with
  | none => flags [false, p.profileInUse id.val]
  | some pr =>
    flags [true, p.profileInUse id.val] ++ u24 pr.len ++ u16 pr.coupler ++ u8 pr.axles ++ u8 pr.doors.length

/-- The door entries of a profile, when present (R167). -/
def profileDoors (p : Part) (id : Fin 8) : List Byte :=
  match p.profiles[id] with
  | none => []
  | some pr => pr.doors.flatMap fun t => u24 t.a ++ u16 t.t

/-- A start queue entry (R173). -/
def QEntry.bytes (e : QEntry) : List Byte :=
  u8 (128 * e.ref.face.ctorIdx + e.ref.door.val) ++ u8 (128 * e.action.ctorIdx + e.kind.ctorIdx)

/-- The data of ENQUIRE_PART with no payload, in the order of R167. It carries no reset cause, which START
carries and R167 does not list (R170; assumption 46: the model's choice). The start limits and the numbers of starting
and queued doors and of reports, and the latest sample code, are one byte each (assumption 16: the model's choice); the two
fire inputs read INACTIVE until the first sample primes them (assumption 33: the model's choice). -/
def partData (p : Part) : List Byte :=
  p.params.bytes ++ Straps.bytes p.straps ++ [Config.siliconRevision] ++
    (List.finRange 8).flatMap (profileHead p) ++
    u8 p.supply.level.ctorIdx ++ [p.supply.code] ++ u8 (ordLimit p.supply.level p.params.k) ++
    u8 (fireLimit p.supply.level p.params.k) ++
    u8 p.arb.starting.length ++ listOf QEntry.bytes p.arb.queue ++
    u8 (if p.fire.cause.isSome then 1 else 0) ++ u8Opt (p.fire.cause.map FireCause.ctorIdx) ++
    levelByte p.fire.fireIn.reads ++ levelByte p.fire.fireReset.reads ++
    u8 p.reports.length ++ flags [p.loss]

/-- The data of ENQUIRE_PART naming a profile (R167). -/
def profileData (p : Part) (id : Fin 8) : List Byte := u8 id.val ++ profileHead p id ++ profileDoors p id

/-! ### A face (R14, R149) -/

/-- The face parameters as bytes, in table order. -/
def FaceParams.bytes (x : FaceParams) : List Byte :=
  ((x.fields.zip faceParamWidths).map fun y => if y.2 = 2 then u16 y.1 else u8 y.1).flatten

/-- The geometry fields, absent without geometry (R14). -/
def geometryData (g : Option Geometry) : List Byte :=
  flags [g.isSome] ++ u8Opt (g.map Geometry.n) ++ u24Opt (g.map Geometry.d0) ++ u16Opt (g.map Geometry.pitch) ++
    u8Opt (g.map Geometry.m) ++ u24Opt (g.map Geometry.s0) ++
    listOf (fun (x : DoorGeom) => u24 x.xc ++ u16 x.w ++ u8 x.cls) ((g.map Geometry.doors).getD [])

/-- A panel filter: accepted level, run count, primed mark (section 9.1). -/
def Filter.bytes (x : Filter) : List Byte := levelByte x.reads ++ u8 x.run ++ flags [x.primed]

/-- The face mode record (section 9.1, R149). The enumeration target's own list has AUTO first, so it is sent as 0, or as
absent (R173). The held notice, present or absent, is sent as bit 1 of the flags byte whose bit 0 is the wake round
(assumption 16: the model's choice). -/
def ModeRec.bytes (m : ModeRec) : List Byte :=
  u8 m.mode.ctorIdx ++ u8 (if m.handover then 1 else 0) ++ u8Opt (if m.toAuto then some 0 else none) ++
    flags [m.wakeRound, m.heldNotice] ++
    m.panel.localReq.bytes ++ m.panel.pOpen.bytes ++ m.panel.pClose.bytes ++ m.panel.pAll.bytes ++
    m.panel.proofBypass.bytes ++ m.panel.gapBypass.bytes ++ levelByte m.localAck ++ levelByte m.alarm

/-- The data of ENQUIRE_FACE: the fields that R14 and R149 list, so neither the gap check nor the secured state nor the
operation record nor the link record with its g, enumeration tag and extra list, which no enquiry's rule lists although
R170 says that every record a report carries can be read by one (assumption 46: the model's choice). The face mode record stands after the geometry, the classes and the parameters, for R149 returns it
"with the face's configuration" and orders the two no further (assumption 16: the model's choice). -/
def faceData (r : FaceRec) : List Byte :=
  geometryData r.geom ++
    (r.classes.toList.flatMap fun c => u8 c.openSpeed ++ u8 c.closeSpeed ++ u8 c.closeForce ++ u16 c.timeout) ++
    r.params.bytes ++ r.mode.bytes

/-! ### A door (R97) -/

/-- The latest report, every field absent before the first (R64, R97). The unit type and the last command id are one
byte each (assumption 16: the model's choice). -/
def latestData (r : Option DoorReport) : List Byte :=
  match r with
  | none => [0xFF, 0xFF, 0xFF, 0xFF, 0xFF, 0xFF, 0xFF, 0xFF, 0xFF]
  | some x =>
    [x.unitType] ++ u16 x.pos ++ u8 x.motion.ctorIdx ++ flags [x.locked, x.closed, x.pulled] ++ u8 x.key.ctorIdx ++
      u8 x.lastId ++ u8 x.fault.ctorIdx ++ u8 x.confirm.ctorIdx

/-- A movement order: action, kind, and the state an open order was taken from, in its own list of section 5.1
CLOSED_LOCKED 0 and OPEN 1 (R173). -/
def orderData (o : Option MoveOrder) : List Byte :=
  match o with
  | none => [0xFF, 0xFF, 0xFF]
  | some m =>
    u8 m.action.ctorIdx ++ u8 m.kind.ctorIdx ++
      (match m.action with
       | .toOpen => u8 (if m.fromOpen then 1 else 0)
       | .toClose => [0xFF])

/-- A health entry (R58). The awaited action is sent as UNLOCK_OPEN 0, CLOSE_LOCK 1, REVERSE 2 or STOP 3, and a last cue
sent UNKNOWN as 0xFF; the miss and resend counts and the command ids are one byte each (assumption 16: the model's
choice). -/
def Health.bytes (h : Health) : List Byte :=
  u8 h.health.ctorIdx ++ u8Opt (h.reason.map LostReason.ctorIdx) ++ u8 h.miss ++ u8 h.lastId ++
    u8Opt (h.awaited.map fun a => a.action.ctorIdx) ++ u8Opt (h.awaited.map fun a => a.id) ++ u8 h.resends ++
    flags [h.confirm] ++ u8Opt (h.lastCue.map Cue.ctorIdx) ++ u8Opt (h.pendingCue.map Cue.ctorIdx)

/-- The geometry entry of a door index, absent when it is not configured (section 5.1). -/
def FaceRec.geomOf (r : FaceRec) (d : DoorIx) : Option DoorGeom :=
  match r.geom with
  | none => none
  | some g => g.doors[d.val]?

/-- The data of ENQUIRE_DOOR: the record in its table's order, and the health entry (R97). The obstruction attempts and
the gap reopens are one byte each (assumption 16: the model's choice). -/
def doorData (r : FaceRec) (d : DoorIx) : List Byte :=
  let x := r.doors[d]
  let g := r.geomOf d
  u8 d.val ++ u24Opt (g.map DoorGeom.xc) ++ u16Opt (g.map DoorGeom.w) ++ u8Opt (g.map DoorGeom.cls) ++
    u8 x.state.ctorIdx ++ u8Opt (x.cause.map DiscCause.ctorIdx) ++ flags [x.hostIso, x.keyIso] ++ u8 x.iso.ctorIdx ++
    flags [x.latch, x.late, x.partialOpen, x.forced] ++ latestData x.report ++ orderData x.order ++
    u8Opt (x.reopenCause.map ReopenCause.ctorIdx) ++ u8 x.attempts ++ u8 x.gapReopens ++
    u16 x.counts.board ++ u16 x.counts.alight ++ u16 x.counts.undirected ++ u8 x.verdict.ctorIdx ++ u16 x.ov ++
    u8 x.cue.ctorIdx ++
    flags [x.unlockT.isSome, x.motionT.isSome, x.lockProofT.isSome, x.pauseT.isSome, x.startT.isSome] ++
    r.health[d].bytes

/-! ### The berth (R39) -/

/-- An axle decoder: position, entry side, spoiled mark (R39). -/
def AxleDecoder.bytes (d : AxleDecoder) : List Byte :=
  u8 d.pos.ctorIdx ++ u8Opt (d.entry.map HeadSide.ctorIdx) ++ flags [d.spoiled]

/-- The data of ENQUIRE_BERTH, in the order of the record's table (R39); the settle timer is a flag, set when running,
and the entry sensor's decoder stands before the exit sensor's (assumption 16: the model's choice). -/
def berthData (b : Berth) : List Byte :=
  u8 b.state.ctorIdx ++
    listOf (fun (u : UnitEntry) => u8 u.profile.val ++ u8 u.orientation.ctorIdx) ((b.ann.map Announcement.units).getD []) ++
    u8Opt (b.ann.map fun a => if a.autoOpen then 1 else 0) ++ u8Opt (b.ann.map Announcement.expected) ++ u8 b.axles ++
    patternField b.pattern ++ flags [b.overrun, b.unannounced, b.unchecked, b.served] ++ flags [b.settle.isSome] ++
    [b.dwell] ++ b.entry.dec.bytes ++ b.exit.dec.bytes

/-! ### The alignment record (R56) -/

/-- The data of ENQUIRE_ALIGN, in the order of the record's table (R56). -/
def alignData (a : AlignRec) : List Byte :=
  u8 a.status.ctorIdx ++ u8 a.cause.ctorIdx ++ [a.dwell] ++ u8 a.axleCheck.ctorIdx ++ noseFields a.nose ++
    u8Opt (a.nose.map fun x => x.window.ctorIdx) ++
    listOf (fun (e : DoorEntry) => u8 e.verdict.ctorIdx ++ u16 e.ov ++ trainDoorField e.best) a.doors ++
    listOf (fun t => trainDoorField (some t)) a.unserved

/-! ### The counts (R124) -/

/-- The packed byte of a door's entry in ENQUIRE_COUNTS: the filters' accepted levels, primed or not (R124). -/
def senseByte (x : Sense) (saturated : Bool) : List Byte :=
  u8 (x.dec.pos.ctorIdx + (if x.inner.level then 4 else 0) + (if x.outer.level then 8 else 0) +
    (if saturated then 16 else 0) + (if x.quietT.isSome then 32 else 0))

/-- The data of ENQUIRE_COUNTS: the fields that R124 lists, so not the gap state, which section 10.6 has the host read
by an enquiry (assumption 46: the model's choice). -/
def countsData (r : FaceRec) : List Byte :=
  flags [r.gap.counting] ++ [r.berth.dwell] ++
    listOf (fun (d : DoorIx) =>
      let c := r.doors[d].counts
      u16 c.board ++ u16 c.alight ++ u16 c.undirected ++ senseByte r.sense[d] c.saturated) r.configuredDoors

end Sys2Proof.Machine
end

