-- ==== Sys2Proof/Machine/Poll.lean ====
section
/-! DEFINITION. The poll cycle of the door link controller (chapter 4): the end of a poll while enumerating,
sweeping and running, supervision, the end of an enumeration, and the end of a wake round. -/

namespace Sys2Proof.Machine

/-- How a poll ended (R63). -/
inductive PollOutcome where
  | accepted (st : StatusReply)
  | wrongType (st : StatusReply)
  | unanswered
  deriving DecidableEq, Repr

/-- The judgement of a complete reply (R63). -/
def PollOutcome.ofReply (g pos : Nat) (bytes : List Byte) : PollOutcome :=
  match judgeReply g pos bytes with
  | none => .unanswered
  | some st => if st.report.unitType = doorUnitType then .accepted st else .wrongType st

/-- The LOST reason a poll's outcome gives (R61, R65). -/
def PollOutcome.reason : PollOutcome → LostReason
  | .wrongType _ => .wrongType
  | .accepted _ | .unanswered => .noAnswer

/-! ### Hand-over (R64) -/

/-- An accepted report and its beams are handed over: the door table, the face sequencer's notice, then the
passenger sensing unit (R64). -/
def handOver (f : Face) (d : DoorIx) (st : StatusReply) (confirm : Confirm) (p : Part) : Part :=
  p |> applyReport f d { st.report with confirm := confirm }
    |> seqCheck f
    |> beamHandover f d st.inner st.outer

/-! ### Enumerating and sweeping (R61) -/

/-- A door becomes LOST at its enumeration poll (R61). -/
def enumLost (f : Face) (d : DoorIx) (reason : LostReason) (p : Part) : Part :=
  (p.modFace f fun r => r.modHealth d fun h => { h with health := .lost, reason := some reason })
    |> enterLost f d

/-- The end of an enumeration poll of a configured position (R61). -/
def enumPollEnd (f : Face) (d : DoorIx) (o : PollOutcome) (p : Part) : Part :=
  match o with
  | .accepted st =>
    (p.modFace f fun r => r.modHealth d fun h => { h with health := .ok, reason := none, miss := 0 })
      |> handOver f d st .none
  | .wrongType _ | .unanswered => enumLost f d o.reason p

/-- After the poll of position n−1 the sweep begins at position n (R61). -/
def enumAdvance (pos : Nat) (r : FaceRec) : FaceRec :=
  r.modLink fun l =>
    if pos + 1 ≥ r.n then { l with state := .sweeping, pollPos := r.n } else { l with pollPos := pos + 1 }

/-- A door is LOST at the link: out of the STOP frame, every MOVE frame and the resend queue (R65, R68). -/
def dropLost (d : DoorIx) (l : Link) : Link :=
  let l := dropPending d l
  { l with stopFrame := l.stopFrame.filter fun x => decide (x ≠ d) }

/-- The LOST doors of a face with their reasons. -/
def FaceRec.lostDoors (r : FaceRec) : List (DoorIx × LostReason) :=
  r.configuredDoors.filterMap fun d =>
    if r.health[d].health = .lost then (r.health[d].reason).map fun x => (d, x) else none

/-- The number of doors now OK (R61). -/
def FaceRec.okCount (r : FaceRec) : Nat :=
  (r.configuredDoors.filter fun d => decide (r.health[d].health = .ok)).length

/-- The fields of the LINK ENUMERATED report (R61). -/
def enumReport (r : FaceRec) : EnumReport :=
  { tag := r.link.enumTag, g := r.link.g, n := r.n, okCount := r.okCount, lost := r.lostDoors, extra := r.link.extra }

/-- The link's entry to RUNNING: pace, positions, flash timer, LOST targets removed, every cue handed again (R61,
R68, R72, R73). -/
def enterRunning (r : FaceRec) : FaceRec :=
  let lost := r.lostDoors.map Prod.fst
  let r := r.modLink fun l =>
    lost.foldl (fun l d => dropLost d l)
      { l with state := .running, pace := .normal, pollPos := 0, nonPoll := 0, flashTimer := some 125 }
  r.configuredDoors.foldl (fun r d => handCue d r.doors[d].cue r) r

/-- The end of the sweep (R61, R151). -/
def sweepDone (f : Face) (p : Part) : Part :=
  p |> queueReport (.linkEnumerated f (enumReport (p.face f)))
    |> (fun p => p.modFace f enterRunning)
    |> enumerationCompleted f

/-- The end of a sweep poll (R61). -/
def sweepPollEnd (f : Face) (pos : Nat) (o : PollOutcome) (p : Part) : Part :=
  let p := match o with
    | .accepted st | .wrongType st =>
      p.modFace f fun r => r.modLink fun l => { l with extra := l.extra ++ [(pos, st.report.unitType)] }
    | .unanswered => p
  if pos ≥ 31 then sweepDone f p else p.modFace f fun r => r.modLink fun l => { l with pollPos := pos + 1 }

/-! ### Supervision while RUNNING (R65, R67) -/

/-- A door's health entry at an accepted reply: OK, and the last cue UNKNOWN on a return (R65). -/
def Health.answered (h : Health) : Health :=
  { h with
    health := .ok, reason := none, miss := 0
    lastCue := match h.health with
               | .late | .lost => none
               | .ok | .notEnumerated => h.lastCue }

/-- The health entry returned from LATE or LOST. -/
def HealthState.returned : HealthState → Bool
  | .late | .lost => true
  | .ok | .notEnumerated => false

/-- An accepted reply while RUNNING: health and confirmation are settled, then it is handed over (R64, R65, R67,
R72). At a return from LATE the flag is cleared, and its DOOR report queued with the previous report's fields, before
the new report is stored (assumption 43: the model's choice). -/
def runAccepted (f : Face) (d : DoorIx) (st : StatusReply) (p : Part) : Part :=
  let r := p.face f
  let was := r.health[d].health
  let c := confirmReply r.inFire d st.report.lastId r.health[d].answered
  let p := p.modFace f fun r =>
    let r := (r.modHealth d fun _ => c.2.1).modLink (queueResend c.2.2)
    if was.returned then handCue d r.doors[d].cue r else r
  let p := if was = .late then setLate f d false p else p
  handOver f d st c.1 p

/-- A door goes from LATE to LOST while RUNNING (R65). -/
def runLost (f : Face) (d : DoorIx) (reason : LostReason) (p : Part) : Part :=
  let p := p.modFace f fun r =>
    (r.modHealth d fun h => { h.settled with health := .lost, reason := some reason, miss := 2 }).modLink (dropLost d)
  p |> queueReport (.linkLost f d reason (p.face f).link.g) |> enterLost f d

/-- A poll of a configured door without an accepted reply while RUNNING (R65). -/
def runMissed (f : Face) (d : DoorIx) (reason : LostReason) (p : Part) : Part :=
  match (p.face f).health[d].health with
  | .ok =>
    (p.modFace f fun r => r.modHealth d fun h => { h with health := .late, miss := 1 }) |> setLate f d true
  | .late => runLost f d reason p
  | .lost => p.modFace f fun r => r.modHealth d fun h => { h with reason := some reason }
  | .notEnumerated => p

/-- The outcome of a poll while RUNNING (R65). -/
def runPollEnd (f : Face) (d : DoorIx) (o : PollOutcome) (p : Part) : Part :=
  match o with
  | .accepted st => runAccepted f d st p
  | .wrongType _ | .unanswered => runMissed f d o.reason p

/-- The end of a poll in pace WAKE or in a standby round (R70, R71); `pace` is the pace in which it ended. -/
def roundStep (f : Face) (pace : Pace) (pos : Nat) (p : Part) : Part :=
  let l := (p.face f).link
  match pace with
  | .normal => p
  | .standby =>
    if l.pace = .standby ∧ pos + 1 ≥ (p.face f).n then
      p.modFace f fun r => r.modLink fun l => { l with round := false }
    else p
  | .wake =>
    if l.pace = .wake then
      if l.wakeCount ≤ 1 then
        (p.modFace f fun r => r.modLink fun l => { l with wakeCount := 0, pace := .normal }) |> wakeRoundEnded f
      else p.modFace f fun r => r.modLink fun l => { l with wakeCount := l.wakeCount - 1 }
    else p

/-! ### The end of a poll (R63) -/

/-- A poll ends: the line is free, the reply timer stops, and the outcome acts by the link state (R63). -/
def pollEnd (f : Face) (pos : Nat) (o : PollOutcome) (p : Part) : Part :=
  let l := (p.face f).link
  let p := p.modFace f fun r => r.modLink fun l => { l with line := .idle, replyTimer := none }
  match l.state with
  | .enumerating =>
    if h : pos < 24 then
      enumPollEnd f ⟨pos, h⟩ o p |> fun p => p.modFace f (enumAdvance pos)
    else p
  | .sweeping => sweepPollEnd f pos o p
  | .running => if h : pos < 24 then runPollEnd f ⟨pos, h⟩ o p |> roundStep f l.pace pos else p
  | .idle | .chainReset | .chainSettle => p

/-- The bytes of a reply frame arrive; outside a poll they are discarded (R63, R74). -/
def replyReceived (f : Face) (bytes : List Byte) (p : Part) : Part :=
  let l := (p.face f).link
  match l.line with
  | .awaiting pos sweep bad =>
    if bad then p
    else if replyLenBad bytes then
      p.modFace f fun r => r.modLink fun l => { l with line := .awaiting pos sweep true }
    else if replyComplete bytes then pollEnd f pos (.ofReply l.g pos bytes) p
    else p
  | .idle | .sending _ => p

/-- The reply timer expires: the poll ends unanswered (R63). -/
def replyExpiry (f : Face) (p : Part) : Part :=
  match (p.face f).link.line with
  | .awaiting pos _ _ =>
    if (p.face f).link.replyTimer.isSome then pollEnd f pos .unanswered p else p
  | .idle | .sending _ => p

end Sys2Proof.Machine
end

