-- ==== Sys2Proof/Machine/HostLink.lean ====
section
/-! DEFINITION. The host link interface (chapter 10): receiver, inbound queue, dispatch, replies, transmitter, the
end of every event, and the resets. -/

namespace Sys2Proof.Machine

/-! ### Serving a request (R165) -/

/-- What serving a request gives: the answer, the enquiry data, and the part after it. -/
structure Served where
  ans : Answer
  data : List Byte
  part : Part
  deriving DecidableEq, Repr

/-- A request that answers without data. -/
def Served.of (x : Answer × Part) : Served := ⟨x.1, [], x.2⟩

/-- An enquiry answered DONE: it changes nothing (R166). -/
def Served.enquiry (data : List Byte) (p : Part) : Served := ⟨.plain .done, data, p⟩

/-- A refusal: nothing changes. -/
def Served.refused (ans : Answer) (p : Part) : Served := ⟨ans, [], p⟩

/-- ENQUIRE_PART (R167). -/
def servePart (pl : List Byte) (p : Part) : Served :=
  match pl with
  | [] => .enquiry (partData p) p
  | id :: _ =>
    if h : id.toNat < 8 then .enquiry (profileData p ⟨id.toNat, h⟩) p else .refused (badValue 255) p

/-- ENQUIRE_DOOR: checked for geometry and index, answered in every mode (R97). -/
def serveDoor (f : Face) (d : Byte) (p : Part) : Served :=
  if h : d.toNat < 24 then
    if d.toNat < (p.face f).n then .enquiry (doorData (p.face f) ⟨d.toNat, h⟩) p else .refused (badValue 255) p
  else .refused (badValue 255) p

/-- OPEN_FACE (R102). -/
def serveOpen (f : Face) (tag : Byte) (pl : List Byte) (p : Part) : Served :=
  let fl := byteAt pl 1
  let q : OpenReq :=
    ⟨.host, tag, fl.getLsbD 0, if fl.getLsbD 1 then some (beNat ((pl.drop 2).take 3)) else none⟩
  match openCheck f q p with
  | some ans => .refused ans p
  | none => ⟨.plain .accepted, [], takeOpen f q p⟩

/-- CLOSE_FACE (R105). -/
def serveClose (f : Face) (tag : Byte) (p : Part) : Served :=
  match closeCheck f .host p with
  | some ans => .refused ans p
  | none => ⟨.plain .accepted, [], takeClose f .host tag p⟩

/-- A request that names a present face is handed to the block that owns its kind (section 10.3). -/
def serveFace (k : ReqKind) (f : Face) (tag : Byte) (pl : List Byte) (p : Part) : Served :=
  match k with
  | .enquireFace => .enquiry (faceData (p.face f)) p
  | .enquireDoor => serveDoor f (byteAt pl 1) p
  | .enquireBerth => .enquiry (berthData (p.face f).berth) p
  | .enquireAlign => .enquiry (alignData (p.face f).align) p
  | .enquireCounts => .enquiry (countsData (p.face f)) p
  | .loadGeometry => .of (loadGeometry f (readGeometry pl) p)
  | .loadFaceParams => .of (loadFaceParams f (readFields faceParamWidths (pl.drop 1)) p)
  | .loadClasses => .of (loadClasses f (readClasses pl) p)
  | .announceTrain =>
    .of (announceTrain f (decide (byteAt pl 1 = 1)) (readUnitBytes (byteAt pl 2).toNat (pl.drop 3)) p)
  | .withdrawTrain => .of (withdrawTrain f p)
  | .openFace => serveOpen f tag pl p
  | .closeFace => serveClose f tag p
  | .doorRestore => .of (doorRestore f (byteAt pl 1) p)
  | .doorIsolate => .of (doorIsolate f (byteAt pl 1) p)
  | .doorReadmit => .of (doorReadmit f (byteAt pl 1) p)
  | .maintMove => .of (maintMove f (byteAt pl 1) (decide (byteAt pl 2 = 1)) p)
  | .setFaceMode => .of (setFaceMode f (byteAt pl 1) tag p)
  | .enumerateFace => .of (enumerateFace f tag p)
  | .clearBerth => .of (clearBerth f p)
  | .enquirePart | .loadProfile | .loadPartParams | .fireCommand | .resetPart => .refused (badValue 255) p

/-- A request that names no face is handed to the block that owns its kind (section 10.3). -/
def servePartWide (k : ReqKind) (pl : List Byte) (p : Part) : Served :=
  match k with
  | .enquirePart => servePart pl p
  | .loadProfile => .of (loadProfile (byteAt pl 0).toNat (readProfile pl) p)
  | .loadPartParams => .of (loadPartParams (readFields partParamWidths pl) p)
  | .fireCommand => ⟨.plain .done, [], fireEntry .fireCommand p⟩
  | .resetPart => ⟨.plain .done, [], p⟩
  | _ => .refused (badValue 255) p

/-- A frame of a request kind: length, face and coded bytes, absent face, then the owner of its kind (R165, R1). -/
def serve (k : ReqKind) (tag : Byte) (pl : List Byte) (p : Part) : Served :=
  if !k.lengthOk pl then .refused (.plain .badLength) p
  else if k.namesFace then
    match readFace (byteAt pl 0) with
    | none => .refused (badValue 255) p
    | some f =>
      if !k.codesOk pl || !p.present f then .refused (badValue 255) p else serveFace k f tag pl p
  else servePartWide k pl p

/-- The reply to a request: KIND with bit 7 set, TAG, result, details and data (R166). -/
def replyTo (fr : Frame) (s : Served) : Reply :=
  { kind := fr.kind ||| 0x80, tag := fr.tag, result := s.ans.result, detailA := s.ans.a, detailB := s.ans.b,
    data := s.data }

/-- The reply to a KIND that names no request (R165 step 1, R166). -/
def badKindReply (fr : Frame) : Reply :=
  { kind := 0xFF, tag := fr.tag, result := .badKind, detailA := fr.kind, detailB := 0, data := [] }

/-! ### Dispatch, the end of an event, and the transmitter (R165, R171) -/

/-- What the rules of a face make known at the end of an event: a complete operation, the gap check, a handover
at rest. -/
def settleFace (f : Face) (p : Part) : Part := p |> seqCheck f |> gapUpdate f |> handoverCheck f

/-- The end of an event in the blocks of the part; each free door link then begins its next frame. -/
def settle (p : Part) : Part :=
  p |> settleFace .A |> settleFace .B
    |> (fun p => p.modFace .A linkPump)
    |> (fun p => p.modFace .B linkPump)

/-- A frame that dispatch has taken from the queue is served, and its reply made pending (R165, R168). -/
def dispatchFrame (fr : Frame) (rest : List Frame) (s : State) : State :=
  match ReqKind.ofCode fr.kind with
  | none => { s with host := { s.host with inbound := rest, reply := some (badKindReply fr) } }
  | some k =>
    let sv := serve k fr.tag fr.payload s.part
    { s with
      part := settle sv.part
      host := { s.host with inbound := rest, reply := some (replyTo fr sv),
                            resetting := s.host.resetting || (decide (k = .resetPart) && decide (sv.ans.result = .done)) } }

/-- Dispatch at an event after which the queue holds a frame and no reply is pending; none follows a RESET_PART
(R165, R168). -/
def dispatch (s : State) : State :=
  if s.host.resetting then s
  else
    match s.host.reply, s.host.inbound with
    | none, fr :: rest => dispatchFrame fr rest s
    | none, [] => s
    | some _, _ => s

/-- A transmitter opportunity: the pending reply with the link notes, else the report at the head of the queue
with LOSS (R166, R169, R171). -/
def transmit (s : State) : State :=
  match s.host.tx, s.host.reply, s.part.reports with
  | .idle, some r, _ =>
    { s with host := { s.host with tx := .reply r s.host.overrun s.host.discarded, reply := none,
                                   overrun := false, discarded := false } }
  | .idle, none, x :: rest =>
    { s with part := { s.part with reports := rest, loss := false }
             host := { s.host with tx := .report x s.part.loss } }
  | .idle, none, [] => s
  | .reply _ _ _, _, _ => s
  | .report _ _, _, _ => s

/-- The host link at the end of an event: dispatch, an opportunity, and dispatch again once a reply has left
(R165, R171). -/
def hostPump (s : State) : State := s |> dispatch |> transmit |> dispatch

/-- An event in the blocks of the part, and the end of it. -/
def event (g : Part → Part) (s : State) : State := hostPump { s with part := settle (g s.part) }

/-- An event of one face; a face that is absent is not sampled and does nothing (R1). -/
def faceEvent (f : Face) (g : Part → Part) (s : State) : State :=
  event (fun p => if p.present f then g p else p) s

/-! ### The receiver (R162 to R164) -/

/-- The frame in progress, or the byte alone, is discarded (R162). -/
def discard (h : HostLink) : HostLink := { h with rx := .waiting, gapTimer := none, discarded := true }

/-- A good frame is offered to the inbound queue (R164). -/
def offerFrame (fr : Frame) (h : HostLink) : HostLink :=
  if h.inbound.length < 4 then { h with inbound := h.inbound ++ [fr] } else { h with overrun := true }

/-- A complete frame is judged by its CRC (R163). -/
def judgeFrame (bytes : List Byte) (h : HostLink) : HostLink :=
  let h := { h with rx := .waiting, gapTimer := none }
  let n := bytes.length - 2
  if hostCrc (bytes.take n) = bytes.drop n then
    match bytes.take n with
    | _ :: kind :: tag :: pl => offerFrame ⟨kind, tag, pl⟩ h
    | _ => { h with discarded := true }
  else { h with discarded := true }

/-- The byte gap timer's duration, in milliseconds (R162). -/
def byteGap : Nat := 5

/-- A byte joins the frame in progress (R162). -/
def assemble (bytes : List Byte) (b : Byte) (h : HostLink) : HostLink :=
  match bytes with
  | [] =>
    if b.toNat < 2 ∨ b.toNat > 242 then discard h
    else { h with rx := .assembling [b], gapTimer := some byteGap }
  | len :: _ =>
    let bytes := bytes ++ [b]
    if bytes.length ≥ len.toNat + 3 then judgeFrame bytes h
    else { h with rx := .assembling bytes, gapTimer := some byteGap }

/-- A byte is received (R162). -/
def receiveByte (b : Byte) (stopOk : Bool) (h : HostLink) : HostLink :=
  if !stopOk then discard h
  else
    match h.rx with
    | .waiting =>
      if b = hostSof then { h with rx := .assembling [], gapTimer := some byteGap } else { h with discarded := true }
    | .assembling bytes => assemble bytes b h

/-- The byte gap timer expires (R162). -/
def gapTimeout (h : HostLink) : HostLink := if h.gapTimer.isSome then discard h else h

/-- A good frame arrives whole (R164, R165). -/
def frameArrives (fr : Frame) (s : State) : State := hostPump { s with host := offerFrame fr s.host }

/-! ### Resets (R168, R172) -/

/-- A reset of the part: every block takes its reset state, and START is queued at its end and begun by the idle
transmitter. The MODEL's queue of waiting commands is not the part's and stays. -/
def resetPart (cause : ResetCause) (straps : Straps) (s : State) : State :=
  { part := .reset straps
    host := { HostLink.reset with tx := .report (.start cause straps Config.siliconRevision) false }
    pending := s.pending }

/-- The transmitter is sending the DONE reply of a RESET_PART (R168). -/
def HostLink.sendingReset (h : HostLink) : Bool :=
  h.resetting &&
    (match h.tx with
     | .reply r _ _ => decide (r.kind = 0xC4) && decide (r.result = .done)
     | .idle => false
     | .report _ _ => false)

/-- The end of sending a host frame: the reset of a RESET_PART, or the next opportunity (R168, R171). -/
def hostSent (s : State) : State :=
  if s.host.sendingReset then resetPart .request s.part.straps s
  else hostPump { s with host := { s.host with tx := .idle } }

/-- The second CRC byte of the RESET_PART DONE reply has been sent, with the straps sampled at the reset (R168). -/
def requestedReset (straps : Straps) (s : State) : State :=
  if s.host.sendingReset then resetPart .request straps s else s

end Sys2Proof.Machine
end

