-- ==== Sys2Proof/Machine/ExecEvents.lean ====
section
/-! DEFINITION. The meanings of the other commands: resets, bytes and frames of the host link, frames, replies and timers of
the door links, samples of the sensors and inputs, and the timers of the faces and doors. -/

namespace Sys2Proof.Machine

/-- One sample of a fire input reading INACTIVE (R139). -/
def fireFall (input : FireInput) (p : Part) : Part :=
  match input with
  | .fireIn => fireInSample false p
  | .fireReset => fireResetSample false p

/-- POWER_ON (R172). -/
def execPowerOn (straps : Straps) (s : State) : Host.Outcome State Fault Refusal :=
  .next (resetPart .powerOn straps s)

/-- RESET_PIN (R172). -/
def execResetPin (straps : Straps) (s : State) : Host.Outcome State Fault Refusal :=
  .next (resetPart .pin straps s)

/-- REQUEST_RESET (R168). -/
def execRequestReset (straps : Straps) (s : State) : Host.Outcome State Fault Refusal :=
  .next (requestedReset straps s)

/-- FIRST_SAMPLE_AFTER_RESET (R139, R148). -/
def execFirstSampleAfterReset (sample : ResetSample) (s : State) : Host.Outcome State Fault Refusal :=
  .next (event (resetSample sample) s)

/-- HOST_BYTE_RECEIVED (R162). -/
def execHostByteReceived (b : Byte) (stopOk : Bool) (s : State) : Host.Outcome State Fault Refusal :=
  .next (hostPump { s with host := receiveByte b stopOk s.host })

/-- BYTE_GAP_TIMER_EXPIRY (R162). -/
def execByteGapTimerExpiry (s : State) : Host.Outcome State Fault Refusal :=
  .next ({ s with host := gapTimeout s.host })

/-- BAD_KIND (R165). -/
def execBadKind (kind tag : Byte) (payload : List Byte) (s : State) : Host.Outcome State Fault Refusal :=
  .next (frameArrives ⟨kind, tag, payload⟩ s)

/-- HOST_FRAME_SENT (R171). -/
def execHostFrameSent (s : State) : Host.Outcome State Fault Refusal :=
  .next (hostSent s)

/-- CHAIN_RESET_TIMER_EXPIRY (R59). -/
def execChainResetTimerExpiry (f : Face) (s : State) : Host.Outcome State Fault Refusal :=
  .next (faceEvent f (chainResetExpiry f) s)

/-- CHAIN_SETTLE_TIMER_EXPIRY (R60). -/
def execChainSettleTimerExpiry (f : Face) (s : State) : Host.Outcome State Fault Refusal :=
  .next (faceEvent f (chainSettleExpiry f) s)

/-- DOOR_LINK_FRAME_SENT (R69, R63). -/
def execDoorLinkFrameSent (f : Face) (s : State) : Host.Outcome State Fault Refusal :=
  .next (faceEvent f (frameSent f) s)

/-- STATUS_REPLY_RECEIVED (R63). -/
def execStatusReplyReceived (f : Face) (reply : List Byte) (s : State) : Host.Outcome State Fault Refusal :=
  .next (faceEvent f (replyReceived f reply) s)

/-- REPLY_TIMER_EXPIRY (R63). -/
def execReplyTimerExpiry (f : Face) (s : State) : Host.Outcome State Fault Refusal :=
  .next (faceEvent f (replyExpiry f) s)

/-- STANDBY_ROUND_TIMER_EXPIRY (R70). -/
def execStandbyRoundTimerExpiry (f : Face) (s : State) : Host.Outcome State Fault Refusal :=
  .next (faceEvent f (standbyExpiry f) s)

/-- FLASH_TIMER_EXPIRY (R73). -/
def execFlashTimerExpiry (f : Face) (s : State) : Host.Outcome State Fault Refusal :=
  .next (faceEvent f (flashExpiry f) s)

/-- AXLE_HEAD_CHANGE (R17). -/
def execAxleHeadChange (f : Face) (sensor : AxleSensor) (s1 s2 : Bool) (s : State) : Host.Outcome State Fault Refusal :=
  .next (faceEvent f (axleSample f sensor s1 s2) s)

/-- STOP_DETECTOR_CHANGE (R24). -/
def execStopDetectorChange (f : Face) (detector : Fin 16) (occupied : Bool) (s : State) : Host.Outcome State Fault Refusal :=
  .next (faceEvent f (detectorSample f detector occupied) s)

/-- CONFIGURATION_FIRST_SAMPLE (R34). -/
def execConfigurationFirstSample (f : Face) (sample : TrackSample) (s : State) : Host.Outcome State Fault Refusal :=
  .next (faceEvent f (firstSample f sample) s)

/-- SETTLE_TIMER_EXPIRY (R25). -/
def execSettleTimerExpiry (f : Face) (s : State) : Host.Outcome State Fault Refusal :=
  .next (faceEvent f (settleExpiry f) s)

/-- AUTOMATIC_OPENING_NOTICE (R55). -/
def execAutomaticOpeningNotice (f : Face) (s : State) : Host.Outcome State Fault Refusal :=
  .next (faceEvent f (noticeArrives f) s)

/-- UNLOCK_TIMER_EXPIRY (R87). -/
def execUnlockTimerExpiry (f : Face) (d : DoorIx) (s : State) : Host.Outcome State Fault Refusal :=
  .next (faceEvent f (unlockExpiry f d) s)

/-- MOTION_TIMER_EXPIRY (R85). -/
def execMotionTimerExpiry (f : Face) (d : DoorIx) (s : State) : Host.Outcome State Fault Refusal :=
  .next (faceEvent f (motionExpiry f d) s)

/-- LOCK_PROOF_TIMER_EXPIRY (R90). -/
def execLockProofTimerExpiry (f : Face) (d : DoorIx) (s : State) : Host.Outcome State Fault Refusal :=
  .next (faceEvent f (lockProofExpiry f d) s)

/-- OBSTRUCTION_PAUSE_TIMER_EXPIRY (R92). -/
def execObstructionPauseTimerExpiry (f : Face) (d : DoorIx) (s : State) : Host.Outcome State Fault Refusal :=
  .next (faceEvent f (pauseExpiry f d) s)

/-- START_TIMER_EXPIRY (R85). -/
def execStartTimerExpiry (f : Face) (d : DoorIx) (s : State) : Host.Outcome State Fault Refusal :=
  .next (faceEvent f (startExpiry f d) s)

/-- WARNING_TIMER_EXPIRY (R106). -/
def execWarningTimerExpiry (f : Face) (s : State) : Host.Outcome State Fault Refusal :=
  .next (faceEvent f (warningExpiry f) s)

/-- BEAM_CHANGE (R120). -/
def execBeamChange (f : Face) (d : DoorIx) (inner outer : Bool) (s : State) : Host.Outcome State Fault Refusal :=
  .next (faceEvent f (beamHandover f d inner outer) s)

/-- QUIET_TIMER_EXPIRY (R121). -/
def execQuietTimerExpiry (f : Face) (d : DoorIx) (s : State) : Host.Outcome State Fault Refusal :=
  .next (faceEvent f (quietExpiry f d) s)

/-- HOLD_TIMER_EXPIRY (R125). -/
def execHoldTimerExpiry (f : Face) (d : DoorIx) (s : State) : Host.Outcome State Fault Refusal :=
  .next (faceEvent f (holdExpiry f d) s)

/-- GAP_END_BEAM_CHANGE (R126). -/
def execGapEndBeamChange (f : Face) (beam : EndBeam) (blocked : Bool) (s : State) : Host.Outcome State Fault Refusal :=
  .next (faceEvent f (endBeamSample f beam blocked) s)

/-- GAP_TIMER_EXPIRY (R128). -/
def execGapTimerExpiry (f : Face) (s : State) : Host.Outcome State Fault Refusal :=
  .next (faceEvent f (gapExpiry f) s)

/-- SUPPLY_LEVEL_CHANGE (R118). -/
def execSupplyLevelChange (code : Byte) (s : State) : Host.Outcome State Fault Refusal :=
  .next (event (takeSupplySample code) s)

/-- FIRE_IN_RISING_EDGE (R140). -/
def execFireInRisingEdge (s : State) : Host.Outcome State Fault Refusal :=
  .next (event (fireInSample true) s)

/-- FIRE_RESET_RISING_EDGE (R146). -/
def execFireResetRisingEdge (s : State) : Host.Outcome State Fault Refusal :=
  .next (event (fireResetSample true) s)

/-- FIRE_INPUT_FALL (R139). -/
def execFireInputFall (input : FireInput) (s : State) : Host.Outcome State Fault Refusal :=
  .next (event (fireFall input) s)

/-- LOCAL_REQUEST_CHANGE (R155). -/
def execLocalRequestChange (f : Face) (active : Bool) (s : State) : Host.Outcome State Fault Refusal :=
  .next (faceEvent f (localSample f active) s)

/-- P_OPEN_EDGE (R158). -/
def execPOpenEdge (f : Face) (active : Bool) (s : State) : Host.Outcome State Fault Refusal :=
  .next (faceEvent f (openButtonSample f active) s)

/-- P_CLOSE_EDGE (R158). -/
def execPCloseEdge (f : Face) (active : Bool) (s : State) : Host.Outcome State Fault Refusal :=
  .next (faceEvent f (closeButtonSample f active) s)

/-- P_ALL_CHANGE (R158). -/
def execPAllChange (f : Face) (active : Bool) (s : State) : Host.Outcome State Fault Refusal :=
  .next (faceEvent f (allButtonSample f active) s)

/-- PROOF_BYPASS_CHANGE (R159). -/
def execProofBypassChange (f : Face) (active : Bool) (s : State) : Host.Outcome State Fault Refusal :=
  .next (faceEvent f (proofBypassSample f active) s)

/-- GAP_BYPASS_CHANGE (R132). -/
def execGapBypassChange (f : Face) (active : Bool) (s : State) : Host.Outcome State Fault Refusal :=
  .next (faceEvent f (gapBypassSample f active) s)

end Sys2Proof.Machine
end

