-- ==== Sys2Proof/Machine/ExecRequests.lean ====
section
/-! DEFINITION. The meanings of the host's requests: a good frame of the kind arrives whole at the inbound queue
(R164); it is dispatched when no reply is pending (R165), and its owner serves it by the rule named here. -/

namespace Sys2Proof.Machine

/-- ENQUIRE_PART (R167). -/
def execEnquirePart (tag : Byte) (payload : List Byte) (s : State) : Host.Outcome State Fault Refusal :=
  .next (frameArrives ⟨ReqKind.enquirePart.code, tag, payload⟩ s)

/-- ENQUIRE_FACE (R14). -/
def execEnquireFace (tag : Byte) (payload : List Byte) (s : State) : Host.Outcome State Fault Refusal :=
  .next (frameArrives ⟨ReqKind.enquireFace.code, tag, payload⟩ s)

/-- ENQUIRE_DOOR (R97). -/
def execEnquireDoor (tag : Byte) (payload : List Byte) (s : State) : Host.Outcome State Fault Refusal :=
  .next (frameArrives ⟨ReqKind.enquireDoor.code, tag, payload⟩ s)

/-- ENQUIRE_BERTH (R39). -/
def execEnquireBerth (tag : Byte) (payload : List Byte) (s : State) : Host.Outcome State Fault Refusal :=
  .next (frameArrives ⟨ReqKind.enquireBerth.code, tag, payload⟩ s)

/-- ENQUIRE_ALIGN (R56). -/
def execEnquireAlign (tag : Byte) (payload : List Byte) (s : State) : Host.Outcome State Fault Refusal :=
  .next (frameArrives ⟨ReqKind.enquireAlign.code, tag, payload⟩ s)

/-- ENQUIRE_COUNTS (R124). -/
def execEnquireCounts (tag : Byte) (payload : List Byte) (s : State) : Host.Outcome State Fault Refusal :=
  .next (frameArrives ⟨ReqKind.enquireCounts.code, tag, payload⟩ s)

/-- LOAD_GEOMETRY (R6). -/
def execLoadGeometry (tag : Byte) (payload : List Byte) (s : State) : Host.Outcome State Fault Refusal :=
  .next (frameArrives ⟨ReqKind.loadGeometry.code, tag, payload⟩ s)

/-- LOAD_PROFILE (R8). -/
def execLoadProfile (tag : Byte) (payload : List Byte) (s : State) : Host.Outcome State Fault Refusal :=
  .next (frameArrives ⟨ReqKind.loadProfile.code, tag, payload⟩ s)

/-- LOAD_FACE_PARAMS (R10). -/
def execLoadFaceParams (tag : Byte) (payload : List Byte) (s : State) : Host.Outcome State Fault Refusal :=
  .next (frameArrives ⟨ReqKind.loadFaceParams.code, tag, payload⟩ s)

/-- LOAD_CLASSES (R7). -/
def execLoadClasses (tag : Byte) (payload : List Byte) (s : State) : Host.Outcome State Fault Refusal :=
  .next (frameArrives ⟨ReqKind.loadClasses.code, tag, payload⟩ s)

/-- LOAD_PART_PARAMS (R12). -/
def execLoadPartParams (tag : Byte) (payload : List Byte) (s : State) : Host.Outcome State Fault Refusal :=
  .next (frameArrives ⟨ReqKind.loadPartParams.code, tag, payload⟩ s)

/-- ANNOUNCE_TRAIN (R36). -/
def execAnnounceTrain (tag : Byte) (payload : List Byte) (s : State) : Host.Outcome State Fault Refusal :=
  .next (frameArrives ⟨ReqKind.announceTrain.code, tag, payload⟩ s)

/-- WITHDRAW_TRAIN (R37). -/
def execWithdrawTrain (tag : Byte) (payload : List Byte) (s : State) : Host.Outcome State Fault Refusal :=
  .next (frameArrives ⟨ReqKind.withdrawTrain.code, tag, payload⟩ s)

/-- OPEN_FACE (R102). -/
def execOpenFace (tag : Byte) (payload : List Byte) (s : State) : Host.Outcome State Fault Refusal :=
  .next (frameArrives ⟨ReqKind.openFace.code, tag, payload⟩ s)

/-- CLOSE_FACE (R105). -/
def execCloseFace (tag : Byte) (payload : List Byte) (s : State) : Host.Outcome State Fault Refusal :=
  .next (frameArrives ⟨ReqKind.closeFace.code, tag, payload⟩ s)

/-- DOOR_RESTORE (R95). -/
def execDoorRestore (tag : Byte) (payload : List Byte) (s : State) : Host.Outcome State Fault Refusal :=
  .next (frameArrives ⟨ReqKind.doorRestore.code, tag, payload⟩ s)

/-- DOOR_ISOLATE (R82). -/
def execDoorIsolate (tag : Byte) (payload : List Byte) (s : State) : Host.Outcome State Fault Refusal :=
  .next (frameArrives ⟨ReqKind.doorIsolate.code, tag, payload⟩ s)

/-- DOOR_READMIT (R82). -/
def execDoorReadmit (tag : Byte) (payload : List Byte) (s : State) : Host.Outcome State Fault Refusal :=
  .next (frameArrives ⟨ReqKind.doorReadmit.code, tag, payload⟩ s)

/-- MAINT_MOVE (R152). -/
def execMaintMove (tag : Byte) (payload : List Byte) (s : State) : Host.Outcome State Fault Refusal :=
  .next (frameArrives ⟨ReqKind.maintMove.code, tag, payload⟩ s)

/-- SET_FACE_MODE (R150). -/
def execSetFaceMode (tag : Byte) (payload : List Byte) (s : State) : Host.Outcome State Fault Refusal :=
  .next (frameArrives ⟨ReqKind.setFaceMode.code, tag, payload⟩ s)

/-- ENUMERATE_FACE (R151). -/
def execEnumerateFace (tag : Byte) (payload : List Byte) (s : State) : Host.Outcome State Fault Refusal :=
  .next (frameArrives ⟨ReqKind.enumerateFace.code, tag, payload⟩ s)

/-- CLEAR_BERTH (R38). -/
def execClearBerth (tag : Byte) (payload : List Byte) (s : State) : Host.Outcome State Fault Refusal :=
  .next (frameArrives ⟨ReqKind.clearBerth.code, tag, payload⟩ s)

/-- FIRE_COMMAND (R140). -/
def execFireCommand (tag : Byte) (payload : List Byte) (s : State) : Host.Outcome State Fault Refusal :=
  .next (frameArrives ⟨ReqKind.fireCommand.code, tag, payload⟩ s)

/-- RESET_PART (R168). -/
def execResetPart (tag : Byte) (payload : List Byte) (s : State) : Host.Outcome State Fault Refusal :=
  .next (frameArrives ⟨ReqKind.resetPart.code, tag, payload⟩ s)

end Sys2Proof.Machine
end

