-- ==== Sys2Proof/Machine/Dispatch.lean ====
section
/-! DEFINITION. The dispatch of a command to its meaning: one arm per command. -/

namespace Sys2Proof.Machine

def exec (i : Instr) (s : State) : Host.Outcome State Fault Refusal :=
  match i with
  | .powerOn straps => Sys2Proof.Machine.execPowerOn straps s
  | .resetPin straps => Sys2Proof.Machine.execResetPin straps s
  | .requestReset straps => Sys2Proof.Machine.execRequestReset straps s
  | .firstSampleAfterReset sample => Sys2Proof.Machine.execFirstSampleAfterReset sample s
  | .hostByteReceived b stopOk => Sys2Proof.Machine.execHostByteReceived b stopOk s
  | .byteGapTimerExpiry => Sys2Proof.Machine.execByteGapTimerExpiry s
  | .badKind kind tag payload => Sys2Proof.Machine.execBadKind kind tag payload s
  | .hostFrameSent => Sys2Proof.Machine.execHostFrameSent s
  | .enquirePart tag payload => Sys2Proof.Machine.execEnquirePart tag payload s
  | .enquireFace tag payload => Sys2Proof.Machine.execEnquireFace tag payload s
  | .enquireDoor tag payload => Sys2Proof.Machine.execEnquireDoor tag payload s
  | .enquireBerth tag payload => Sys2Proof.Machine.execEnquireBerth tag payload s
  | .enquireAlign tag payload => Sys2Proof.Machine.execEnquireAlign tag payload s
  | .enquireCounts tag payload => Sys2Proof.Machine.execEnquireCounts tag payload s
  | .loadGeometry tag payload => Sys2Proof.Machine.execLoadGeometry tag payload s
  | .loadProfile tag payload => Sys2Proof.Machine.execLoadProfile tag payload s
  | .loadFaceParams tag payload => Sys2Proof.Machine.execLoadFaceParams tag payload s
  | .loadClasses tag payload => Sys2Proof.Machine.execLoadClasses tag payload s
  | .loadPartParams tag payload => Sys2Proof.Machine.execLoadPartParams tag payload s
  | .announceTrain tag payload => Sys2Proof.Machine.execAnnounceTrain tag payload s
  | .withdrawTrain tag payload => Sys2Proof.Machine.execWithdrawTrain tag payload s
  | .openFace tag payload => Sys2Proof.Machine.execOpenFace tag payload s
  | .closeFace tag payload => Sys2Proof.Machine.execCloseFace tag payload s
  | .doorRestore tag payload => Sys2Proof.Machine.execDoorRestore tag payload s
  | .doorIsolate tag payload => Sys2Proof.Machine.execDoorIsolate tag payload s
  | .doorReadmit tag payload => Sys2Proof.Machine.execDoorReadmit tag payload s
  | .maintMove tag payload => Sys2Proof.Machine.execMaintMove tag payload s
  | .setFaceMode tag payload => Sys2Proof.Machine.execSetFaceMode tag payload s
  | .enumerateFace tag payload => Sys2Proof.Machine.execEnumerateFace tag payload s
  | .clearBerth tag payload => Sys2Proof.Machine.execClearBerth tag payload s
  | .fireCommand tag payload => Sys2Proof.Machine.execFireCommand tag payload s
  | .resetPart tag payload => Sys2Proof.Machine.execResetPart tag payload s
  | .chainResetTimerExpiry f => Sys2Proof.Machine.execChainResetTimerExpiry f s
  | .chainSettleTimerExpiry f => Sys2Proof.Machine.execChainSettleTimerExpiry f s
  | .doorLinkFrameSent f => Sys2Proof.Machine.execDoorLinkFrameSent f s
  | .statusReplyReceived f reply => Sys2Proof.Machine.execStatusReplyReceived f reply s
  | .replyTimerExpiry f => Sys2Proof.Machine.execReplyTimerExpiry f s
  | .standbyRoundTimerExpiry f => Sys2Proof.Machine.execStandbyRoundTimerExpiry f s
  | .flashTimerExpiry f => Sys2Proof.Machine.execFlashTimerExpiry f s
  | .axleHeadChange f sensor s1 s2 => Sys2Proof.Machine.execAxleHeadChange f sensor s1 s2 s
  | .stopDetectorChange f detector occupied => Sys2Proof.Machine.execStopDetectorChange f detector occupied s
  | .configurationFirstSample f sample => Sys2Proof.Machine.execConfigurationFirstSample f sample s
  | .settleTimerExpiry f => Sys2Proof.Machine.execSettleTimerExpiry f s
  | .automaticOpeningNotice f => Sys2Proof.Machine.execAutomaticOpeningNotice f s
  | .unlockTimerExpiry f d => Sys2Proof.Machine.execUnlockTimerExpiry f d s
  | .motionTimerExpiry f d => Sys2Proof.Machine.execMotionTimerExpiry f d s
  | .lockProofTimerExpiry f d => Sys2Proof.Machine.execLockProofTimerExpiry f d s
  | .obstructionPauseTimerExpiry f d => Sys2Proof.Machine.execObstructionPauseTimerExpiry f d s
  | .startTimerExpiry f d => Sys2Proof.Machine.execStartTimerExpiry f d s
  | .warningTimerExpiry f => Sys2Proof.Machine.execWarningTimerExpiry f s
  | .beamChange f d inner outer => Sys2Proof.Machine.execBeamChange f d inner outer s
  | .quietTimerExpiry f d => Sys2Proof.Machine.execQuietTimerExpiry f d s
  | .holdTimerExpiry f d => Sys2Proof.Machine.execHoldTimerExpiry f d s
  | .gapEndBeamChange f beam blocked => Sys2Proof.Machine.execGapEndBeamChange f beam blocked s
  | .gapTimerExpiry f => Sys2Proof.Machine.execGapTimerExpiry f s
  | .supplyLevelChange code => Sys2Proof.Machine.execSupplyLevelChange code s
  | .fireInRisingEdge => Sys2Proof.Machine.execFireInRisingEdge s
  | .fireResetRisingEdge => Sys2Proof.Machine.execFireResetRisingEdge s
  | .fireInputFall input => Sys2Proof.Machine.execFireInputFall input s
  | .localRequestChange f active => Sys2Proof.Machine.execLocalRequestChange f active s
  | .pOpenEdge f active => Sys2Proof.Machine.execPOpenEdge f active s
  | .pCloseEdge f active => Sys2Proof.Machine.execPCloseEdge f active s
  | .pAllChange f active => Sys2Proof.Machine.execPAllChange f active s
  | .proofBypassChange f active => Sys2Proof.Machine.execProofBypassChange f active s
  | .gapBypassChange f active => Sys2Proof.Machine.execGapBypassChange f active s

end Sys2Proof.Machine
end

