-- ==== Sys2Proof/Safety.lean ====
section
/-! DEFINITION. What a safe state is, in the terms claims use: the invariants the manual states in its prose, what
an event leaves settled, and the words of the statements about commands. -/

namespace Sys2Proof.Machine

/-! ### The report queue and the inbound queue (R164, R170) -/

/-- The report queue holds at most 64 reports (R170). -/
def Part.queueBounded (p : Part) : Prop := p.reports.length ≤ reportCap

/-- The face and door keys of the unsent DOOR reports, oldest first. -/
def doorKeys (q : List Report) : List DoorRef := q.filterMap Report.doorKey

/-- No two unsent DOOR reports are for the same door (R170). -/
def Part.doorsMerged (p : Part) : Prop := (doorKeys p.reports).Nodup

/-- The report queue as R170 bounds it. -/
def Part.reportsOk (p : Part) : Prop := p.queueBounded ∧ p.doorsMerged

/-- The inbound frame queue holds at most 4 frames (R164). -/
def HostLink.inboundOk (h : HostLink) : Prop := h.inbound.length ≤ 4

/-! ### The part parameters and the starting set (R12, R115) -/

/-- The stored part parameters stand within the ranges of their table, with CRIT_V below LOW_V (R12). -/
structure PartParams.InRange (x : PartParams) : Prop where
  k : 1 ≤ x.k ∧ x.k ≤ 12
  lowV : 1 ≤ x.lowV ∧ x.lowV ≤ 235
  critV : x.critV < x.lowV
  h : x.h ≤ 20
  fSup : 1 ≤ x.fSup ∧ x.fSup ≤ 8
  tStart : 100 ≤ x.tStart ∧ x.tStart ≤ 2000
  fFire : 1 ≤ x.fFire ∧ x.fFire ≤ 8

/-- The bounds the whole state keeps; no limit exceeds the largest K, 12 (R114). -/
structure State.Bounded (s : State) : Prop where
  reports : s.part.reportsOk
  inbound : s.host.inboundOk
  params : s.part.params.InRange
  starting : s.part.arb.starting.length ≤ 12

/-! ### The start machinery (R113) -/

/-- The state of a door that waits in the start queue with an action (R84). -/
def Action.queuedState : Action → DoorState
  | .toOpen => .openQueued
  | .toClose => .closeQueued

/-- The start machinery as R113 keeps it: no door twice in the start queue, none twice in the starting set, none in both;
the entries are the movement orders of doors in the queued states, and the starting set holds doors of a movement. Its
key keeps a door out of both, and only a reversing door runs an obstruction pause (R81, R85, R92). -/
structure Part.MachineryOk (p : Part) : Prop where
  once : (p.arb.queue.map QEntry.ref).Nodup
  started : p.arb.starting.Nodup
  apart : ∀ e ∈ p.arb.queue, e.ref ∉ p.arb.starting
  queued : ∀ e ∈ p.arb.queue, ((p.face e.ref.face).doors[e.ref.door]).state = e.action.queuedState ∧
    ((p.face e.ref.face).doors[e.ref.door]).keyIso = false ∧
    ∃ o, ((p.face e.ref.face).doors[e.ref.door]).order = some o ∧ o.action = e.action ∧ o.kind = e.kind
  moving : ∀ x ∈ p.arb.starting, ((p.face x.face).doors[x.door]).keyIso = false ∧
    (((p.face x.face).doors[x.door]).state = .unlocking ∨ ((p.face x.face).doors[x.door]).state = .opening ∨
      ((p.face x.face).doors[x.door]).state = .closing ∨ ((p.face x.face).doors[x.door]).state = .proving)
  pauses : ∀ f, ∀ d : DoorIx, ((p.face f).doors[d]).pauseT ≠ none →
    ((p.face f).doors[d]).state = .reopening ∧ ((p.face f).doors[d]).keyIso = false

/-! ### The dwell's limits and the empty berth (R10, R11, R33, R91, R92) -/

/-- Face parameters within the ranges of their table (section 1.6, R10). -/
structure FaceParams.InRange (x : FaceParams) : Prop where
  filters : 1 ≤ x.fAxle ∧ x.fAxle ≤ 8 ∧ 1 ≤ x.fPanel ∧ x.fPanel ≤ 8 ∧ 1 ≤ x.fBeam ∧ x.fBeam ≤ 4
  windows : x.wAuto ≤ 1000 ∧ x.wAuto ≤ x.wExt ∧ x.wExt ≤ 2000
  oMin : 600 ≤ x.oMin ∧ x.oMin ≤ 2000
  settle : 200 ≤ x.tSettle ∧ x.tSettle ≤ 5000
  reply : 100 ≤ x.tReply ∧ x.tReply ≤ 1000
  locks : 200 ≤ x.tUnlock ∧ x.tUnlock ≤ 3000 ∧ 200 ≤ x.tLock ∧ x.tLock ≤ 3000
  obstruct : 200 ≤ x.tObst ∧ x.tObst ≤ 5000 ∧ 1 ≤ x.nObst ∧ x.nObst ≤ 3
  warn : 1000 ≤ x.tWarn ∧ x.tWarn ≤ 5000
  quiet : 500 ≤ x.tQuiet ∧ x.tQuiet ≤ 3000 ∧ x.tHoldMax ≤ 10000
  gap : 500 ≤ x.tGap ∧ x.tGap ≤ 3000

/-- The face parameters stand within their ranges, no door's obstruction attempts above N_obst and no door's gap
reopens above 2 (R10, R11, R91). -/
structure FaceRec.CountsOk (r : FaceRec) : Prop where
  params : r.params.InRange
  attempts : ∀ d : DoorIx, r.doors[d].attempts ≤ r.params.nObst
  reopens : ∀ d : DoorIx, r.doors[d].gapReopens ≤ 2

/-- No stored profile has more than 64 axles, and no face counts more than 255 (R8, R21). -/
structure Part.AxlesOk (p : Part) : Prop where
  profiles : ∀ i : Fin 8, ∀ pr, p.profiles[i] = some pr → pr.axles ≤ 64
  counts : ∀ f, (p.face f).berth.axles ≤ 255

/-- A berth that is EMPTY, or ANNOUNCED, has no axle counted and every detector clear (R33). -/
def FaceRec.EmptyOk (r : FaceRec) : Prop :=
  r.berth.state = .empty ∨ r.berth.state = .announced → r.berth.axles = 0 ∧ ∀ x ∈ r.berth.detectors, x.reads = false

/-! ### Fire and the absent face (R142, R1) -/

/-- In FIRE no configured door of a face is in CLOSE_QUEUED (R142). -/
def FaceRec.fireHolds (r : FaceRec) : Prop :=
  r.mode.mode = .fire → ∀ d : DoorIx, r.configured d = true → r.doors[d].state ≠ .closeQueued

/-- A face that is absent keeps its reset record, and no entry of the start arbiter is of it (R1). -/
def Part.absentIdle (p : Part) : Prop :=
  p.straps.twoFaces = false →
    p.faceB = FaceRec.reset ∧ (∀ e ∈ p.arb.queue, e.ref.face = .A) ∧ (∀ x ∈ p.arb.starting, x.face = .A)

/-! ### What every event leaves settled -/

/-- Nothing that a rule makes follow an event of the face is left undone. -/
structure FaceRec.Settled (r : FaceRec) : Prop where
  /-- A complete OPEN has ended, and a complete CLOSE is not left in CLOSING (R104, R107). -/
  op : ∀ op, r.op = some op → op.complete = true → op.kind = .close ∧ op.phase ≠ some .closing
  /-- FAILED stands only while a beam reads BLOCKED (R131). -/
  failed : r.gap.state = .failed → r.gapClear = false
  /-- The gap timer runs exactly while the three conditions of R128 hold in RUNNING. -/
  timer : r.gap.timer.isSome = true ↔ r.gap.state = .running ∧ r.gapClear = true ∧ r.waitingDoors = []
  /-- A PENDING handover of a face in AUTO waits only while the face is not at rest (R155). -/
  handover : r.mode.mode = .auto → r.mode.handover = true → r.atRest = false
  /-- The line is idle only when the link has no frame to send (R61, R69). -/
  line : r.link.line = .idle →
    r.link.state ≠ .enumerating ∧ r.link.state ≠ .sweeping ∧
      (r.link.state = .running →
        r.link.pollDue = false ∧ r.link.stopFrame = [] ∧ r.link.moveQ = [] ∧ r.link.resendQ = [] ∧
          r.nextCue = none ∧ r.link.sync = none)

/-- Nothing that a rule makes follow an event is left undone: in either face, at dispatch (R165) or at the
transmitter (R171). -/
structure State.Settled (s : State) : Prop where
  faces : ∀ f, (s.part.face f).Settled
  dispatched : s.host.reply = none → s.host.inbound = [] ∨ s.host.resetting = true
  sent : s.host.tx = .idle → s.host.reply = none ∧ s.part.reports = []

/-- Dispatch would take a frame that arrives now: nothing waits before it, and no RESET_PART has been taken. -/
structure State.HostFree (s : State) : Prop where
  inbound : s.host.inbound = []
  reply : s.host.reply = none
  resetting : s.host.resetting = false

/-! ### The words of the statements -/

/-- The part but for its report queue and LOSS. -/
def Part.body (p : Part) : Part := { p with reports := [], loss := false }

/-- The state with its reply made ready and the part as the request leaves it: an idle transmitter begins the
reply at once, with the link notes (R166, R171). -/
def State.answered (s : State) (r : Reply) (p : Part) : State :=
  { s with
    part := p
    host :=
      match s.host.tx with
      | .idle => { s.host with tx := .reply r s.host.overrun s.host.discarded, overrun := false, discarded := false }
      | .reply _ _ _ | .report _ _ => { s.host with reply := some r } }

/-- The command that a good frame of a request kind is. -/
def requestOf (k : ReqKind) (tag : Byte) (pl : List Byte) : Instr :=
  match k with
  | .enquirePart => .enquirePart tag pl
  | .enquireFace => .enquireFace tag pl
  | .enquireDoor => .enquireDoor tag pl
  | .enquireBerth => .enquireBerth tag pl
  | .enquireAlign => .enquireAlign tag pl
  | .enquireCounts => .enquireCounts tag pl
  | .loadGeometry => .loadGeometry tag pl
  | .loadProfile => .loadProfile tag pl
  | .loadFaceParams => .loadFaceParams tag pl
  | .loadClasses => .loadClasses tag pl
  | .loadPartParams => .loadPartParams tag pl
  | .announceTrain => .announceTrain tag pl
  | .withdrawTrain => .withdrawTrain tag pl
  | .openFace => .openFace tag pl
  | .closeFace => .closeFace tag pl
  | .doorRestore => .doorRestore tag pl
  | .doorIsolate => .doorIsolate tag pl
  | .doorReadmit => .doorReadmit tag pl
  | .maintMove => .maintMove tag pl
  | .setFaceMode => .setFaceMode tag pl
  | .enumerateFace => .enumerateFace tag pl
  | .clearBerth => .clearBerth tag pl
  | .fireCommand => .fireCommand tag pl
  | .resetPart => .resetPart tag pl

/-- The face byte of a request (R165, R173). -/
def faceCode : Face → Byte
  | .A => 0
  | .B => 1

/-- The bytes of the host line, received one after another without error (R162). -/
def receiveAll (bs : List Byte) (h : HostLink) : HostLink := bs.foldl (fun h b => receiveByte b true h) h

/-! ### Reports that tell of an event (R170, R171) -/

/-- LOSS stands, on the queue or on the report being sent: reports have been lost (R169, R170). -/
def State.lossy (s : State) : Prop := s.part.loss = true ∨ ∃ x, s.host.tx = .report x true

/-- The report waits in the queue, or is being sent (R170, R171). -/
def State.tells (s : State) (x : Report) : Prop := x ∈ s.part.reports ∨ ∃ loss, s.host.tx = .report x loss

/-- The reports told of tell what has changed between two records of a face: BERTH and COUNTS (R26, R123), ALIGN of a
record that is not cleared (R50), DOOR (R76), OP_DONE of an operation that stands no longer, every target of it concluded
(R100), GAP (R134), RELEASE (R135, R138), MODE (R149) and SECURED (R160). -/
structure FaceRec.ChangesTold (tells : Report → Prop) (f : Face) (r q : FaceRec) : Prop where
  berth : r.berth.state ≠ q.berth.state →
    (∃ x, tells (.berth f x) ∧ x.prev = r.berth.state) ∧ ∃ x, tells (.berth f x) ∧ x.next = q.berth.state
  counts : r.berth.state ≠ .empty → q.berth.state = .empty → ∃ dwell es, tells (.counts f dwell es)
  align : q.align ≠ r.align → q.align.status ≠ .notComputed → tells (.align f q.align)
  door : ∀ d : DoorIx, r.doors[d].reported ≠ q.doors[d].reported →
    ∃ x, tells (.door f d x) ∧ (x.state, x.cause, x.iso, x.latch, x.late, x.partialOpen) = q.doors[d].reported
  op : ∀ op, r.op = some op → (∀ op', q.op = some op' → op'.kind ≠ op.kind ∨ op'.source ≠ op.source) →
    ∃ x c g, tells (.opDone f x c g) ∧ (x.kind, x.source, x.tag, x.dwell) = (op.kind, op.source, op.tag, op.dwell) ∧
      ∀ y ∈ x.targets, y.outcome ≠ .pending
  gap : r.gap.state ≠ q.gap.state →
    (∃ x, tells (.gap f x) ∧ x.prev = r.gap.state) ∧ ∃ x, tells (.gap f x) ∧ x.next = q.gap.state
  set : ∀ d : DoorIx, r.doors[d].latch = false → q.doors[d].latch = true → ∃ x, tells (.release f x) ∧ x.door = d
  cleared : ∀ d : DoorIx, r.doors[d].latch = true → q.doors[d].latch = false →
    ∃ x, tells (.releaseCleared f x) ∧ x.door = d
  mode : r.mode.mode ≠ q.mode.mode ∨ r.mode.handover ≠ q.mode.handover →
    ∃ x, tells (.mode f x) ∧ x.next = q.mode.mode ∧ x.handover = q.mode.handover
  secured : r.secured ≠ q.secured → ∃ x, tells (.secured f x) ∧ x.prev = r.secured ∧ x.next = q.secured

/-- No entry of the start queue is of the face. -/
def Part.queueFree (p : Part) (f : Face) : Prop := ∀ e ∈ p.arb.queue, e.ref.face ≠ f

/-- The door is in neither part of the start machinery (R113). -/
def Part.outOfMachinery (p : Part) (f : Face) (d : DoorIx) : Prop :=
  (∀ e ∈ p.arb.queue, e.ref ≠ ⟨f, d⟩) ∧ (⟨f, d⟩ : DoorRef) ∉ p.arb.starting

end Sys2Proof.Machine
end

