-- ==== Sys2Proof/WellFormed.lean ====
section
/-! DEFINITION. The commands the outside world can give: what the manual's frames and replies allow. -/

namespace Sys2Proof

/-- A host frame's payload has at most 240 bytes (section 10.1). -/
def payloadOk (pl : List Byte) : Bool := decide (pl.length ≤ 240)

/-- A KIND that names no request (R165). -/
def kindUnknown (kind : Byte) : Bool := (Machine.ReqKind.ofCode kind).isNone

/-- The bytes of one reply frame, from its start byte through its CRC: LEN and two bytes before it and two after
(section 4.10). -/
def replyFrameOk (reply : List Byte) : Bool :=
  match reply with
  | start :: len :: _ => decide (start = 0xA5) && decide (reply.length = len.toNat + 4)
  | _ => false

/-- A command is well formed. Any other command may come with any operands. -/
def Instr.wellFormed : Instr → Bool
  | .badKind kind _ pl => kindUnknown kind && payloadOk pl
  | .enquirePart _ pl | .enquireFace _ pl | .enquireDoor _ pl | .enquireBerth _ pl | .enquireAlign _ pl
  | .enquireCounts _ pl | .loadGeometry _ pl | .loadProfile _ pl | .loadFaceParams _ pl | .loadClasses _ pl
  | .loadPartParams _ pl | .announceTrain _ pl | .withdrawTrain _ pl | .openFace _ pl | .closeFace _ pl
  | .doorRestore _ pl | .doorIsolate _ pl | .doorReadmit _ pl | .maintMove _ pl | .setFaceMode _ pl
  | .enumerateFace _ pl | .clearBerth _ pl | .fireCommand _ pl | .resetPart _ pl => payloadOk pl
  | .statusReplyReceived _ reply => replyFrameOk reply
  | .powerOn _ | .resetPin _ | .requestReset _ | .firstSampleAfterReset _ | .hostByteReceived _ _
  | .byteGapTimerExpiry | .hostFrameSent | .chainResetTimerExpiry _ | .chainSettleTimerExpiry _
  | .doorLinkFrameSent _ | .replyTimerExpiry _ | .standbyRoundTimerExpiry _ | .flashTimerExpiry _
  | .axleHeadChange _ _ _ _ | .stopDetectorChange _ _ _ | .configurationFirstSample _ _ | .settleTimerExpiry _
  | .automaticOpeningNotice _ | .unlockTimerExpiry _ _ | .motionTimerExpiry _ _ | .lockProofTimerExpiry _ _
  | .obstructionPauseTimerExpiry _ _ | .startTimerExpiry _ _ | .warningTimerExpiry _ | .beamChange _ _ _ _
  | .quietTimerExpiry _ _ | .holdTimerExpiry _ _ | .gapEndBeamChange _ _ _ | .gapTimerExpiry _
  | .supplyLevelChange _ | .fireInRisingEdge | .fireResetRisingEdge | .fireInputFall _ | .localRequestChange _ _
  | .pOpenEdge _ _ | .pCloseEdge _ _ | .pAllChange _ _ | .proofBypassChange _ _ | .gapBypassChange _ _ => true

end Sys2Proof
end

