-- ==== Sys2Proof/Certificates/Slice0/Obligations.lean ====
section
/-! DEFINITION. The statements for the provers, from the numbered rules of the manual. -/

/-! ### Words of the statements -/

namespace Sys2Proof.Machine

/-- The store of R2 after a reset: the defaults of the tables of chapter 1. -/
structure Part.FreshStore (p : Part) (straps : Straps) : Prop where
  geometry : ∀ f, (p.face f).geom = none
  profiles : ∀ i : Fin 8, p.profiles[i] = none
  classes : ∀ f, ∀ i : Fin 4, (p.face f).classes[i] = ⟨4, 3, 3, 6000⟩
  params : ∀ f, (p.face f).params =
    ⟨3, 3, 1000, 300, 700, 800, 400, 800, 1000, 1000, 3, 2000, 2, 1000, 5000, 1500, .common⟩
  partParams : p.params = ⟨6, 88, 76, 4, 4, 500, 3⟩
  straps : p.straps = straps

/-- The blocks at their reset state (R26, R40, R57, R58, R73, R75, R98, R113, R118, R126, R139, R148, R159, R170). -/
structure Part.FreshBlocks (p : Part) : Prop where
  berth : ∀ f, (p.face f).berth = Berth.reset
  align : ∀ f, (p.face f).align = AlignRec.reset
  link : ∀ f, (p.face f).link = Link.reset
  health : ∀ f, ∀ d : DoorIx, (p.face f).health[d] = Health.reset
  doors : ∀ f, ∀ d : DoorIx, (p.face f).doors[d] = Door.reset
  beams : ∀ f, ∀ d : DoorIx, (p.face f).sense[d] = Sense.reset
  op : ∀ f, (p.face f).op = none ∧ (p.face f).warning = none ∧ (p.face f).notice = false
  gap : ∀ f, (p.face f).gap = GapRec.reset
  mode : ∀ f, (p.face f).mode = ModeRec.reset
  secured : ∀ f, (p.face f).secured = false
  arbiter : p.arb.queue = [] ∧ p.arb.starting = []
  supply : p.supply = ⟨.normal, 0, 0, 0⟩
  fire : p.fire.cause = none ∧ p.fire.fireIn = Filter.reset ∧ p.fire.fireReset = Filter.reset
  queue : p.reports = [] ∧ p.loss = false

/-- The host link interface after a reset, sending START (R164, R171, R172). -/
def startingUp (cause : ResetCause) (straps : Straps) : HostLink :=
  ⟨.waiting, none, [], false, false, none, false, .report (.start cause straps Config.siliconRevision) false⟩

/-- The inputs of the secured proof hold (R159). -/
def FaceRec.ProofHolds (r : FaceRec) : Prop :=
  r.proofBypass = true ∨
    (r.geom ≠ none ∧
      (∀ d : DoorIx, r.configured d = true → r.doors[d].state ≠ .lost ∧
        ∃ rep, r.doors[d].report = some rep ∧ rep.closed = true ∧ rep.locked = true ∧ rep.pulled = false) ∧
      (r.gap.state = .notRequired ∨ r.gap.state = .passed ∨ r.gapBypass = true))

/-- The secured state stands only on the proof; the bypasses are unprimed until the first sample (R159, R148). -/
structure State.SecuredSafe (s : State) : Prop where
  proof : ∀ f, (s.part.face f).secured = true → (s.part.face f).ProofHolds
  unprimed : s.part.fire.fireIn.primed = false → ∀ f,
    (s.part.face f).mode.panel.proofBypass.primed = false ∧ (s.part.face f).mode.panel.gapBypass.primed = false

/-- The outputs the face mode controller drives follow the records they show (R155, R161). -/
def FaceRec.outputsFollow (r : FaceRec) : Prop :=
  (r.mode.alarm = true ↔ r.gap.state = .failed) ∧ (r.mode.localAck = true ↔ r.mode.mode = .localCtl)

/-- A sample makes a filter accept the level (R17). -/
structure Filter.Accepts (x : Filter) (count : Nat) (level : Bool) : Prop where
  primed : x.primed = true
  differs : x.level ≠ level
  run : count ≤ x.run + 1

/-- The filter that has just accepted a level (R17). -/
def Filter.taken (level : Bool) : Filter := ⟨level, 0, true⟩

/-- The filter after a sample that is not accepted: the run grows with a sample that differs, and returns to zero
with one that does not; an unprimed filter stays (R17). -/
def Filter.passed (x : Filter) (level : Bool) : Filter :=
  if x.primed then { x with run := if level = x.level then 0 else x.run + 1 } else x

/-- An axle sensor has been primed: its two heads hold the levels sampled, and its decoder stands in the position they
give, with a spoiled sequence in progress where that is not NONE (R18, R19). -/
structure AxleUnit.Primed (u : AxleUnit) (s1 s2 : Bool) : Prop where
  heads : u.s1 = .taken s1 ∧ u.s2 = .taken s2
  position : (s1 = false → s2 = false → u.dec.pos = .none) ∧ (s1 = true → s2 = false → u.dec.pos = .s1) ∧
    (s1 = false → s2 = true → u.dec.pos = .s2) ∧ (s1 = true → s2 = true → u.dec.pos = .both)
  spoiled : u.dec.spoiled = true ↔ s1 = true ∨ s2 = true

/-- An enumeration of the face has started (R59, R77, R151). -/
structure FaceRec.EnumStarted (r : FaceRec) (tag : Byte) (toAuto : Bool) : Prop where
  link : r.link.state = .chainReset
  timer : r.link.chainResetTimer = some 10
  enable : r.link.chainEnable = false
  tag : r.link.enumTag = tag
  pace : r.link.pace = .normal ∧ r.link.wakeCount = 0
  frames : r.link.stopFrame = [] ∧ r.link.moveQ = [] ∧ r.link.resendQ = [] ∧ r.link.sync = none ∧ r.link.extra = []
  timers : r.link.flashTimer = none ∧ r.link.standbyTimer = none
  target : r.mode.toAuto = toAuto
  health : ∀ d : DoorIx, r.health[d] = Health.reset
  doors : ∀ d : DoorIx, r.configured d = true →
    r.doors[d].state = .unknown ∧ r.doors[d].report = none ∧ r.doors[d].order = none

/-- A queued open or its grant: the door waits in OPEN_QUEUED or is UNLOCKING (R84, R85). -/
def DoorState.openingUp (s : DoorState) : Prop := s = .openQueued ∨ s = .unlocking

/-- A queued close or its grant: the door waits in CLOSE_QUEUED or is CLOSING (R84, R85). -/
def DoorState.closingUp (s : DoorState) : Prop := s = .closeQueued ∨ s = .closing

/-- An OPEN has been taken: the operation, which ends at once where no door is selected, the berth's SERVED flag and
SERVING state, and an open order given to each selected door and to no other configured door of the face (R103, R30);
with the first that is UNLOCKING outside a reopen cycle the gap state becomes PENDING (R127). -/
structure OpenTaken (source : OpSource) (tag : Byte) (sel : DoorIx → Bool) (before after : FaceRec) : Prop where
  op : (∃ d, sel d = true) → ∃ ts, after.op = some ⟨.opn, source, tag, none, before.berth.dwell, ts⟩ ∧
    ∀ d : DoorIx, sel d = true → (⟨d, .pending, true⟩ : Target) ∈ ts
  empty : (∀ d, sel d = false) → after.op = none
  berth : after.berth.served = true ∧
    (before.berth.state = .stopped ∨ before.berth.state = .cleared ∨ before.berth.state = .serving →
      after.berth.state = .serving)
  opened : ∀ d : DoorIx, sel d = true → after.doors[d].state.openingUp
  others : ∀ d : DoorIx, sel d = false → after.doors[d].state = before.doors[d].state
  gap : ((∃ d : DoorIx, sel d = true ∧ after.doors[d].state = .unlocking ∧ before.sense[d].inCycle = false) →
      after.gap.state = .pending) ∧
    ((∀ d : DoorIx, sel d = true → after.doors[d].state = .openQueued ∨ before.sense[d].inCycle = true) →
      after.gap.state = before.gap.state)

/-- The doors an OPEN by verdict selects: CLOSED_LOCKED, not isolated, MATCH (R103). -/
def FaceRec.byVerdict (r : FaceRec) (d : DoorIx) : Bool :=
  r.configured d && decide (r.doors[d].state = .closedLocked) && decide (r.doors[d].iso = .none) &&
    decide (r.doors[d].verdict = .vMatch)

/-- A train stands to be served, with no operation in flight and no enumeration in progress. -/
structure FaceRec.ReadyToOpen (r : FaceRec) : Prop where
  noOp : r.op = none
  noEnum : r.enumerating = false
  train : r.berth.state = .stopped ∨ r.berth.state = .serving ∨ r.berth.state = .cleared

/-- A CLOSE has been taken on a face with a door that stands open or opens: its warning runs, and each such door that is
not isolated is in PRE_CLOSE, one in motion without its order (R93, R105, R108). -/
structure CloseTaken (source : OpSource) (tag : Byte) (before after : FaceRec) : Prop where
  op : ∃ ts, after.op = some ⟨.close, source, tag, some .warning, before.berth.dwell, ts⟩ ∧
    ∀ d : DoorIx, before.configured d = true → before.doors[d].iso = .none → before.doors[d].state = .opened →
      (⟨d, .pending, true⟩ : Target) ∈ ts
  warning : after.warning = some before.params.tWarn
  doors : ∀ d : DoorIx, before.configured d = true → before.doors[d].iso = .none → before.doors[d].state = .opened →
    after.doors[d].state = .preClose
  moving : ∀ d : DoorIx, before.configured d = true → before.doors[d].iso = .none →
    before.doors[d].state = .unlocking ∨ before.doors[d].state = .opening →
    after.doors[d].state = .preClose ∧ after.doors[d].order = none
  shut : ∀ d : DoorIx, before.doors[d].state = .closedLocked → after.doors[d].state = .closedLocked

/-- A face with a door standing open that a CLOSE would warn. -/
structure FaceRec.ReadyToClose (r : FaceRec) : Prop where
  noOp : r.op = none
  noEnum : r.enumerating = false
  some : ∃ d : DoorIx, r.configured d = true ∧ r.doors[d].iso = .none ∧ r.doors[d].state = .opened

/-- A movement or a timer has failed: the door is DISCREPANT with its cause, without order or forced mark, and out
of the start machinery (R94). -/
structure MadeDiscrepant (f : Face) (d : DoorIx) (why : DiscCause) (p : Part) : Prop where
  state : (p.face f).doors[d].state = .discrepant
  cause : (p.face f).doors[d].cause = some why
  order : (p.face f).doors[d].order = none
  forced : (p.face f).doors[d].forced = false
  timers : (p.face f).doors[d].motionT = none ∧ (p.face f).doors[d].lockProofT = none ∧
    (p.face f).doors[d].pauseT = none ∧ (p.face f).doors[d].startT = none
  out : p.outOfMachinery f d

/-- A profile that passes the checks of R8. -/
structure Profile.Valid (pr : Profile) : Prop where
  len : 5000 ≤ pr.len ∧ pr.len ≤ 120000
  coupler : pr.coupler ≤ 2000
  axles : 2 ≤ pr.axles ∧ pr.axles ≤ 64
  doors : ∀ t ∈ pr.doors, t.t % 2 = 0 ∧ 600 ≤ t.t ∧ t.t ≤ 3000 ∧ t.a + t.t ≤ pr.len
  apart : ∀ (i : Nat) (t u : TrainDoor), pr.doors[i]? = some t → pr.doors[i + 1]? = some u → t.a + t.t ≤ u.a

/-- A geometry that passes the checks of R4 and R5. -/
structure Geometry.Valid (g : Geometry) : Prop where
  count : 1 ≤ g.doors.length ∧ g.doors.length ≤ 24
  detectors : 2 ≤ g.m ∧ g.m ≤ 16
  pitch : g.pitch % 2 = 0 ∧ 20 ≤ g.pitch ∧ g.pitch ≤ 500
  array : g.d0 + (g.m - 1) * g.pitch ≤ 250000
  stop : g.d0 ≤ g.s0 ∧ g.s0 ≤ g.d0 + (g.m - 1) * g.pitch
  doors : ∀ x ∈ g.doors, x.w % 2 = 0 ∧ 1200 ≤ x.w ∧ x.w ≤ 3600 ∧ x.cls ≤ 3 ∧ x.w / 2 ≤ x.xc ∧ x.xc + x.w / 2 ≤ 250000
  apart : ∀ (i : Nat) (x y : DoorGeom), g.doors[i]? = some x → g.doors[i + 1]? = some y →
    x.xc < y.xc ∧ x.xc + x.w / 2 + y.w / 2 ≤ y.xc

/-- The table numbers, from 1, of the fields whose stored value is not the one sent (R3). -/
def changedFields (sent stored : List Nat) : List Nat :=
  ((List.range sent.length).filter fun i => decide (sent[i]? ≠ stored[i]?)).map (· + 1)

/-- The limit of a range nearer to a value outside it, or the value (R3). -/
def nearest (lo hi v : Nat) : Nat := if v < lo then lo else if hi < v then hi else v

/-- The face parameters that seventeen values give in table order: each the nearer limit of its range, W_ext from the
stored W_auto, the phase mode by its code (section 1.6, R10). -/
def nearestParams (v : List Nat) : FaceParams :=
  let n (i lo hi : Nat) : Nat := nearest lo hi (v.getD (i - 1) 0)
  { fAxle := n 1 1 8, fPanel := n 2 1 8, tSettle := n 3 200 5000, wAuto := n 4 0 1000, wExt := n 5 (n 4 0 1000) 2000
    oMin := n 6 600 2000, tReply := n 7 100 1000, tUnlock := n 8 200 3000, tLock := n 9 200 3000, tObst := n 10 200 5000
    nObst := n 11 1 3, tWarn := n 12 1000 5000, fBeam := n 13 1 4, tQuiet := n 14 500 3000, tHoldMax := n 15 0 10000
    tGap := n 16 500 3000, phaseMode := if v.getD 16 0 = 0 then .common else .alternate }

/-- The details of a load: DONE with none where no field changed, and otherwise CLAMPED with the number of the changed
fields and the first of them (R3, R166). -/
def LoadAnswer (result : Result) (a b : Byte) (changed : List Nat) : Prop :=
  (changed = [] → result = .done ∧ a = 0 ∧ b = 0) ∧
  (changed ≠ [] → result = .clamped ∧ a.toNat = changed.length ∧ changed.head? = some b.toNat)

/-! ### Words of the berth and the alignment -/

/-- The automatic-opening test (R55): the record just computed, or standing, is of a stop or a re-announcement, the
train has not been served, its announcement asks for it, the axle check agrees, the face is ALIGNED and in AUTO. -/
def FaceRec.OpensItself (r : FaceRec) (a : AlignRec) : Prop :=
  (a.cause = .stopped ∨ a.cause = .reannounce) ∧ r.berth.served = false ∧
    (r.berth.ann.any fun x => x.autoOpen) = true ∧ a.axleCheck = .agrees ∧ a.status = .aligned ∧ r.mode.mode = .auto

/-- The alignment record has been computed for a face that stood in `p`: the record, the verdict and overlap handed to
each configured door, and the automatic-opening notice, which a wake round holds (R41, R55, R154; that a notice waits
for its command is assumption 20). -/
structure Computed (p : Part) (f : Face) (cause : AlignCause) (after : FaceRec) : Prop where
  record : after.align = alignRecord p f cause
  verdicts : ∀ d : DoorIx, (p.face f).configured d = true →
    after.doors[d].verdict = (((alignRecord p f cause).doors[d.val]?).getD .unknown).verdict ∧
    after.doors[d].ov = (((alignRecord p f cause).doors[d.val]?).getD .unknown).ov
  notice : after.notice = true ↔
    (p.face f).OpensItself (alignRecord p f cause) ∧ (p.face f).mode.wakeRound = false
  held : (p.face f).OpensItself (alignRecord p f cause) → (p.face f).mode.wakeRound = true →
    after.mode.heldNotice = true

/-- The alignment record cleared to NOT_COMPUTED: no axle check, no nose, every door UNKNOWN, no unserved train door,
the dwell kept (R51). -/
def FaceRec.recordCleared (before : FaceRec) (cause : AlignCause) : AlignRec :=
  ⟨.notComputed, cause, before.align.dwell, .notAnnounced, none, List.replicate before.n .unknown, []⟩

/-- The alignment record set aside as MOVED: every door UNKNOWN and no unserved train door, the rest kept (R52). -/
def FaceRec.recordMoved (before : FaceRec) (cause : AlignCause) : AlignRec :=
  { before.align with status := .moved, cause := cause, doors := before.align.doors.map fun _ => .unknown, unserved := [] }

/-- The verdicts of the configured doors are UNKNOWN with no overlap (R51, R52). -/
def FaceRec.verdictsUnknown (r : FaceRec) : Prop :=
  ∀ d : DoorIx, r.configured d = true → r.doors[d].verdict = .vUnknown ∧ r.doors[d].ov = 0

/-- The berth has entered EMPTY: nothing announced or counted, the dwell counter kept, the gap check ended, the record
cleared, and the counts of every door at zero, those of a record that is not configured too (R33, R51, R123, R126; that
its attempts and gap reopens are cleared as well is assumption 40: the model's choice). -/
structure FaceRec.Emptied (before after : FaceRec) : Prop where
  berth : after.berth.state = .empty ∧ after.berth.ann = none ∧ after.berth.axles = 0 ∧
    after.berth.overrun = false ∧ after.berth.unannounced = false ∧ after.berth.unchecked = false ∧
    after.berth.served = false ∧ after.berth.dwell = before.berth.dwell ∧ after.berth.settle = none
  gap : after.gap.state = .notRequired ∧ after.gap.counting = false
  align : after.align = before.recordCleared .empty
  verdicts : after.verdictsUnknown
  doors : ∀ d : DoorIx, after.doors[d].counts = ⟨0, 0, 0, false⟩ ∧ after.doors[d].attempts = 0 ∧
    after.doors[d].gapReopens = 0

/-- The reports told of tell of an entry to EMPTY: COUNTS, with the dwell just ended and the counts it leaves, and BERTH
with its cause (R26, R123). -/
structure FaceRec.EmptyingTold (tells : Report → Prop) (f : Face) (why : BerthCause) (before : FaceRec) : Prop where
  counts : tells (.counts f before.berth.dwell (before.configuredDoors.map fun d => (d, before.doors[d].counts)))
  berth : ∃ x, tells (.berth f x) ∧ x.prev = before.berth.state ∧ x.next = .empty ∧ x.cause = why ∧
    x.dwell = before.berth.dwell ∧ x.axles = 0 ∧ x.expected = none

/-- Every configured door stands in CLOSED_LOCKED (R31). -/
def FaceRec.shutUp (r : FaceRec) : Prop := ∀ d : DoorIx, r.configured d = true → r.doors[d].state = .closedLocked

/-- A train that is served, or that rolls, and moves: movement is tested against the doors (R31, R32). -/
def Berth.underTest (b : Berth) : Prop :=
  (b.state = .stopped ∧ b.served = true) ∨ b.state = .serving ∨ b.state = .cleared ∨ b.state = .rolling

/-- What movement makes of a berth that is neither EMPTY nor ANNOUNCED, where something is left in it (R25, R29, R31,
R32, R51, R52, R111): back to ARRIVING before service; to DEPARTING with every door closed and locked; to ROLLING with
any other door, at which the operation, the warning and a gap check end; and elsewhere the settle timer alone. -/
structure FaceRec.MovedOn (before after : FaceRec) : Prop where
  arriving : before.berth.state = .arriving →
    after.berth.state = .arriving ∧ after.berth.settle = some before.params.tSettle ∧ after.align = before.align
  unserved : before.berth.state = .stopped → before.berth.served = false →
    after.berth.state = .arriving ∧ after.berth.settle = some before.params.tSettle ∧
    after.align = before.recordCleared .arriving ∧ after.verdictsUnknown
  departing : before.berth.underTest → before.shutUp →
    after.berth.state = .departing ∧ after.berth.settle = none ∧ after.align = before.recordMoved .departing ∧
    after.verdictsUnknown
  rolling : before.berth.underTest → before.berth.state ≠ .rolling → ¬ before.shutUp →
    after.berth.state = .rolling ∧ after.berth.settle = some before.params.tSettle ∧
    after.align = before.recordMoved .rolling ∧ after.verdictsUnknown ∧ after.op = none ∧ after.warning = none ∧
    after.gap.state ≠ .running ∧ after.gap.state ≠ .failed
  rollsOn : before.berth.state = .rolling → ¬ before.shutUp →
    after.berth.state = .rolling ∧ after.berth.settle = some before.params.tSettle ∧ after.align = before.align
  leaving : before.berth.state = .departing → after.berth.state = .departing ∧ after.berth.settle = before.berth.settle
  unreckoned : before.berth.state = .unreckoned →
    after.berth.state = .unreckoned ∧ after.berth.settle = some before.params.tSettle

/-- What the entry to ROLLING does to a door (R93, R111): a door in motion stands where it was halted, OPEN and PARTIAL,
or DISCREPANT if its lock was last seen LOCKED while UNLOCKING; a warned or held door returns to OPEN; a key-isolated
door in motion and a door at rest keep their state. -/
structure Door.Halted (x y : Door) : Prop where
  moving : x.keyIso = false → x.state = .opening ∨ x.state = .closing ∨ x.state = .reopening →
    y.state = .opened ∧ y.partialOpen = true ∧ y.order = none
  freed : x.keyIso = false → x.state = .unlocking → (∀ rep, x.report = some rep → rep.locked = false) →
    y.state = .opened ∧ y.partialOpen = true ∧ y.order = none
  locked : x.keyIso = false → x.state = .unlocking → (∃ rep, x.report = some rep ∧ rep.locked = true) →
    y.state = .discrepant ∧ y.cause = some .noConfirm ∧ y.order = none
  warned : x.state = .preClose ∨ x.state = .held →
    y.state = .opened ∧ y.partialOpen = x.partialOpen ∧ y.order = none ∧ y.forced = false
  keyed : x.keyIso = true →
    x.state = .unlocking ∨ x.state = .opening ∨ x.state = .closing ∨ x.state = .reopening → y.state = x.state
  resting : x.state = .closedLocked ∨ x.state = .opened ∨ x.state = .proving ∨ x.state = .obstructed ∨
      x.state = .released ∨ x.state = .discrepant ∨ x.state = .lost ∨ x.state = .unknown → y.state = x.state

/-- Movement on a face (R25): while something is left in the berth it moves on, and a train that nothing is left of
empties an ARRIVING or DEPARTING berth at the same event (R29, R31, R33); the entry to ROLLING halts the doors. The
EMPTY entry is stated with no operation in flight and the halt with no start of the face queued. -/
structure FaceRec.Movement (vacant queueFree : Prop) (before after : FaceRec) : Prop where
  on : ¬ vacant → before.MovedOn after
  emptied : vacant → before.op = none →
    before.berth.state = .arriving ∨ (before.berth.state = .stopped ∧ before.berth.served = false) ∨
      (before.berth.underTest ∧ before.shutUp) ∨ before.berth.state = .departing → before.Emptied after
  halted : queueFree → before.berth.underTest → before.berth.state ≠ .rolling → ¬ before.shutUp →
    ∀ d : DoorIx, before.configured d = true → Door.Halted before.doors[d] after.doors[d]

/-! ### Words of the door records -/

/-- The report shows the door closed and locked, its leaf at rest. -/
def DoorReport.rests (rep : DoorReport) : Prop := rep.closed = true ∧ rep.locked = true ∧ rep.motion = .idle

/-- The leaf moves under its drive. -/
def DoorReport.travels (rep : DoorReport) : Prop := rep.motion = .opening ∨ rep.motion = .closing

/-- The leaf is at rest at full travel. -/
def DoorReport.full (rep : DoorReport) : Prop := rep.motion = .idle ∧ 980 ≤ rep.pos

/-- The door follows its key, by the table of R81. -/
structure FollowsKey (rep : DoorReport) (y : Door) : Prop where
  shut : rep.rests → y.state = .closedLocked
  opening : rep.motion = .opening → y.state = .opening
  closing : rep.motion = .closing → y.state = .closing
  other : ¬ rep.rests → ¬ rep.travels → y.state = .opened ∧ (y.partialOpen = true ↔ rep.pos < 980)

/-- The state a single report gives a door, `x` before it and `y` after it: the first line of the classification that
holds (R77). -/
structure Classified (x : Door) (rep : DoorReport) (y : Door) : Prop where
  released : x.latch = true ∨ rep.pulled = true → y.state = .released ∧ y.latch = true
  faulty : x.latch = false → rep.pulled = false → rep.fault ≠ .none →
    y.state = .discrepant ∧ y.cause = some .unitFault
  keyed : x.latch = false → rep.pulled = false → rep.fault = .none → rep.key ≠ .auto → FollowsKey rep y
  shut : x.latch = false → rep.pulled = false → rep.fault = .none → rep.key = .auto → rep.rests →
    y.state = .closedLocked
  standing : x.latch = false → rep.pulled = false → rep.fault = .none → rep.key = .auto → ¬ rep.rests →
    y.state = .discrepant ∧ y.cause = some .returnedOpen

/-- The door keeps its state, with its order, its cause and its attempts. -/
def Door.Keeps (x y : Door) : Prop :=
  y.state = x.state ∧ y.order = x.order ∧ y.cause = x.cause ∧ y.partialOpen = x.partialOpen ∧ y.attempts = x.attempts

/-- A report outside the expectation: DISCREPANT for UNCOMMANDED, but nothing while the newest command is not yet shown
to have been taken (R78). -/
def Unexpected (x : Door) (rep : DoorReport) (y : Door) : Prop :=
  (rep.confirm = .waiting → x.Keeps y) ∧
  (rep.confirm ≠ .waiting → y.state = .discrepant ∧ y.cause = some .uncommanded ∧ y.order = none)

/-- A report outside the expectation under a condition, and one inside it otherwise. -/
def Expected (ok : Prop) (x : Door) (rep : DoorReport) (y : Door) : Prop :=
  (ok → x.Keeps y) ∧ (¬ ok → Unexpected x rep y)

/-- The rule of the door's present state judges a report (step 8 of R78): the resting and waiting states (R80), opening
with its completion and its stall (R87, R88), closing, its obstruction and its lock proof (R90, R91), and the reversal
(R92). -/
def Door.Ruled (params : FaceParams) (x : Door) (rep : DoorReport) (y : Door) : Prop :=
  let stands (part : Bool) := y.state = .opened ∧ y.partialOpen = part ∧ y.order = none ∧ y.motionT = none
  match x.state with
  | .closedLocked => Expected rep.rests x rep y
  | .openQueued =>
    if (x.order.any fun o => o.fromOpen) = true then Expected (rep.locked = false ∧ ¬ rep.travels) x rep y
    else Expected rep.rests x rep y
  | .opened => Expected (rep.locked = false ∧ ¬ rep.travels) x rep y
  | .preClose | .held | .closeQueued => Expected (¬ rep.travels) x rep y
  | .obstructed => Expected (rep.locked = false ∧ rep.motion ≠ .closing) x rep y
  | .unlocking =>
    (rep.locked = false → rep.motion = .opening → y.state = .opening) ∧
    (rep.locked = false → rep.full → stands false) ∧ (rep.locked = false → rep.motion = .stalled → stands true) ∧
    (rep.motion = .closing → Unexpected x rep y) ∧
    (rep.motion ≠ .closing → rep.locked = true ∨ (rep.motion = .idle ∧ rep.pos < 980) → x.Keeps y)
  | .opening =>
    (rep.full → stands false) ∧ (rep.motion = .stalled → stands true) ∧
    (¬ rep.full → rep.motion ≠ .stalled → Expected (rep.locked = false ∧ rep.motion ≠ .closing) x rep y)
  | .closing =>
    (rep.closed = true → rep.locked = true → y.state = .closedLocked ∧ y.order = none) ∧
    (rep.closed = true → rep.locked = false →
      y.state = .proving ∧ y.motionT = none ∧ y.lockProofT = some params.tLock) ∧
    (rep.closed = false → rep.motion = .stalled →
      (x.attempts < params.nObst → y.state = .reopening ∧ y.reopenCause = some .obstruction ∧
        y.attempts = x.attempts + 1 ∧ y.forced = x.forced) ∧
      (params.nObst ≤ x.attempts → y.state = .obstructed ∧ y.attempts = params.nObst)) ∧
    (rep.closed = false → rep.motion ≠ .stalled → Expected (rep.motion ≠ .opening) x rep y)
  | .proving =>
    (rep.closed = true → rep.locked = true → y.state = .closedLocked ∧ y.order = none) ∧
    (rep.closed = false ∨ rep.locked = false → Expected (rep.closed = true) x rep y)
  | .reopening =>
    (rep.full ∨ rep.motion = .stalled →
      (x.pauseT ≠ none → x.Keeps y) ∧
      (x.pauseT = none → x.reopenCause = some .obstruction → y.state = .reopening ∧ y.motionT = none ∧
        y.pauseT = some params.tObst ∧ (y.partialOpen = true ↔ rep.motion = .stalled)) ∧
      (x.pauseT = none → x.reopenCause ≠ some .obstruction →
        y.state = .opened ∧ (y.partialOpen = true ↔ rep.motion = .stalled))) ∧
    (¬ rep.full → rep.motion ≠ .stalled → Expected (rep.locked = false ∧ rep.motion ≠ .closing) x rep y)
  | .unknown | .released | .discrepant | .lost => True

/-- The accepted report of a door that is not UNKNOWN or LOST: the first line of R78 that holds. -/
structure Judged (params : FaceParams) (x : Door) (rep : DoorReport) (y : Door) : Prop where
  pulled : rep.pulled = true → x.state ≠ .released →
    y.state = .released ∧ y.latch = true ∧ y.order = none ∧ y.partialOpen = false ∧ y.forced = false
  released : x.state = .released → x.Keeps y
  faulty : rep.pulled = false → x.state ≠ .released → x.state ≠ .discrepant → rep.fault ≠ .none →
    y.state = .discrepant ∧ y.cause = some .unitFault ∧ y.order = none
  returned : rep.pulled = false → x.state ≠ .released → rep.fault = .none ∨ x.state = .discrepant →
    x.keyIso = true → rep.key = .auto →
    (rep.rests → rep.fault = .none → y.state = .closedLocked ∧ y.cause = none) ∧
    (¬ rep.rests ∨ rep.fault ≠ .none → y.state = .discrepant ∧
      y.cause = if x.state = .discrepant then x.cause else some .returnedOpen)
  discrepant : rep.pulled = false → x.state = .discrepant → x.keyIso = false ∨ rep.key ≠ .auto → x.Keeps y
  keyed : rep.pulled = false → x.state ≠ .released → x.state ≠ .discrepant → rep.fault = .none → rep.key ≠ .auto →
    FollowsKey rep y ∧ (x.keyIso = false → y.order = none ∧ y.forced = false ∧ y.motionT = none)
  failed : rep.pulled = false → x.state ≠ .released → x.state ≠ .discrepant → rep.fault = .none → x.keyIso = false →
    rep.key = .auto → rep.confirm = .failed → y.state = .discrepant ∧ y.cause = some .noConfirm ∧ y.order = none
  ruled : rep.pulled = false → x.state ≠ .released → x.state ≠ .discrepant → rep.fault = .none → x.keyIso = false →
    rep.key = .auto → rep.confirm ≠ .failed → x.Ruled params rep y

/-- After the poll of a position of an enumeration: the next position, or the sweep from position n (R61). -/
def FaceRec.Advances (r : FaceRec) (d : DoorIx) (after : FaceRec) : Prop :=
  (d.val + 1 < r.n → after.link.state = .enumerating ∧ after.link.line = .sending (.poll r.link.g (d.val + 1) false)) ∧
  (r.n ≤ d.val + 1 → after.link.state = .sweeping ∧ after.link.line = .sending (.poll r.link.g r.n true))

/-- A door whose poll has ended without an accepted reply while it was OK: LATE with one miss, its state and its latest
report as they were (R65, R83). -/
structure FaceRec.MadeLate (before : FaceRec) (d : DoorIx) (after : FaceRec) : Prop where
  health : after.health[d].health = .late ∧ after.health[d].miss = 1
  door : after.doors[d].late = true ∧ after.doors[d].state = before.doors[d].state ∧
    after.doors[d].report = before.doors[d].report

/-- A door whose poll has ended without an accepted reply while it was LATE: LOST with its reason, in state LOST without
order, out of the start machinery, and told of by a LINK LOST report (R65, R83). -/
structure Part.MadeLost (p : Part) (f : Face) (d : DoorIx) (why : LostReason) (sending : Prop) (q : Part) : Prop where
  health : (q.face f).health[d].health = .lost ∧ (q.face f).health[d].reason = some why ∧ (q.face f).health[d].miss = 2
  door : (q.face f).doors[d].state = .lost ∧ (q.face f).doors[d].order = none ∧ (q.face f).doors[d].late = false
  out : q.outOfMachinery f d
  told : sending → p.reports.length < 64 → (.linkLost f d why (p.face f).link.g : Report) ∈ q.reports

/-! ### Words of the operations -/

/-- A door is a followed target of the operation in flight (R99). -/
def FaceRec.follows (r : FaceRec) (d : DoorIx) : Prop :=
  ∃ op, r.op = some op ∧ ∃ t ∈ op.targets, t.door = d ∧ t.followed = true

/-- A door that an OPEN turns back (R92, R109): a warned or held door returns to OPEN, a REOPENING one goes on for the
operation, or stands OPEN where its reversal is complete, and one on the way shut is reversed or goes on closing. -/
structure Door.TurnedBack (turns : Prop) (x y : Door) : Prop where
  warned : x.state = .preClose ∨ x.state = .held →
    y.state = .opened ∧ y.partialOpen = x.partialOpen ∧ y.order = none ∧ y.forced = false
  reopening : x.state = .reopening → x.keyIso = false →
    (x.pauseT = none → y.state = .reopening ∧ y.reopenCause = some .operation) ∧
    (x.pauseT ≠ none → y.state = .opened ∧ y.partialOpen = x.partialOpen ∧ y.pauseT = none)
  closing : x.state = .closing ∨ x.state = .proving → x.keyIso = false →
    (turns → y.state = .reopening ∧ y.reopenCause = some .operation ∧ y.order = none) ∧ (¬ turns → y.state = x.state)

/-- An OPEN has overtaken a CLOSE in SERVING: its warning and its gap check are over, its doors are turned back, those
without verdict MATCH or outside the mask going on closed, and the selected doors are queued to open (R103, R109). -/
structure OvertakenByOpen (source : OpSource) (tag : Byte) (sel mask : DoorIx → Bool) (before after : FaceRec) : Prop where
  op : ∀ op, after.op = some op → op.kind = .opn ∧ op.source = source ∧ op.tag = tag ∧ op.dwell = before.berth.dwell
  started : (∃ d, sel d = true) → after.op ≠ none
  warning : after.warning = none
  gap : after.gap.state ≠ .running ∧ after.gap.state ≠ .failed
  berth : after.berth.state = .serving ∧ after.berth.served = true
  opened : ∀ d : DoorIx, sel d = true → after.doors[d].state.openingUp
  targets : ∀ d : DoorIx, before.follows d →
    Door.TurnedBack (before.doors[d].verdict = .vMatch ∧ mask d = true) before.doors[d] after.doors[d]
  others : ∀ d : DoorIx, ¬ before.follows d → sel d = false → after.doors[d].state = before.doors[d].state

/-- The fire opening may open a door: not isolated, under a current nose, verdict MATCH or PARTIAL (R141). -/
def FaceRec.mayFire (r : FaceRec) (d : DoorIx) : Bool :=
  r.configured d && decide (r.doors[d].iso = .none) &&
    (decide (r.align.status = .aligned) || decide (r.align.status = .marginal) || decide (r.align.status = .outOfWindow) ||
      decide (r.align.status = .notAnnounced) || decide (r.align.status = .consistMismatch)) &&
    (decide (r.doors[d].verdict = .vMatch) || decide (r.doors[d].verdict = .vPartial))

/-- What the table of R141 makes of a door at its face's entry to FIRE, before the fire opening: state and
PARTIAL_OPEN. -/
def FaceRec.fireTurns (r : FaceRec) (d : DoorIx) : DoorState × Bool :=
  let x := r.doors[d]
  match x.state with
  | .openQueued => if (x.order.any fun o => o.fromOpen) = true then (.opened, x.partialOpen) else (.closedLocked, false)
  | .closeQueued | .preClose | .held => (.opened, x.partialOpen)
  | .closing =>
    if x.keyIso = true then (.closing, x.partialOpen)
    else if r.mayFire d = true then (.reopening, x.partialOpen) else (.opened, true)
  | .proving => if r.mayFire d = true then (.reopening, x.partialOpen) else (.proving, x.partialOpen)
  | .reopening => if x.keyIso = false ∧ x.pauseT ≠ none then (.opened, x.partialOpen) else (.reopening, x.partialOpen)
  | s => (s, x.partialOpen)

/-- The fire open set of R143: the doors that then stand in CLOSED_LOCKED, or OPEN and PARTIAL, and may open. -/
def FaceRec.fireSet (r : FaceRec) (d : DoorIx) : Bool :=
  r.mayFire d && (decide ((r.fireTurns d).1 = .closedLocked) || decide (r.fireTurns d = (.opened, true)))

/-- A face has entered FIRE: its doors are turned as R141 says, and those of the fire open set are queued to open, by an
operation of source FIRE and tag 0 that takes the place of any other; warning and gap check are over (R141, R143). -/
structure FaceRec.InFireFrom (before after : FaceRec) : Prop where
  doors : ∀ d : DoorIx, before.configured d = true →
    (before.fireSet d = true → after.doors[d].state.openingUp) ∧
    (before.fireSet d = false → after.doors[d].state = (before.fireTurns d).1 ∧
      after.doors[d].partialOpen = (before.fireTurns d).2)
  reversed : ∀ d : DoorIx, before.configured d = true → (before.fireTurns d).1 = .reopening →
    before.doors[d].keyIso = false → after.doors[d].reopenCause = some .operation
  op : (∃ d, before.fireSet d = true) →
    (∃ ts, after.op = some ⟨.opn, .fire, 0, none, before.berth.dwell, ts⟩ ∧
      ∀ d : DoorIx, before.fireSet d = true → (⟨d, .pending, true⟩ : Target) ∈ ts) ∧ after.berth.served = true
  noOp : (∀ d, before.fireSet d = false) → after.op = none
  warning : after.warning = none
  gap : after.gap.state ≠ .running ∧ after.gap.state ≠ .failed

/-- The entry stands in the start queue, the only one of its door. -/
def Arbiter.queuedOnce (a : Arbiter) (e : QEntry) : Prop := e ∈ a.queue ∧ ∀ x ∈ a.queue, x.ref = e.ref → x = e

/-- The grant event that comes grants the door: it joins the starting set, which did not hold it (R115). -/
def Part.granted (p : Part) (f : Face) (d : DoorIx) : Prop :=
  (⟨f, d⟩ : DoorRef) ∉ p.arb.starting ∧ (⟨f, d⟩ : DoorRef) ∈ (grantEvent p).arb.starting

/-- A request that changes nothing: its answer alone. -/
def Unchanged (i : Instr) (k : ReqKind) (tag : Byte) (result : Result) (a : Byte) (s : State) : Prop :=
  exec i s = .next (s.answered ⟨k.code ||| 0x80, tag, result, a, 0, []⟩ s.part)

end Sys2Proof.Machine

open Sys2Proof Sys2Proof.Machine

/-! ### The machine -/

/-- A step takes the command at the front of the queue and runs it on the state with the queue's rest; on an empty
queue the block idles (assumption 4: the model's choice). -/
def Obligations.StepRunsHead : Prop :=
  (∀ (c : Instr) (rest : List Instr) (s : State), s.pending = c :: rest →
    step s = exec c { s with pending := rest }) ∧
  (∀ s : State, s.pending = [] → step s = .next s)

/-- Every command answers a next state, and none changes the queue of the commands that wait. Both are the model's
choices: the manual names no condition that stops the part (assumption 22), and the waiting queue is the model's own,
which no command and no reset touches (assumptions 7 and 22). -/
def Obligations.CommandsAnswer : Prop :=
  ∀ (c : Instr) (s : State), ∃ t, exec c s = .next t ∧ t.pending = s.pending

/-- Power-on and the RESET pin leave the store of R2, every block at its reset state and START begun (R2, R164, R172);
that START is begun at once is the model's reading (assumption 1). RESET_PART is answered DONE and ends dispatch; once
its DONE reply has been sent the part resets with cause REQUEST, whether the end of that frame is told by REQUEST_RESET
or by HOST_FRAME_SENT (assumption 7). While no such reply is being sent, another reply's sending after a RESET_PART
included, REQUEST_RESET changes nothing (R168, R172). -/
def Obligations.ResetsRestart : Prop :=
  (∀ (straps : Straps) (s : State),
    (∃ t, exec (.powerOn straps) s = .next t ∧ t.part.FreshStore straps ∧ t.part.FreshBlocks ∧
      t.host = startingUp .powerOn straps ∧ t.pending = s.pending) ∧
    (∃ t, exec (.resetPin straps) s = .next t ∧ t.part.FreshStore straps ∧ t.part.FreshBlocks ∧
      t.host = startingUp .pin straps ∧ t.pending = s.pending)) ∧
  (∀ (tag : Byte) (s : State), s.HostFree → (∀ f, (s.part.face f).Settled) →
    ∃ t, exec (.resetPart tag []) s = .next t ∧ t.part = s.part ∧ t.host.resetting = true ∧
      { t with host := { t.host with resetting := false } } =
        s.answered ⟨0xC4, tag, .done, 0, 0, []⟩ s.part) ∧
  (∀ (straps : Straps) (s : State) (r : Reply) (o d : Bool), s.host.resetting = true → s.host.tx = .reply r o d →
    r.kind = 0xC4 → r.result = .done →
    (∃ t, exec (.requestReset straps) s = .next t ∧ t.part.FreshStore straps ∧ t.part.FreshBlocks ∧
      t.host = startingUp .request straps ∧ t.pending = s.pending) ∧
    (∃ t, exec .hostFrameSent s = .next t ∧ t.part.FreshStore s.part.straps ∧ t.part.FreshBlocks ∧
      t.host = startingUp .request s.part.straps ∧ t.pending = s.pending)) ∧
  (∀ (straps : Straps) (s : State),
    (∀ r o d, s.host.resetting = true → s.host.tx = .reply r o d → r.kind ≠ 0xC4 ∨ r.result ≠ .done) →
    exec (.requestReset straps) s = .next s)

/-- The reset state keeps every invariant stated below, and so does the state each kind of reset leaves, from every
state and whatever the straps (R2, R172). -/
def Obligations.ResetKeepsInvariants : Prop :=
  (State.reset.Bounded ∧ State.reset.Settled ∧ State.reset.part.absentIdle ∧
  (∀ f, (State.reset.part.face f).fireHolds) ∧ State.reset.SecuredSafe ∧
  (∀ f, (State.reset.part.face f).outputsFollow) ∧ State.reset.part.MachineryOk ∧
  (∀ f, (State.reset.part.face f).CountsOk) ∧ (∀ f, (State.reset.part.face f).EmptyOk) ∧
  State.reset.part.AxlesOk) ∧
  ∀ (cause : ResetCause) (straps : Straps) (s : State),
    let t := resetPart cause straps s
    t.part.straps = straps ∧ t.Bounded ∧ t.Settled ∧ t.part.absentIdle ∧ (∀ f, (t.part.face f).fireHolds) ∧
    t.SecuredSafe ∧ (∀ f, (t.part.face f).outputsFollow) ∧ t.part.MachineryOk ∧ (∀ f, (t.part.face f).CountsOk) ∧
    (∀ f, (t.part.face f).EmptyOk) ∧ t.part.AxlesOk

/-- The report queue never holds more than 64 reports nor two unsent DOOR reports for one door (R170), the inbound
queue never more than 4 frames (R164), the part parameters stay within their ranges (R12), and the starting set never
holds more doors than the largest limit (R114, R115). -/
def Obligations.StepKeepsBounds : Prop :=
  ∀ s t : State, s.Bounded → step s = .next t → t.Bounded

/-- Every step leaves nothing undone that a rule makes follow its event: a complete operation has ended (R104, R107),
the gap timer runs exactly while it must and FAILED stands only while a beam is blocked (R128, R131), a handover at
rest has been granted (R155), a free line has begun the next frame (R61, R69), and dispatch and the transmitter have
nothing to do (R165, R171). -/
def Obligations.StepLeavesSettled : Prop :=
  ∀ s t : State, s.Settled → step s = .next t → t.Settled

/-- While face B is absent it keeps its reset record and takes no part in the start machinery (R1). -/
def Obligations.AbsentFaceStays : Prop :=
  ∀ s t : State, s.part.absentIdle → step s = .next t → t.part.absentIdle

/-- While its face is in FIRE no configured door is in CLOSE_QUEUED (R142). -/
def Obligations.FireHoldsNoCloseQueued : Prop :=
  ∀ s t : State, (∀ f, (s.part.face f).fireHolds) → step s = .next t → ∀ f, (t.part.face f).fireHolds

/-- The secured state stands only while the proof bypass is active, or while every configured door is not LOST and
its latest report shows closed, locked and handle NORMAL, and the gap state is NOT_REQUIRED or PASSED or the gap
bypass is active (R159). -/
def Obligations.SecuredOnlyOnProof : Prop :=
  ∀ s t : State, s.SecuredSafe → step s = .next t → t.SecuredSafe

/-- ALARM is active exactly in gap state FAILED, and LOCAL_ACK exactly in LOCAL (R155, R161). -/
def Obligations.OutputsFollowRecords : Prop :=
  ∀ s t : State, (∀ f, (s.part.face f).outputsFollow) → step s = .next t → ∀ f, (t.part.face f).outputsFollow

/-- No step puts a door twice into the start queue, twice into the starting set, or into both: the queue holds the orders
of doors in OPEN_QUEUED and CLOSE_QUEUED, the set doors in a movement, and a door's key keeps it out of both (R81, R84,
R85, R113; with them the obstruction pause, which runs only in REOPENING, R92). -/
def Obligations.StepKeepsMachinery : Prop :=
  ∀ s t : State, s.part.MachineryOk → step s = .next t → t.part.MachineryOk

/-- No step takes a door's gap reopens above 2 or its obstruction attempts above the N_obst in force, nor a face parameter
out of its range (R10, R11, R91, R92), nor, while no stored profile has more than 64 axles, the axle count of a face
above 255 or the axles of a profile above 64 (R8, R21, R35). -/
def Obligations.StepKeepsDoorCounts : Prop :=
  ∀ s t : State, step s = .next t →
    ((∀ f, (s.part.face f).CountsOk) → ∀ f, (t.part.face f).CountsOk) ∧
    (s.part.AxlesOk → t.part.AxlesOk)

/-- A berth is EMPTY, or ANNOUNCED, only while its axle count is zero and all its stop detectors read clear (R27, R33,
R34). A detector that a geometry load has not yet primed reads clear (assumption 33: the model's choice). -/
def Obligations.StepKeepsEmptyBerth : Prop :=
  ∀ s t : State, (∀ f, (s.part.face f).EmptyOk) → step s = .next t → ∀ f, (t.part.face f).EmptyOk

/-- Every command but a reset tells of what it changes, in reports that wait or are being sent when it has run, unless
LOSS then stands (R170): a berth state by BERTH with the state left and the state entered (R26), and an EMPTY entry by
COUNTS (R123); an alignment record by ALIGN unless it is cleared (R50); a door's
state, cause, isolation, latch, LATE or PARTIAL_OPEN by DOOR as it then stands (R76); an operation that has ended by
OP_DONE with every target concluded (R100); a gap state by GAP (R134); a latch set or cleared by RELEASE (R135, R138); a
face mode or handover by MODE (R149); a secured state by SECURED (R160); a supply level by SUPPLY (R119). -/
def Obligations.ChangesTold : Prop :=
  ∀ (c : Instr) (s t : State), (∀ straps, c ≠ .powerOn straps ∧ c ≠ .resetPin straps) → s.host.sendingReset = false →
    exec c s = .next t → ¬ t.lossy →
    (∀ f, FaceRec.ChangesTold t.tells f (s.part.face f) (t.part.face f)) ∧
    (s.part.supply.level ≠ t.part.supply.level → ∃ x, t.tells (.supply x) ∧ x.prev = s.part.supply.level ∧
      x.next = t.part.supply.level ∧ x.code = t.part.supply.code)

/-! ### The host link (chapter 10) -/

/-- What the receiver makes of a byte that completes no frame, and of the byte gap timer's expiry (R162); with the
timer stopped the expiry changes nothing (assumption 4: the model's choice). -/
def Obligations.ReceiverBytes : Prop :=
  ∀ s : State, s.Settled →
    (s.host.rx = .waiting →
      exec (.hostByteReceived 0xC3 true) s =
        .next { s with host := { s.host with rx := .assembling [], gapTimer := some 5 } }) ∧
    (∀ b : Byte, s.host.rx = .waiting → b ≠ 0xC3 →
      exec (.hostByteReceived b true) s = .next { s with host := { s.host with discarded := true } }) ∧
    (∀ b : Byte, exec (.hostByteReceived b false) s =
      .next { s with host := { s.host with rx := .waiting, gapTimer := none, discarded := true } }) ∧
    (∀ b : Byte, s.host.rx = .assembling [] → b.toNat < 2 ∨ b.toNat > 242 →
      exec (.hostByteReceived b true) s =
        .next { s with host := { s.host with rx := .waiting, gapTimer := none, discarded := true } }) ∧
    (∀ b : Byte, s.host.rx = .assembling [] → 2 ≤ b.toNat → b.toNat ≤ 242 →
      exec (.hostByteReceived b true) s =
        .next { s with host := { s.host with rx := .assembling [b], gapTimer := some 5 } }) ∧
    (∀ (b len : Byte) (body : List Byte), s.host.rx = .assembling (len :: body) → body.length + 1 < len.toNat + 2 →
      exec (.hostByteReceived b true) s =
        .next { s with host := { s.host with rx := .assembling (len :: body ++ [b]), gapTimer := some 5 } }) ∧
    (s.host.gapTimer ≠ none →
      exec .byteGapTimerExpiry s =
        .next { s with host := { s.host with rx := .waiting, gapTimer := none, discarded := true } }) ∧
    (s.host.gapTimer = none → exec .byteGapTimerExpiry s = .next s)

/-- The bytes of a frame the host sends whole are that frame at the inbound queue; with another CRC the frame is
discarded and DISCARDED set; and the last byte of a request's frame is the request itself (R162, R163, R164). -/
def Obligations.FrameReceived : Prop :=
  (∀ (kind tag : Byte) (pl : List Byte) (h : HostLink), pl.length ≤ 240 → h.rx = .waiting →
    receiveAll (hostFrame kind tag pl) h = offerFrame ⟨kind, tag, pl⟩ { h with rx := .waiting, gapTimer := none }) ∧
  (∀ (len x y : Byte) (body : List Byte) (h : HostLink), 2 ≤ len.toNat → len.toNat ≤ 242 → body.length = len.toNat →
    [x, y] ≠ hostCrc (len :: body) → h.rx = .waiting →
    receiveAll (0xC3 :: len :: body ++ [x, y]) h = { h with rx := .waiting, gapTimer := none, discarded := true }) ∧
  (∀ (k : ReqKind) (tag b : Byte) (pl pre : List Byte) (s : State), pl.length ≤ 240 →
    hostFrame k.code tag pl = 0xC3 :: pre ++ [b] → s.host.rx = .assembling pre →
    exec (.hostByteReceived b true) s =
      exec (requestOf k tag pl) { s with host := { s.host with rx := .waiting, gapTimer := none } })

/-- The end of a frame is an opportunity: a pending reply goes first, carrying the link notes, which are then clear;
otherwise the report at the head of the queue, carrying LOSS, which is then clear; otherwise the transmitter is idle
(R166, R169, R171). With no frame waiting the reply's leaving changes nothing else. -/
def Obligations.TransmitterOpportunity : Prop :=
  ∀ s : State, s.Settled → s.host.sendingReset = false →
    (∀ r, s.host.reply = some r →
      ∃ t, exec .hostFrameSent s = .next t ∧ t.host.tx = .reply r s.host.overrun s.host.discarded ∧
        t.host.overrun = false ∧ t.host.discarded = false ∧
        (s.host.inbound = [] ∨ s.host.resetting = true →
          t = { s with host := { s.host with tx := .reply r s.host.overrun s.host.discarded, reply := none,
                                             overrun := false, discarded := false } })) ∧
    (∀ x rest, s.host.reply = none → s.part.reports = x :: rest →
      exec .hostFrameSent s =
        .next { s with part := { s.part with reports := rest, loss := false }
                       host := { s.host with tx := .report x s.part.loss } }) ∧
    (s.host.reply = none → s.part.reports = [] →
      exec .hostFrameSent s = .next { s with host := { s.host with tx := .idle } })

/-- A request that arrives at a free link is served at that event: its reply, with its own TAG and its KIND with bit 7
set, is made ready, and the part is as serving leaves it at the end of the event (R165, R166). One that finds a reply
pending, or a RESET_PART taken, waits at the tail of the inbound queue; one that finds 4 frames there is discarded and
sets OVERRUN; neither changes anything else (R164, R165, R168). -/
def Obligations.RequestServed : Prop :=
  (∀ (k : ReqKind) (tag : Byte) (pl : List Byte) (s : State), s.HostFree → k ≠ .resetPart →
    let sv := serve k tag pl s.part
    exec (requestOf k tag pl) s =
      .next (s.answered ⟨k.code ||| 0x80, tag, sv.ans.result, sv.ans.a, sv.ans.b, sv.data⟩ (settle sv.part))) ∧
  (∀ (k : ReqKind) (tag : Byte) (pl : List Byte) (s : State), s.Settled →
    (s.host.reply ≠ none ∨ s.host.resetting = true) →
    (s.host.inbound.length < 4 →
      exec (requestOf k tag pl) s =
        .next { s with host := { s.host with inbound := s.host.inbound ++ [⟨k.code, tag, pl⟩] } }) ∧
    (4 ≤ s.host.inbound.length →
      exec (requestOf k tag pl) s = .next { s with host := { s.host with overrun := true } }) ∧
    (∀ kind, kindUnknown kind = true → s.host.inbound.length < 4 →
      exec (.badKind kind tag pl) s =
        .next { s with host := { s.host with inbound := s.host.inbound ++ [⟨kind, tag, pl⟩] } }))

/-- The checks of dispatch: an unknown KIND is answered BAD_KIND with KIND 0xFF, a wrong payload length BAD_LENGTH, a
face byte that names no face, an absent face B or a bad coded byte BAD_VALUE with entry 255; none changes the part
(R1, R165, R166). -/
def Obligations.DispatchChecks : Prop :=
  (∀ (kind tag : Byte) (pl : List Byte) (s : State), s.HostFree → kindUnknown kind = true →
    exec (.badKind kind tag pl) s = .next (s.answered ⟨0xFF, tag, .badKind, kind, 0, []⟩ s.part)) ∧
  (∀ (k : ReqKind) (tag : Byte) (pl : List Byte) (s : State), s.HostFree → (∀ f, (s.part.face f).Settled) →
    (k.lengthOk pl = false → Unchanged (requestOf k tag pl) k tag .badLength 0 s) ∧
    (k.lengthOk pl = true → k.namesFace = true →
      (byteAt pl 0 ≠ 0 ∧ byteAt pl 0 ≠ 1) ∨ (byteAt pl 0 = 1 ∧ s.part.straps.twoFaces = false) ∨
        k.codesOk pl = false →
      Unchanged (requestOf k tag pl) k tag .badValue 255 s))

/-- The six enquiries are answered DONE with the record they name and change nothing (R14, R15, R39, R56, R97, R124,
R149, R166, R167); a profile or a door that does not exist gives BAD_VALUE with entry 255. That a reply carries the
fields its own rule lists and nothing more, so no gap, secured, operation or link record though R170 says that an enquiry
reads each, is the model's choice (assumption 46). So are the bytes in which a record is laid out, where R173 and the
enquiry rules leave them open (assumption 16), and what an input or a decoder reads as before its first sample
(assumption 33). The byte the silicon revision takes is free (assumption 3). -/
def Obligations.Enquiries : Prop :=
  ∀ (tag : Byte) (s : State), s.HostFree → (∀ f, (s.part.face f).Settled) →
    exec (.enquirePart tag []) s = .next (s.answered ⟨0x81, tag, .done, 0, 0, partData s.part⟩ s.part) ∧
    (∀ i : Fin 8, exec (.enquirePart tag [byteOf i]) s =
      .next (s.answered ⟨0x81, tag, .done, 0, 0, profileData s.part i⟩ s.part)) ∧
    (∀ b : Byte, 8 ≤ b.toNat → Unchanged (.enquirePart tag [b]) .enquirePart tag .badValue 255 s) ∧
    (∀ f, s.part.present f = true →
      exec (.enquireFace tag [faceCode f]) s =
        .next (s.answered ⟨0x82, tag, .done, 0, 0, faceData (s.part.face f)⟩ s.part) ∧
      (∀ d : DoorIx, (s.part.face f).configured d = true → exec (.enquireDoor tag [faceCode f, byteOf d]) s =
        .next (s.answered ⟨0x83, tag, .done, 0, 0, doorData (s.part.face f) d⟩ s.part)) ∧
      (∀ b : Byte, (s.part.face f).n ≤ b.toNat →
        Unchanged (.enquireDoor tag [faceCode f, b]) .enquireDoor tag .badValue 255 s) ∧
      exec (.enquireBerth tag [faceCode f]) s =
        .next (s.answered ⟨0x84, tag, .done, 0, 0, berthData (s.part.face f).berth⟩ s.part) ∧
      exec (.enquireAlign tag [faceCode f]) s =
        .next (s.answered ⟨0x85, tag, .done, 0, 0, alignData (s.part.face f).align⟩ s.part) ∧
      exec (.enquireCounts tag [faceCode f]) s =
        .next (s.answered ⟨0x86, tag, .done, 0, 0, countsData (s.part.face f)⟩ s.part))

/-! ### The configuration store (chapter 1) -/

/-- LOAD_PART_PARAMS is taken in every state: its seven values are clamped in table order and stored whole, CRIT_V
below the stored LOW_V, both supply counts return to zero, and it is answered DONE, or CLAMPED with the number of
clamped fields and the first of them (R3, R12, R13, R166). LOAD_PROFILE: a profile in use is IN_USE; with a door count of
0 it is erased; otherwise it is stored when it passes the checks of R8 and refused BAD_VALUE when it does not; a refusal
changes nothing (R8, R9). -/
def Obligations.LoadPartValues : Prop :=
  (∀ (tag k lowV critV h fSup t1 t2 fFire : Byte) (s : State), s.HostFree →
      let tStart := 256 * t1.toNat + t2.toNat
      ∃ q a b result,
        exec (.loadPartParams tag [k, lowV, critV, h, fSup, t1, t2, fFire]) s =
          .next (s.answered ⟨0x94, tag, result, a, b, []⟩ q) ∧
        q.params.k = max 1 (min 12 k.toNat) ∧ q.params.lowV = max 1 (min 235 lowV.toNat) ∧
        q.params.critV = min (q.params.lowV - 1) critV.toNat ∧ q.params.h = min 20 h.toNat ∧
        q.params.fSup = max 1 (min 8 fSup.toNat) ∧ q.params.tStart = max 100 (min 2000 tStart) ∧
        q.params.fFire = max 1 (min 8 fFire.toNat) ∧ q.params.critV < q.params.lowV ∧
        q.supply = { s.part.supply with fall := 0, rise := 0 } ∧
        LoadAnswer result a b (changedFields
          [k.toNat, lowV.toNat, critV.toNat, h.toNat, fSup.toNat, tStart, fFire.toNat]
          [q.params.k, q.params.lowV, q.params.critV, q.params.h, q.params.fSup, q.params.tStart, q.params.fFire])) ∧
  (∀ (tag : Byte) (pl : List Byte) (s : State), s.HostFree → (∀ f, (s.part.face f).Settled) →
      ReqKind.loadProfile.lengthOk pl = true →
      let pr := readProfile pl
      let id := (byteAt pl 0).toNat
      (s.part.profileInUse id = true → Unchanged (.loadProfile tag pl) .loadProfile tag .inUse 0 s) ∧
      (s.part.profileInUse id = false → 8 ≤ id → Unchanged (.loadProfile tag pl) .loadProfile tag .badValue 255 s) ∧
      (s.part.profileInUse id = false → ∀ i : Fin 8, i.val = id →
        (pr.doors = [] → exec (.loadProfile tag pl) s =
          .next (s.answered ⟨0x91, tag, .done, 0, 0, []⟩ { s.part with profiles := s.part.profiles.set i none })) ∧
        (pr.doors ≠ [] → pr.Valid → exec (.loadProfile tag pl) s =
          .next (s.answered ⟨0x91, tag, .done, 0, 0, []⟩ { s.part with profiles := s.part.profiles.set i (some pr) })) ∧
        (pr.doors ≠ [] → ¬ pr.Valid → ∃ e, Unchanged (.loadProfile tag pl) .loadProfile tag .badValue e s)))

/-- LOAD_FACE_PARAMS and LOAD_CLASSES: taken in UNCONFIGURED and MAINT; an odd Omin, an unknown phase mode or a code
above 7 is BAD_VALUE; a taken load replaces all the values, each clamped to the nearer limit of its range (W_ext above
the stored W_auto), answers with the number of clamped fields and the first of them, and changes nothing else but the
obstruction attempts a smaller N_obst lowers (R3, R7, R10, R11, R166). That LOAD_CLASSES counts a clamped timeout as
field 4, once for each entry, is the model's choice (assumption 29). -/
def Obligations.LoadFaceValues : Prop :=
  ∀ (tag : Byte) (f : Face) (pl : List Byte) (s : State), s.HostFree → (∀ f, (s.part.face f).Settled) →
    s.part.present f = true → byteAt pl 0 = faceCode f →
    let r := s.part.face f
    let fields := readFields faceParamWidths (pl.drop 1)
    let open' := r.mode.mode = .unconfigured ∨ r.mode.mode = .maint
    (pl.length = 30 →
      (r.enumerating = true → Unchanged (.loadFaceParams tag pl) .loadFaceParams tag .busy 0 s) ∧
      (r.enumerating = false → ¬ open' → Unchanged (.loadFaceParams tag pl) .loadFaceParams tag .wrongMode 0 s) ∧
      (r.enumerating = false → open' → (fields.getD 5 0) % 2 = 1 →
        Unchanged (.loadFaceParams tag pl) .loadFaceParams tag .badValue 6 s) ∧
      (r.enumerating = false → open' → (fields.getD 5 0) % 2 = 0 → fields.getD 16 0 > 1 →
        Unchanged (.loadFaceParams tag pl) .loadFaceParams tag .badValue 17 s) ∧
      (r.enumerating = false → open' → (fields.getD 5 0) % 2 = 0 → fields.getD 16 0 ≤ 1 →
        let x := nearestParams fields
        ∃ result a b, exec (.loadFaceParams tag pl) s =
            .next (s.answered ⟨0x92, tag, result, a, b, []⟩
              (s.part.modFace f fun r => lowerAttempts x.nObst { r with params := x })) ∧
          x.InRange ∧ x.oMin % 2 = 0 ∧ LoadAnswer result a b (changedFields fields x.fields))) ∧
    (pl.length = 21 →
      (r.enumerating = true → Unchanged (.loadClasses tag pl) .loadClasses tag .busy 0 s) ∧
      (r.enumerating = false → ¬ open' → Unchanged (.loadClasses tag pl) .loadClasses tag .wrongMode 0 s) ∧
      (r.enumerating = false → open' → ∀ i : Fin 4, (readClasses pl)[i].codesOk = false →
        (∀ j : Fin 4, j < i → (readClasses pl)[j].codesOk = true) →
        Unchanged (.loadClasses tag pl) .loadClasses tag .badValue (byteOf i) s) ∧
      (r.enumerating = false → open' → (∀ i : Fin 4, (readClasses pl)[i].codesOk = true) →
        ∃ result a b v, exec (.loadClasses tag pl) s =
            .next (s.answered ⟨0x93, tag, result, a, b, []⟩ (s.part.modFace f fun r => { r with classes := v })) ∧
          (∀ i : Fin 4, v[i] = { (readClasses pl)[i] with
            timeout := max 2000 (min 15000 (readClasses pl)[i].timeout) }) ∧
          LoadAnswer result a b
            (((List.finRange 4).filter fun i => decide (v[i] ≠ (readClasses pl)[i])).map fun _ => 4)))

/-- LOAD_GEOMETRY: refused BUSY while enumerating or, in MAINT, not at rest, WRONG_MODE in AUTO, LOCAL, STANDBY and
FIRE, BAD_VALUE when a check of R4 or R5 fails; a refusal changes nothing. A taken load replaces the geometry: the
link is idle and keeps g with every health entry reset, no door reports, every configured door is UNKNOWN without
verdict, the alignment record is cleared whole, the gap check ends, the settle timer stops and the berth waits for its
first sample (R4, R5, R6, R34, R51, R57, R58, R126; the flag that marks the waiting is the model's, assumption 21). The
other face is unchanged, where no door of this one is in the starting set. -/
def Obligations.LoadGeometry : Prop :=
  ∀ (tag : Byte) (f : Face) (pl : List Byte) (s : State), s.HostFree → (∀ f, (s.part.face f).Settled) →
    s.part.present f = true → byteAt pl 0 = faceCode f → ReqKind.loadGeometry.lengthOk pl = true →
    let r := s.part.face f
    let g := readGeometry pl
    let open' := r.mode.mode = .unconfigured ∨ r.mode.mode = .maint
    (r.enumerating = true → Unchanged (.loadGeometry tag pl) .loadGeometry tag .busy 0 s) ∧
    (r.enumerating = false → ¬ open' → Unchanged (.loadGeometry tag pl) .loadGeometry tag .wrongMode 0 s) ∧
    (r.enumerating = false → r.mode.mode = .maint → r.atRest = false →
      Unchanged (.loadGeometry tag pl) .loadGeometry tag .busy 0 s) ∧
    (r.enumerating = false → r.mode.mode = .unconfigured ∨ (r.mode.mode = .maint ∧ r.atRest = true) → ¬ g.Valid →
      ∃ e, Unchanged (.loadGeometry tag pl) .loadGeometry tag .badValue e s) ∧
    (r.enumerating = false → r.mode.mode = .unconfigured ∨ (r.mode.mode = .maint ∧ r.atRest = true) → g.Valid →
      ∃ q, exec (.loadGeometry tag pl) s = .next (s.answered ⟨0x90, tag, .done, 0, 0, []⟩ q) ∧
        (q.face f).geom = some g ∧ (q.face f).mode.mode = r.mode.mode ∧ (q.face f).classes = r.classes ∧
        (q.face f).params = r.params ∧
        (q.face f).link.state = .idle ∧ (q.face f).link.g = r.link.g ∧ (q.face f).gap.state = .notRequired ∧
        (q.face f).align = ⟨.notComputed, .config, r.align.dwell, .notAnnounced, none, g.doors.map fun _ => .unknown, []⟩ ∧
        (q.face f).berth.axles = 0 ∧ (q.face f).berth.configuring = true ∧ (q.face f).berth.settle = none ∧
        (q.face f).berth.detectors.length = g.m ∧ (∀ d : DoorIx, (q.face f).health[d] = Health.reset) ∧
        ((∀ x ∈ s.part.arb.starting, x.face ≠ f) → ∀ f', f' ≠ f → q.face f' = s.part.face f') ∧
        (∀ d : DoorIx, (q.face f).configured d = true →
          (q.face f).doors[d].state = .unknown ∧ (q.face f).doors[d].report = none ∧
          (q.face f).doors[d].late = false ∧ (q.face f).doors[d].keyIso = false ∧
          (q.face f).doors[d].verdict = .vUnknown ∧ (q.face f).doors[d].hostIso = r.doors[d].hostIso ∧
          (q.face f).doors[d].latch = r.doors[d].latch ∧ (q.face f).doors[d].counts = r.doors[d].counts ∧
          (q.face f).health[d].health = .notEnumerated))

/-! ### The berth (chapter 2) -/

/-- ANNOUNCE_TRAIN: refused BUSY while enumerating or while a train is served or leaves, WRONG_MODE in UNCONFIGURED
and MAINT, BAD_VALUE for a unit count other than 1 or 2 or for the first bad unit. A taken announcement is stored
with the sum of its profiles' axles: an EMPTY berth enters ANNOUNCED, an ARRIVING one loses UNANNOUNCED, and an
UNRECKONED one takes the expected axles as A, unchecked, and restarts its settle timer (R36, R35). In STOPPED it is a
re-announcement: the record is computed anew with its cause and the dwell counter stays (R28, R41, R53, R55; the notice
that waits for its command is assumption 20). -/
def Obligations.AnnounceTrain : Prop :=
  ∀ (tag auto : Byte) (f : Face) (units : List (Byte × Byte)) (s : State), s.HostFree →
    (∀ f, (s.part.face f).Settled) → s.part.present f = true → auto.toNat ≤ 1 → units.length ≤ 118 →
    let r := s.part.face f
    let pl := faceCode f :: auto :: byteOf units.length :: units.flatMap fun u => [u.1, u.2]
    let i := Instr.announceTrain tag pl
    let open' := r.mode.mode ≠ .unconfigured ∧ r.mode.mode ≠ .maint
    (r.enumerating = true → Unchanged i .announceTrain tag .busy 0 s) ∧
    (r.enumerating = false → ¬ open' → Unchanged i .announceTrain tag .wrongMode 0 s) ∧
    (r.enumerating = false → open' →
      r.berth.state = .serving ∨ r.berth.state = .rolling ∨ r.berth.state = .cleared ∨ r.berth.state = .departing →
      Unchanged i .announceTrain tag .busy 0 s) ∧
    (r.enumerating = false → open' →
      r.berth.state = .empty ∨ r.berth.state = .announced ∨ r.berth.state = .arriving ∨ r.berth.state = .stopped ∨
        r.berth.state = .unreckoned →
      (units.length ≠ 1 → units.length ≠ 2 → Unchanged i .announceTrain tag .badValue 255 s) ∧
      (units.length = 1 ∨ units.length = 2 → ∀ e, readUnits s.part 0 units = .error e →
        Unchanged i .announceTrain tag .badValue (byteOf e) s) ∧
      (units.length = 1 ∨ units.length = 2 → ∀ us, readUnits s.part 0 units = .ok us →
        let a : Announcement := ⟨us, decide (auto = 1), (us.map fun u => (s.part.profileOf u).axles).sum⟩
        (r.berth.state = .empty → ∃ q, exec i s = .next (s.answered ⟨0xA0, tag, .done, 0, 0, []⟩ q) ∧
          (q.face f).berth.state = .announced ∧ (q.face f).berth.ann = some a) ∧
        (r.mode.mode ≠ .standby → r.berth.state = .announced →
          exec i s = .next (s.answered ⟨0xA0, tag, .done, 0, 0, []⟩
            (s.part.modFace f fun r => r.modBerth fun b => { b with ann := some a }))) ∧
        (r.mode.mode ≠ .standby → r.berth.state = .arriving →
          exec i s = .next (s.answered ⟨0xA0, tag, .done, 0, 0, []⟩
            (s.part.modFace f fun r => r.modBerth fun b => { b with ann := some a, unannounced := false }))) ∧
        (r.mode.mode ≠ .standby → r.berth.state = .stopped →
          let p := s.part.modFace f fun r => r.modBerth fun b => { b with ann := some a, unannounced := false }
          ∃ q, exec i s = .next (s.answered ⟨0xA0, tag, .done, 0, 0, []⟩ q) ∧ Computed p f .reannounce (q.face f) ∧
            (q.face f).berth.ann = some a ∧ (q.face f).berth.unannounced = false ∧
            (r.mode.mode ≠ .fire → (q.face f).berth = (p.face f).berth)) ∧
        (r.mode.mode ≠ .standby → r.berth.state = .unreckoned →
          exec i s = .next (s.answered ⟨0xA0, tag, .done, 0, 0, []⟩
            (s.part.modFace f fun r => r.modBerth fun b =>
              { b with ann := some a, unchecked := true, axles := a.expected, settle := some r.params.tSettle })))))

/-- WITHDRAW_TRAIN and CLEAR_BERTH. A withdrawal in ANNOUNCED empties the berth; in ARRIVING it leaves the train
unannounced, in STOPPED too, where the record is computed anew without a train (R37, R41, R53; that a waiting notice
goes with it is assumption 20: the model's choice), and in UNRECKONED A at 0 with the settle timer restarted; without
an announcement it is NO_TRAIN, and BUSY for a train served or leaving. CLEAR_BERTH needs geometry and every detector
clear, and empties the berth with A at 0 and any sequence in progress spoiled (R33, R38, R51); that every detector
reads clear between a geometry load and its first sample is assumption 33, and that the attempts and gap reopens of a
door record that is not configured are cleared too is assumption 40: the model's choices. Each entry to EMPTY is told of
by a BERTH report of its cause, and by the COUNTS report of the dwell just ended, unless reports have been lost (R26,
R123). The entries to EMPTY are stated for a face with no operation in flight. -/
def Obligations.BerthEmptied : Prop :=
  ∀ (tag : Byte) (f : Face) (s : State), s.HostFree → (∀ f, (s.part.face f).Settled) → s.part.present f = true →
    let r := s.part.face f
    let open' := r.mode.mode ≠ .unconfigured ∧ r.mode.mode ≠ .maint
    let emptied (why : BerthCause) (q : Part) := r.Emptied (q.face f) ∧
      (q.loss = true ∨ r.EmptyingTold (· ∈ q.reports) f why)
    (r.enumerating = true → Unchanged (.withdrawTrain tag [faceCode f]) .withdrawTrain tag .busy 0 s ∧
      Unchanged (.clearBerth tag [faceCode f]) .clearBerth tag .busy 0 s) ∧
    (r.enumerating = false → ¬ open' → Unchanged (.withdrawTrain tag [faceCode f]) .withdrawTrain tag .wrongMode 0 s) ∧
    (r.enumerating = false → open' →
      (r.berth.state = .serving ∨ r.berth.state = .rolling ∨ r.berth.state = .cleared ∨ r.berth.state = .departing →
        Unchanged (.withdrawTrain tag [faceCode f]) .withdrawTrain tag .busy 0 s) ∧
      (r.berth.state = .empty ∨ ((r.berth.state = .arriving ∨ r.berth.state = .stopped ∨ r.berth.state = .unreckoned) ∧
          r.berth.ann = none) →
        Unchanged (.withdrawTrain tag [faceCode f]) .withdrawTrain tag .noTrain 0 s) ∧
      (r.berth.state = .announced → r.op = none →
        ∃ q, exec (.withdrawTrain tag [faceCode f]) s = .next (s.answered ⟨0xA1, tag, .done, 0, 0, []⟩ q) ∧
          emptied .withdraw q) ∧
      (r.berth.state = .arriving → r.berth.ann ≠ none →
        exec (.withdrawTrain tag [faceCode f]) s = .next (s.answered ⟨0xA1, tag, .done, 0, 0, []⟩
          (s.part.modFace f fun r => r.modBerth fun b => { b with ann := none, unannounced := true }))) ∧
      (r.berth.state = .stopped → r.berth.ann ≠ none →
        let p := s.part.modFace f fun r => r.modBerth fun b => { b with ann := none, unannounced := true }
        ∃ q, exec (.withdrawTrain tag [faceCode f]) s = .next (s.answered ⟨0xA1, tag, .done, 0, 0, []⟩ q) ∧
          Computed p f .withdraw (q.face f) ∧ (q.face f).berth = (p.face f).berth) ∧
      (r.berth.state = .unreckoned → r.berth.ann ≠ none →
        exec (.withdrawTrain tag [faceCode f]) s = .next (s.answered ⟨0xA1, tag, .done, 0, 0, []⟩
          (s.part.modFace f fun r => r.modBerth fun b =>
            { b with ann := none, unchecked := false, axles := 0, settle := some r.params.tSettle })))) ∧
    (r.enumerating = false → r.geom = none ∨ r.berth.allClear = false →
      Unchanged (.clearBerth tag [faceCode f]) .clearBerth tag .wrongMode 0 s) ∧
    (r.enumerating = false → r.geom ≠ none → r.berth.allClear = true →
      (r.berth.state = .empty → Unchanged (.clearBerth tag [faceCode f]) .clearBerth tag .done 0 s) ∧
      (r.berth.state ≠ .empty → r.op = none →
        ∃ q, exec (.clearBerth tag [faceCode f]) s = .next (s.answered ⟨0xC2, tag, .done, 0, 0, []⟩ q) ∧ emptied .clear q ∧
          (r.berth.entry.dec.pos ≠ .none → (q.face f).berth.entry.dec.spoiled = true) ∧
          (r.berth.exit.dec.pos ≠ .none → (q.face f).berth.exit.dec.spoiled = true)))

/-- The two decoders. Axles: an unspoiled sequence through BOTH from one side to the other counts one axle, inward from
S1 to S2; one that returns to its own side, that never passed BOTH, or that is spoiled counts nothing; a move between
positions that are not neighbours is an error and spoils the sequence (R19, R20). The entry side that a spoiled sequence
begun in BOTH then records is assumption 24: the model's choice. Crossings: an unspoiled sequence that
enters at the inner beam and leaves at the outer is one BOARD, the other way one ALIGHT, one that enters or leaves at
both beams one UNDIRECTED, and one that turns back, or that is spoiled, gives nothing (R122). -/
def Obligations.DecoderResults : Prop :=
  ((∀ (pos : AxlePos) (d : AxleDecoder), pos ≠ d.pos →
    (d.move pos).2.2 = !neighbours d.pos pos ∧
    (pos = .none → (d.move pos).1 = AxleDecoder.idle) ∧
    (pos ≠ .none → (d.move pos).1.pos = pos ∧ (d.move pos).2.1 = none ∧
      (d.move pos).1.entry = d.entry.or
        (match pos with
         | .s1 => some .s1
         | .s2 => some .s2
         | .none | .both => none) ∧
      ((d.move pos).1.passedBoth = true ↔ d.passedBoth = true ∨ pos = .both) ∧
      ((d.move pos).1.spoiled = true ↔ d.spoiled = true ∨ neighbours d.pos pos = false))) ∧
  (∀ d : AxleDecoder, d.move d.pos = (d, none, false)) ∧
  (∀ d : AxleDecoder, d.pos ≠ .none →
    ((d.move .none).2.1 = some .inward ↔
      d.entry = some .s1 ∧ d.pos = .s2 ∧ d.passedBoth = true ∧ d.spoiled = false) ∧
    ((d.move .none).2.1 = some .outward ↔
      d.entry = some .s2 ∧ d.pos = .s1 ∧ d.passedBoth = true ∧ d.spoiled = false)) ∧
  (∀ x y : AxlePos, neighbours x y = true ↔
    (x = .none ∧ y = .s1) ∨ (x = .s1 ∧ y = .none) ∨ (x = .s1 ∧ y = .both) ∨ (x = .both ∧ y = .s1) ∨
    (x = .both ∧ y = .s2) ∨ (x = .s2 ∧ y = .both) ∨ (x = .s2 ∧ y = .none) ∨ (x = .none ∧ y = .s2))) ∧
  ((∀ (pos : CrossPos) (d : CrossDecoder), d.pos ≠ .none → pos ≠ .none → (d.move pos).1 = { d with pos := pos } ∧
    (d.move pos).2 = none) ∧
  (∀ (pos : CrossPos) (d : CrossDecoder), d.pos = .none → pos ≠ .none →
    d.move pos = (⟨pos, some pos, false⟩, none)) ∧
  (∀ (d : CrossDecoder) (e : CrossPos), d.pos ≠ .none → d.entry = some e → e ≠ .none →
    (d.move .none).1 = CrossDecoder.idle ∧
    (d.spoiled = true → (d.move .none).2 = none) ∧
    (d.spoiled = false →
      ((d.move .none).2 = some .board ↔ e = .inner ∧ d.pos = .outer) ∧
      ((d.move .none).2 = some .alight ↔ e = .outer ∧ d.pos = .inner) ∧
      ((d.move .none).2 = some .undirected ↔ e = .both ∨ d.pos = .both) ∧
      ((d.move .none).2 = none ↔ (e = .inner ∧ d.pos = .inner) ∨ (e = .outer ∧ d.pos = .outer)))))

/-- One sample of a sensor's heads. With neither level accepted the two filters alone change; with a level accepted
the decoder moves, and an inward axle adds one to A up to 255, an outward one takes one from A down to 0; in
UNRECKONED with no announcement A stays (R17, R21). An outward count at the exit sensor in ARRIVING and STOPPED
sets OVERRUN, which stands unless the berth empties (R22), and a counted axle is movement: it takes an unserved train
back to ARRIVING, a served one to DEPARTING or ROLLING, and an ARRIVING or DEPARTING berth with nothing left in it to
EMPTY (R25, R29, R31, R32, R33, R111). A decode error, a count below 0 and one above 255 queue an AXLE_FAULT report,
unless reports have been lost (R20, R21, R23; the berth state it carries is assumption 32). In UNRECKONED every
accepted change of a head, counted or not, restarts the settle timer (R35). Movement is stated outside STANDBY, where a wake comes first; that an EMPTY entry clears the attempts and gap reopens of a door record that is not
configured too is assumption 40: the model's choice. -/
def Obligations.AxleSample : Prop :=
  ∀ (f : Face) (sensor : AxleSensor) (s1 s2 : Bool) (s : State), s.Settled → s.part.present f = true →
    (s.part.face f).geom ≠ none →
    let r := s.part.face f
    let u := r.berth.axleUnit sensor
    let n := r.params.fAxle
    let i := Instr.axleHeadChange f sensor s1 s2
    (¬ u.s1.Accepts n s1 → ¬ u.s2.Accepts n s2 →
      exec i s = .next { s with part := s.part.modFace f (fun r => r.modBerth
        (Berth.setAxleUnit sensor ⟨u.s1.passed s1, u.s2.passed s2, u.dec⟩)) }) ∧
    (u.s1.Accepts n s1 ∨ u.s2.Accepts n s2 →
      let x := if u.s1.primed = true ∧ n ≤ u.s1.run + 1 ∧ u.s1.level ≠ s1 then s1 else u.s1.level
      let y := if u.s2.primed = true ∧ n ≤ u.s2.run + 1 ∧ u.s2.level ≠ s2 then s2 else u.s2.level
      let m := u.dec.move (axlePos x y)
      let plain := r.berth.state = .empty ∨ r.berth.state = .announced ∨ r.berth.state = .arriving ∨
        r.berth.state = .departing ∨ (r.berth.state = .stopped ∧ r.berth.served = false)
      let held := r.berth.state = .unreckoned ∧ r.berth.ann = none
      let fault (why : AxleFault) (moved : Option (AxlePos × AxlePos)) : Report :=
        .axleFault f ⟨sensor, why, r.berth.state, r.berth.axles, r.berth.dwell, moved⟩
      ∃ t, exec i s = .next t ∧ ((t.part.face f).berth.axleUnit sensor).dec = m.1 ∧
        (m.2.2 = true → t.lossy ∨ t.tells (fault .decode (some (u.dec.pos, axlePos x y)))) ∧
        (m.2.1 = some .outward → r.berth.axles = 0 → ¬ held → t.lossy ∨ t.tells (fault .underflow none)) ∧
        (m.2.1 = some .inward → 255 ≤ r.berth.axles → ¬ held → t.lossy ∨ t.tells (fault .overflow none)) ∧
        ((t.part.face f).berth.axleUnit sensor).s1.level = x ∧ ((t.part.face f).berth.axleUnit sensor).s2.level = y ∧
        (r.berth.state = .unreckoned → r.berth.ann = none → (t.part.face f).berth.axles = r.berth.axles) ∧
        (r.berth.state = .unreckoned → (t.part.face f).berth.state = .unreckoned ∧
          (t.part.face f).berth.settle = some r.params.tSettle) ∧
        (m.2.1 = none → (t.part.face f).berth.axles = r.berth.axles ∧
          (t.part.face f).berth.state = r.berth.state) ∧
        (plain → m.2.1 = some .inward →
          (t.part.face f).berth.axles = if r.berth.axles < 255 then r.berth.axles + 1 else r.berth.axles) ∧
        (plain → m.2.1 = some .inward → r.berth.state = .empty ∨ r.berth.state = .announced → r.berth.axles < 255 →
          (t.part.face f).berth.state = .arriving) ∧
        (plain → m.2.1 = some .outward → 2 ≤ r.berth.axles →
          (t.part.face f).berth.axles = r.berth.axles - 1) ∧
        (m.2.1 = some .outward → r.berth.axles = 0 → r.berth.state = .empty →
          (t.part.face f).berth.axles = 0 ∧ (t.part.face f).berth.state = .empty) ∧
        (m.2.1 ≠ none → r.mode.mode ≠ .standby → r.berth.state ≠ .empty → r.berth.state ≠ .announced →
          let count := if r.berth.state = .unreckoned ∧ r.berth.ann = none then r.berth.axles
            else if m.2.1 = some .inward then (if r.berth.axles < 255 then r.berth.axles + 1 else r.berth.axles)
            else r.berth.axles - 1
          let vacant := count = 0 ∧ r.berth.allClear = true
          r.Movement vacant (s.part.queueFree f) (t.part.face f) ∧
          (¬ vacant → (t.part.face f).berth.axles = count ∧
            ((t.part.face f).berth.overrun = true ↔ r.berth.overrun = true ∨
              (sensor = .exit ∧ m.2.1 = some .outward ∧ (r.berth.state = .arriving ∨ r.berth.state = .stopped))))))

/-- One sample of a stop detector that accepts a level is movement: a detector that becomes occupied brings an EMPTY
berth to ARRIVING, unannounced, and an ANNOUNCED one to ARRIVING, with the settle timer running; in ARRIVING it
restarts the timer. A sample that is not accepted changes its filter alone (R24, R25, R27). In the other states either
change is movement: it takes an unserved train back to ARRIVING, a served one to DEPARTING or ROLLING with its doors
halted, and an ARRIVING or DEPARTING berth with nothing left in it to EMPTY (R29, R31, R32, R33, R52, R93, R111); stated
outside STANDBY, where a wake comes first. That an EMPTY entry clears the attempts and gap reopens of a door record that
is not configured too is assumption 40: the model's choice. -/
def Obligations.DetectorSample : Prop :=
  ∀ (f : Face) (i : Fin 16) (occupied : Bool) (s : State) (x : Filter), s.Settled → s.part.present f = true →
    (s.part.face f).berth.detectors[i.val]? = some x →
    let r := s.part.face f
    (¬ x.Accepts r.params.fAxle occupied →
      exec (.stopDetectorChange f i occupied) s = .next { s with part := s.part.modFace f fun r => r.modBerth fun b =>
        { b with detectors := b.detectors.set i.val (x.passed occupied) } }) ∧
    (x.Accepts r.params.fAxle occupied →
      ∃ t, exec (.stopDetectorChange f i occupied) s = .next t ∧
        (t.part.face f).berth.detectors = r.berth.detectors.set i.val (.taken occupied) ∧
        (occupied = true → r.berth.state = .empty ∨ r.berth.state = .announced ∨ r.berth.state = .arriving →
          (t.part.face f).berth.state = .arriving ∧ (t.part.face f).berth.settle = some r.params.tSettle ∧
          (r.berth.state = .empty → (t.part.face f).berth.unannounced = true) ∧
          (r.berth.state ≠ .empty → (t.part.face f).berth.unannounced = r.berth.unannounced)) ∧
        (r.mode.mode ≠ .standby → r.berth.state ≠ .empty → r.berth.state ≠ .announced →
          r.Movement (r.berth.axles = 0 ∧ ∀ x ∈ r.berth.detectors.set i.val (.taken occupied), x.reads = false)
            (s.part.queueFree f) (t.part.face f)))

/-- The first sample after a geometry load primes the detectors, the end beams, the four axle heads and the two axle
decoders, each in the position its heads give, its sequence spoiled where that is not NONE: with any detector occupied
the berth enters UNRECKONED with its settle timer running; with every detector clear it is EMPTY (R18, R34, R126). A
sample that is not awaited changes nothing (assumption 5: the model's choice), and that it takes a berth announced since
the load to EMPTY or UNRECKONED too is assumption 47: the model's choice. Stated for a face with no operation in flight. -/
def Obligations.ConfigurationSample : Prop :=
  ∀ (f : Face) (x : TrackSample) (s : State), s.Settled → s.part.present f = true →
    let r := s.part.face f
    let m := r.berth.detectors.length
    let occupied (i : Nat) : Bool := (x.detectors.toList[i]?).getD false
    (r.berth.configuring = false → exec (.configurationFirstSample f x) s = .next s) ∧
    (r.berth.configuring = true → r.op = none →
      ∃ t, exec (.configurationFirstSample f x) s = .next t ∧ (t.part.face f).berth.configuring = false ∧
        (t.part.face f).berth.detectors = (List.range m).map (fun i => Filter.taken (occupied i)) ∧
        (t.part.face f).gap.headBeam = .taken x.headBeam ∧ (t.part.face f).gap.tailBeam = .taken x.tailBeam ∧
        (t.part.face f).berth.entry.Primed x.entryS1 x.entryS2 ∧ (t.part.face f).berth.exit.Primed x.exitS1 x.exitS2 ∧
        ((∃ i, i < m ∧ occupied i = true) → (t.part.face f).berth.state = .unreckoned ∧
          (t.part.face f).berth.settle = some r.params.tSettle) ∧
        ((∀ i, i < m → occupied i = false) → (t.part.face f).berth.state = .empty))

/-- The settle timer's expiry in ARRIVING: the dwell counter goes on by one, wrapping, the counting of crossings
begins, and the alignment record is computed from the berth as it stands; where no opening follows it, the berth is
STOPPED with the timer stopped (R25, R28, R41, R55, R123; the notice that waits for its command is assumption 20). In
ROLLING the same, SERVED kept, or EMPTY with nothing left in the berth (R32, R33). In UNRECKONED, with every detector
clear and both decoders in NONE, ANNOUNCED or, with no announcement, EMPTY; otherwise STOPPED, unchecked, with an
announcement, and without one the timer alone stops (R35). A stop is told of by a BERTH and an ALIGN report, an EMPTY
entry by a BERTH and a COUNTS report, unless reports have been lost (R26, R50, R123). Stated outside STANDBY, but for
ARRIVING; the EMPTY entries with no operation in flight, and that they clear the attempts and gap reopens of a door
record that is not configured too is assumption 40: the model's choice. An expiry with the timer stopped changes nothing (assumption 4: the model's choice). -/
def Obligations.SettleStops : Prop :=
  ∀ (f : Face) (s : State), s.Settled → s.part.present f = true →
    let r := s.part.face f
    let p := s.part.modFace f fun r => r.modBerth fun b => { b with dwell := b.dwell + 1 }
    (r.berth.settle = none → exec (.settleTimerExpiry f) s = .next s) ∧
    (r.berth.settle ≠ none → r.berth.state = .arriving →
      ∃ t, exec (.settleTimerExpiry f) s = .next t ∧ (t.part.face f).berth.dwell = r.berth.dwell + 1 ∧
        (t.part.face f).gap.counting = true ∧ (t.part.face f).align = alignRecord p f .stopped ∧
        (∀ a, r.berth.ann = some a → a.autoOpen = false → r.mode.mode ≠ .fire →
          (t.part.face f).berth.state = .stopped ∧ (t.part.face f).berth.settle = none) ∧
        (r.berth.ann = none → r.mode.mode ≠ .fire →
          (t.part.face f).berth.state = .stopped ∧ (t.part.face f).berth.settle = none)) ∧
    (r.berth.settle ≠ none → r.mode.mode ≠ .standby →
      let stops (b : Berth) := ∃ t, exec (.settleTimerExpiry f) s = .next t ∧
        Computed (s.part.modFace f fun r => { r with berth := b }) f .stopped (t.part.face f) ∧
        (t.part.face f).gap.counting = true ∧
        (r.mode.mode ≠ .fire → (t.part.face f).berth = { b with state := .stopped, settle := none }) ∧
        (t.lossy ∨ (t.tells (.align f (t.part.face f).align) ∧ ∃ x, t.tells (.berth f x) ∧ x.prev = r.berth.state ∧
          x.next = .stopped ∧ x.cause = .settle ∧ x.dwell = b.dwell ∧ x.axles = b.axles ∧ x.served = b.served ∧
          x.pattern = b.pattern))
      let empties := ∃ t, exec (.settleTimerExpiry f) s = .next t ∧ r.Emptied (t.part.face f) ∧
        (t.lossy ∨ r.EmptyingTold t.tells f .settle)
      let onward := { r.berth with dwell := r.berth.dwell + 1 }
      (r.berth.state = .arriving → stops onward) ∧
      (r.berth.state = .rolling →
        (r.berth.axles ≠ 0 ∨ r.berth.allClear = false → stops onward) ∧
        (r.berth.axles = 0 → r.berth.allClear = true → r.op = none → empties)) ∧
      (r.berth.state = .unreckoned →
        let gone := r.berth.allClear = true ∧ r.berth.entry.dec.pos = .none ∧ r.berth.exit.dec.pos = .none
        (gone → r.berth.ann = none → r.op = none → empties) ∧
        (gone → r.berth.ann ≠ none → ∃ t, exec (.settleTimerExpiry f) s = .next t ∧ (t.part.face f).berth =
          { r.berth with state := .announced, axles := 0, unchecked := false, settle := none }) ∧
        (¬ gone → r.berth.ann ≠ none → stops { onward with unchecked := true }) ∧
        (¬ gone → r.berth.ann = none → exec (.settleTimerExpiry f) s =
          .next { s with part := s.part.modFace f fun r => r.modBerth fun b => { b with settle := none } })))

/-! ### Alignment (chapter 3) -/

/-- Stages 1 and 2 and the axle check. A pattern is monotone with k clear detectors exactly when the detectors before
k read clear and those from k on occupied (R24). With k clear detectors the nose is midway between detectors k−1 and
k, with h = p/2; E is its distance from the stop point, classed by W_auto and W_ext; no stage runs for an overrun, a
pattern that is not monotone, or a pattern all clear or all occupied, and then every door entry is UNKNOWN and the
unserved list empty, as they are for a train not announced (R42, R43, R44). The axle check is that of R28. Where
stages 3 to 5 run the door entries and the unserved list are those of the announced units placed from the nose, and
each configured door is handed its entry's verdict and overlap (R41, R45, R48, R49). -/
def Obligations.NosePlaced : Prop :=
  (∀ pat : List Bool, (monotone pat = true ↔
      ∃ k, k ≤ pat.length ∧ ∀ (i : Nat) (x : Bool), pat[i]? = some x → (x = true ↔ k ≤ i)) ∧
    (∀ k, k ≤ pat.length → (∀ (i : Nat) (x : Bool), pat[i]? = some x → (x = true ↔ k ≤ i)) → clearCount pat = k)) ∧
  ∀ (f : Face) (p : Part) (cause : AlignCause) (g : Geometry), (p.face f).geom = some g →
    let r := p.face f
    let b := r.berth
    let k := clearCount b.pattern
    let a := alignRecord p f cause
    let unknown := List.replicate g.doors.length DoorEntry.unknown
    let none' := a.nose = none ∧ a.doors = unknown ∧ a.unserved = []
    a.cause = cause ∧ a.dwell = b.dwell ∧
    (b.ann = none → a.axleCheck = .notAnnounced) ∧
    (∀ y, b.ann = some y → a.axleCheck =
      if b.unchecked = true then .unchecked else if b.axles = y.expected then .agrees else .differs) ∧
    (b.overrun = true → a.status = .overrun ∧ none') ∧
    (b.overrun = false → monotone b.pattern = false → a.status = .positionUncertain ∧ none') ∧
    (b.overrun = false → monotone b.pattern = true → k = 0 → a.status = .overrun ∧ none') ∧
    (b.overrun = false → monotone b.pattern = true → k ≠ 0 → k = b.pattern.length →
      a.status = .undershoot ∧ none') ∧
    (b.overrun = false → monotone b.pattern = true → 0 < k → k < b.pattern.length →
      ∃ x, a.nose = some x ∧ x.n = g.d0 + k * g.pitch - g.pitch / 2 ∧ x.h = g.pitch / 2 ∧
        x.e = (x.n : Int) - g.s0 ∧
        (x.window = .aligned ↔ x.e.natAbs ≤ r.params.wAuto) ∧
        (x.window = .marginal ↔ r.params.wAuto < x.e.natAbs ∧ x.e.natAbs ≤ r.params.wExt) ∧
        (x.window = .outOfWindow ↔ r.params.wAuto < x.e.natAbs ∧ r.params.wExt < x.e.natAbs) ∧
        (b.ann = none → a.status = .notAnnounced ∧ a.doors = unknown ∧ a.unserved = []) ∧
        (∀ y, b.ann = some y →
          let ts := placeTrain p y.units x.n
          (a.status = if b.unchecked = false ∧ b.axles ≠ y.expected then .consistMismatch else x.window.status) ∧
          a.doors = g.doors.map (doorEntry r.params.oMin x.h ts) ∧
          a.unserved = unservedOf r.params.oMin x.h ts g.doors)) ∧
    (let q := (writeAlign f a p).face f
     q.align = a ∧ ∀ d : DoorIx,
      (r.configured d = true → ∃ e, a.doors[d.val]? = some e ∧ q.doors[d].verdict = e.verdict ∧ q.doors[d].ov = e.ov) ∧
      (r.configured d = false → q.doors[d] = r.doors[d]))

/-- The worst-case overlap of an opening and a train door is the least overlap over every nose position between
N − h and N + h: none gives less, and the two ends are among them (R47). -/
def Obligations.OverlapExact : Prop :=
  (∀ g : DoorGeom, opening g = ⟨(g.xc : Int) - (g.w / 2 : Nat), (g.xc : Int) + (g.w / 2 : Nat)⟩) ∧
  ∀ (h : Nat) (o t : Interval), o.lo ≤ o.hi → t.lo ≤ t.hi →
    (∀ x y : Interval, ((overlap x y : Nat) : Int) = max 0 (min x.hi y.hi - max x.lo y.lo)) ∧
    worstOverlap h o t = min (overlap o ⟨t.lo - h, t.hi - h⟩) (overlap o ⟨t.lo + h, t.hi + h⟩) ∧
    ∀ shift : Int, -(h : Int) ≤ shift → shift ≤ h → worstOverlap h o t ≤ overlap o ⟨t.lo + shift, t.hi + shift⟩

/-- The verdict of a platform door: ov is the largest worst-case overlap over the train doors, the best train door
the first that gives it, absent at 0; MATCH from Omin, PARTIAL below it, NONE at 0 (R48). -/
def Obligations.DoorVerdicts : Prop :=
  ∀ (oMin h : Nat) (ts : List PlacedDoor) (g : DoorGeom), 0 < oMin →
    let e := doorEntry oMin h ts g
    (∀ t ∈ ts, worstOverlap h (opening g) t.span ≤ e.ov) ∧
    (e.ov = 0 → e.best = none ∧ e.verdict = .vNone) ∧
    (0 < e.ov → ∃ (i : Nat) (t : PlacedDoor), ts[i]? = some t ∧ e.best = some t.ref ∧
      worstOverlap h (opening g) t.span = e.ov ∧
      ∀ (j : Nat) (u : PlacedDoor), j < i → ts[j]? = some u → worstOverlap h (opening g) u.span < e.ov) ∧
    (e.verdict = .vMatch ↔ oMin ≤ e.ov) ∧ (e.verdict = .vPartial ↔ 0 < e.ov ∧ e.ov < oMin) ∧
    (e.verdict = .vNone ↔ e.ov = 0)

/-- Stage 3 places the train doors: unit 0 begins at N, unit 1 at N + L0 + c0 + c1; an A_LEADS unit places its doors at
a, a B_LEADS unit at L − a − t (R45, R46). Stage 5: the unserved list is, in order and without repeats, the train doors
that no platform door overlaps by Omin or more; an announcement of two units has at most 80 (R45, R49). -/
def Obligations.TrainDoorsPlaced : Prop :=
  (∀ (p : Part) (u v : UnitEntry) (n : Nat),
    let pu := p.profileOf u
    let pv := p.profileOf v
    let offset (o : Orientation) (len : Nat) (t : TrainDoor) : Int :=
      match o with
      | .aLeads => t.a
      | .bLeads => (len : Int) - t.a - t.t
    (∀ us, (us = [u] ∨ us = [u, v]) → ∀ (j : Nat) (t : TrainDoor), pu.doors[j]? = some t →
      (⟨⟨0, j⟩, ⟨n + offset u.orientation pu.len t, n + offset u.orientation pu.len t + t.t⟩⟩ : PlacedDoor)
        ∈ placeTrain p us n) ∧
    (∀ (j : Nat) (t : TrainDoor), pv.doors[j]? = some t →
      (⟨⟨1, j⟩, ⟨n + pu.len + pu.coupler + pv.coupler + offset v.orientation pv.len t,
          n + pu.len + pu.coupler + pv.coupler + offset v.orientation pv.len t + t.t⟩⟩ : PlacedDoor)
        ∈ placeTrain p [u, v] n) ∧
    (placeTrain p [u] n).length = pu.doors.length ∧
    (placeTrain p [u, v] n).length = pu.doors.length + pv.doors.length) ∧
  (∀ (p : Part) (us : List UnitEntry) (n oMin h : Nat) (gs : List DoorGeom),
    let ts := placeTrain p us n
    let un := unservedOf oMin h ts gs
    (∀ x, x ∈ un ↔ ∃ t ∈ ts, t.ref = x ∧ ∀ g ∈ gs, worstOverlap h (opening g) t.span < oMin) ∧
    un.Nodup ∧ un.Pairwise (fun x y => x.unitIx < y.unitIx ∨ (x.unitIx = y.unitIx ∧ x.doorIx < y.doorIx)) ∧
    ((∀ u ∈ us, (p.profileOf u).doors.length ≤ 40) → un.length ≤ 80))

/-! ### The door link (chapter 4) -/

/-- The timers of the link. At the reset timer's expiry chain-enable rises and the settle timer of 20 ms starts; at the
settle timer's expiry the link generation goes on, MARK is begun with it and the door count, every configured door's
last cue sent is DARK, and ENUMERATING begins at position 0 (R59, R60). The standby round timer's expiry restarts it
and begins a round at position 0, unless one is in progress; the flash timer's expiry restarts it, advances the phase
from 7 back to 0 and makes the SYNC of the new phase pending; either may begin a frame on an idle line (R70, R73). An
expiry with its timer stopped changes nothing (assumption 4: the model's choice). At the end of sending a frame a poll
awaits its reply, with the reply timer of T_reply started; after any other frame the line is free and the next frame
begins (R63, R69); with nothing being sent nothing changes (assumption 22: the model's choice). That MARK and the polls
of the enumeration after it leave the non-poll run as it stands is assumption 48: the model's choice. -/
def Obligations.LinkEvents : Prop :=
  ∀ (f : Face) (s : State), s.Settled → s.part.present f = true →
    let r := s.part.face f
    (r.link.chainResetTimer = none → exec (.chainResetTimerExpiry f) s = .next s) ∧
    (r.link.chainResetTimer ≠ none →
      exec (.chainResetTimerExpiry f) s = .next { s with part := s.part.modFace f fun r => r.modLink fun l =>
        { l with state := .chainSettle, chainEnable := true, chainResetTimer := none, chainSettleTimer := some 20 } }) ∧
    (r.link.chainSettleTimer = none → exec (.chainSettleTimerExpiry f) s = .next s) ∧
    (r.link.chainSettleTimer ≠ none →
      let g := if r.link.g = 0 ∨ 255 ≤ r.link.g then 1 else r.link.g + 1
      ∃ t, exec (.chainSettleTimerExpiry f) s = .next t ∧
        (t.part.face f).link = { r.link with state := .enumerating, g := g, line := .sending (.mark g r.n),
                                             pollPos := 0, chainSettleTimer := none } ∧
        (∀ d : DoorIx, (t.part.face f).health[d] =
          if r.configured d = true then { r.health[d] with lastCue := some .dark } else r.health[d]) ∧
        { t with part := t.part.modFace f fun x => { x with link := r.link, health := r.health } } = s) ∧
    (r.link.standbyTimer = none → exec (.standbyRoundTimerExpiry f) s = .next s) ∧
    (r.link.standbyTimer ≠ none →
      exec (.standbyRoundTimerExpiry f) s = .next { s with part := s.part.modFace f (fun r => linkPump (r.modLink fun l =>
          { l with standbyTimer := some 1000, round := true, pollPos := if l.round then l.pollPos else 0 })) }) ∧
    (r.link.flashTimer = none → exec (.flashTimerExpiry f) s = .next s) ∧
    (r.link.flashTimer ≠ none →
      exec (.flashTimerExpiry f) s = .next { s with part := s.part.modFace f (fun r => linkPump (r.modLink fun l =>
          { l with flashTimer := some 125, flashPhase := (l.flashPhase + 1) % 8,
                   sync := some ((l.flashPhase + 1) % 8, r.params.phaseMode) })) }) ∧
    (∀ g pos sweep, r.link.line = .sending (.poll g pos sweep) →
      exec (.doorLinkFrameSent f) s = .next { s with part := s.part.modFace f fun r => r.modLink fun l =>
        { l with line := .awaiting pos sweep false, replyTimer := some r.params.tReply } }) ∧
    (∀ fr, r.link.line = .sending fr → (∀ g pos sweep, fr ≠ .poll g pos sweep) →
      exec (.doorLinkFrameSent f) s =
        .next { s with part := s.part.modFace f (fun r => linkPump (r.modLink fun l => { l with line := .idle })) }) ∧
    ((∀ fr, r.link.line ≠ .sending fr) → exec (.doorLinkFrameSent f) s = .next s)

/-- What a free line begins while RUNNING: the next poll when one is due after four other frames; otherwise the STOP
frame, the MOVE at the head of its queue, the resend at the head of its queue, the CUE of the lowest door with a
pending cue, the SYNC, and last the next poll when one is due; each frame but a poll adds one to the non-poll run
while a poll is due, and a poll returns it to 0 and moves the poll position on (R69, R70, R72). A busy line begins
nothing. That the poll position moves on and a pending frame is dropped when the frame's transmission begins, and not
when it ends, is read from the rules (assumption 11). -/
def Obligations.FramePriority : Prop :=
  ∀ r : FaceRec,
    let q := linkPump r
    (r.link.line ≠ .idle → q = r) ∧
    (r.link.line = .idle → r.link.state = .running →
      let poll := q.link.line = .sending (.poll r.link.g r.link.pollPos false) ∧ q.link.nonPoll = 0 ∧
        q.link.pollPos = if r.link.pollPos + 1 ≥ r.n then 0 else r.link.pollPos + 1
      let counts := q.link.nonPoll = (if r.link.pollDue = true then r.link.nonPoll + 1 else r.link.nonPoll) ∧
        q.link.pollPos = r.link.pollPos
      (r.link.pollDue = true → 4 ≤ r.link.nonPoll → poll) ∧
      (r.link.pollDue = false ∨ r.link.nonPoll < 4 →
        (r.link.stopFrame ≠ [] → counts ∧ q.link.stopFrame = [] ∧
          q.link.line = .sending (.stop r.link.g (r.link.stopFrame.map fun d => (d, q.health[d].lastId)))) ∧
        (r.link.stopFrame = [] →
          (∀ m rest, r.link.moveQ = m :: rest → counts ∧ q.link.moveQ = rest ∧
            ∃ ts, q.link.line = .sending (.move r.link.g m.action ts)) ∧
          (∀ x rest, r.link.moveQ = [] → r.link.resendQ = x :: rest → counts ∧ q.link.resendQ = rest ∧
            q.link.line = .sending (if x.action = .stop then .stop r.link.g [(x.door, x.id)]
              else .move r.link.g x.action [(⟨x.door, x.speed, x.force⟩, x.id)])) ∧
          (∀ c, r.link.moveQ = [] → r.link.resendQ = [] → r.nextCue = some c → counts ∧
            ∃ ds, q.link.line = .sending (.cue r.link.g ds c) ∧
              ∀ d : DoorIx, d ∈ ds ↔ r.health[d].health ≠ .lost ∧ r.health[d].pendingCue = some c) ∧
          (∀ ph m, r.link.moveQ = [] → r.link.resendQ = [] → r.nextCue = none → r.link.sync = some (ph, m) →
            counts ∧ q.link.sync = none ∧ q.link.line = .sending (.sync r.link.g ph m)) ∧
          (r.link.moveQ = [] → r.link.resendQ = [] → r.nextCue = none → r.link.sync = none →
            (r.link.pollDue = true → poll) ∧ (r.link.pollDue = false → q = r)))))

/-- Command ids and their confirmation. When a STOP or MOVE frame begins each of its targets takes the id after its last
one, from 0 or 15 to 1, which the frame carries; that id and the action are awaited with no resend and no confirm poll,
judged at the next poll, and every other door's health entry stays (R66; stated for target lists without repeats, as the
placing of frames makes them). A resend that begins gives no id, and one of the awaited id makes the next poll judge it
again. When the poll of a door begins, its confirm mark is set just where a frame carrying the awaited id was sent since a
reply was last judged, so not while its resend waits, nor where a newer frame has dropped it unsent; no other part of an
entry changes (R67). At an accepted reply the confirmation is NONE with nothing awaited; WAITING, with nothing changed,
without the confirm mark; CONFIRMED at the awaited id; at another id WAITING with a directed resend up to the second, the
command judged no more until a frame of its id is sent, and FAILED after it, or at once for a CLOSE_LOCK while the face is
in FIRE (R67). That the id is given and awaited, and the confirm mark set, when the frame's transmission begins is read
from the rules (assumption 11), and the record of a frame since the last judgement is the model's own (assumption 39). -/
def Obligations.CommandIds : Prop :=
  (∀ (r : FaceRec) (d : DoorIx),
    let next := if r.health[d].lastId ≥ 15 then 1 else r.health[d].lastId + 1
    (r.link.stopFrame.Nodup →
      (d ∈ r.link.stopFrame → (sendStop r).health[d] =
        { r.health[d] with lastId := next, awaited := some ⟨.stop, next, 0, 0, true⟩, resends := 0, confirm := false } ∧
        next ≠ r.health[d].lastId) ∧
      (d ∉ r.link.stopFrame → (sendStop r).health[d] = r.health[d])) ∧
    (∀ (m : MoveFrame) (rest : List MoveFrame), (m.targets.map MoveTarget.door).Nodup →
      (∀ t ∈ m.targets, t.door = d → (sendMove m rest r).health[d] =
        { r.health[d] with lastId := next, awaited := some ⟨m.action, next, t.speed, t.force, true⟩, resends := 0,
                           confirm := false } ∧
        ∃ ts, (sendMove m rest r).link.line = .sending (.move r.link.g m.action ts) ∧ (t, next) ∈ ts) ∧
      ((∀ t ∈ m.targets, t.door ≠ d) → (sendMove m rest r).health[d] = r.health[d])) ∧
    (∀ (x : Resend) (rest : List Resend),
      (∀ a, x.door = d → r.health[d].awaited = some a → a.id = x.id →
        (sendResend x rest r).health[d] = { r.health[d] with awaited := some { a with due := true } }) ∧
      (x.door ≠ d ∨ (∀ a, r.health[d].awaited = some a → a.id ≠ x.id) →
        (sendResend x rest r).health[d] = r.health[d])) ∧
    (r.link.line = .idle → r.link.state = .running →
      (linkPump r).link.line = .sending (.poll r.link.g r.link.pollPos false) →
      { (linkPump r).health[d] with confirm := r.health[d].confirm } = r.health[d] ∧
      ((linkPump r).health[d].confirm = true ↔
        if d.val = r.link.pollPos then ∃ a, r.health[d].awaited = some a ∧ a.due = true
        else r.health[d].confirm = true))) ∧
  ∀ (inFire : Bool) (d : DoorIx) (id : Nat) (h : Health),
    (h.awaited = none → confirmReply inFire d id h = (.none, h, none)) ∧
    (∀ a, h.awaited = some a →
      (h.confirm = false → confirmReply inFire d id h = (.waiting, h, none)) ∧
      (h.confirm = true → id = a.id →
        confirmReply inFire d id h = (.confirmed, { h with awaited := none, resends := 0, confirm := false }, none)) ∧
      (h.confirm = true → id ≠ a.id → h.resends < 2 → ¬ (inFire = true ∧ a.action = .closeLock) →
        confirmReply inFire d id h =
          (.waiting, { h with awaited := some { a with due := false }, resends := h.resends + 1, confirm := false },
          some ⟨d, a.action, a.id, a.speed, a.force⟩)) ∧
      (h.confirm = true → id ≠ a.id → 2 ≤ h.resends ∨ (inFire = true ∧ a.action = .closeLock) →
        confirmReply inFire d id h = (.failed, { h with awaited := none, resends := 0, confirm := false }, none)))

/-- A STATUS reply laid out as section 4.10 says is judged to be just what it carries, and with another generation,
position or check value it is not accepted (R63, R74). The check value is the CRC in the bit order and without the
complement that section 4.10 does not give (assumption 31, PRESUMED): that a given reply is accepted is the model's
choice. -/
def Obligations.StatusRoundTrip : Prop :=
  ∀ (g pos leaf id : Nat) (type : Byte) (m : Motion) (k : Key) (u : UnitFault)
    (locked closed pulled inner outer : Bool), g ≤ 255 → pos ≤ 31 → leaf ≤ 1000 → id ≤ 15 →
    let body := u8 pos ++ [type] ++ u16 leaf ++ u8 m.ctorIdx ++ flags [locked, closed, pulled, inner, outer] ++
      u8 k.ctorIdx ++ u8 (16 * id + u.ctorIdx)
    judgeReply g pos (linkEnvelope 0x80 g body) =
      some ⟨⟨type, leaf, m, locked, closed, pulled, k, id, u, .none⟩, inner, outer⟩ ∧
    (∀ g', g' ≤ 255 → g' ≠ g → judgeReply g' pos (linkEnvelope 0x80 g body) = none) ∧
    (∀ pos', pos' ≤ 31 → pos' ≠ pos → judgeReply g pos' (linkEnvelope 0x80 g body) = none) ∧
    (∀ x y : Byte, [x, y] ≠ linkCrc (10 :: 0x80 :: byteOf g :: body) →
      judgeReply g pos (0xA5 :: 10 :: 0x80 :: byteOf g :: body ++ [x, y]) = none)

/-- A reply to a poll while RUNNING: an accepted one makes the door OK with no miss; at a RELEASED door it is stored
as the latest report with its confirmation result and changes no state; a handle PULLED releases any other door, its
latch set, without order, and out of the start machinery, and a new setting is told of by a RELEASE report unless
reports have been lost (R135). A reply that is not accepted, or is of another unit type,
makes an OK door LATE, a LATE one LOST with its LINK report, and gives a LOST one its reason anew. Bytes that come
outside a poll change nothing, and a LEN that is not a STATUS reply's makes the frame bad: the bytes that follow
change nothing (R63, R64, R65, R74, R78, R79). In STANDBY an accepted reply whose report differs from the door's latest
one wakes the face to AUTO, or to LOCAL under a local request, and starts a wake round of n polls; one that does not
differ leaves it in STANDBY (R153; that the waking poll is not counted is assumption 26, DEDUCED; the rest stated with no
operation in flight). While enumerating, an accepted reply makes the
door OK and is its first report, which classifies it; one of another unit type makes it LOST; and the next position is
polled, or the sweep begins. While sweeping, a good reply of any type joins the extra list, and the poll position is
the position then polled, up to 31 (R61, R77, R83; assumption 11: the model's reading), the non-poll run staying as it
stands (assumption 48: the model's choice). The classification is stated outside FIRE, for a reply with its outer beam
clear and a door that is not queued. -/
def Obligations.ReplyTaken : Prop :=
  ∀ (f : Face) (bytes : List Byte) (s : State), s.Settled → s.part.present f = true →
    let r := s.part.face f
    ((∀ pos sweep bad, r.link.line ≠ .awaiting pos sweep bad) →
      exec (.statusReplyReceived f bytes) s = .next s) ∧
    (∀ (pos : Nat) (sweep : Bool),
      (r.link.line = .awaiting pos sweep true → exec (.statusReplyReceived f bytes) s = .next s) ∧
      (∀ len, r.link.line = .awaiting pos sweep false → bytes.head? = some 0xA5 → bytes[1]? = some len → len ≠ 10 →
        exec (.statusReplyReceived f bytes) s = .next { s with part := s.part.modFace f fun r => r.modLink fun l =>
          { l with line := .awaiting pos sweep true } })) ∧
    (∀ (d : DoorIx) (why : LostReason), r.link.state = .running →
      r.link.line = .awaiting d.val false false → bytes.length = 14 → bytes.head? = some 0xA5 → bytes[1]? = some 10 →
      (judgeReply r.link.g d.val bytes = none ∧ why = .noAnswer) ∨
        (∃ st, judgeReply r.link.g d.val bytes = some st ∧ st.report.unitType ≠ 0x2D ∧ why = .wrongType) →
      ∃ t, exec (.statusReplyReceived f bytes) s = .next t ∧
        (r.health[d].health = .ok → r.MadeLate d (t.part.face f)) ∧
        (r.health[d].health = .late → s.part.MadeLost f d why (s.host.tx ≠ .idle) t.part) ∧
        (r.health[d].health = .lost → (t.part.face f).health[d].health = .lost ∧
          (t.part.face f).health[d].reason = some why ∧ (t.part.face f).doors[d].state = r.doors[d].state ∧
          (t.part.face f).doors[d].report = r.doors[d].report)) ∧
    (∀ (d : DoorIx) (st : StatusReply), r.link.state = .running →
      r.link.line = .awaiting d.val false false → bytes.length = 14 → bytes.head? = some 0xA5 → bytes[1]? = some 10 →
      judgeReply r.link.g d.val bytes = some st → st.report.unitType = 0x2D → r.doors[d].state = .released →
      r.doors[d].latch = true → r.configured d = true → r.mode.mode ≠ .standby → s.part.outOfMachinery f d →
      ∃ t, exec (.statusReplyReceived f bytes) s = .next t ∧
        (t.part.face f).health[d].health = .ok ∧ (t.part.face f).health[d].miss = 0 ∧
        (t.part.face f).doors[d].state = .released ∧ (t.part.face f).doors[d].latch = true ∧
        (t.part.face f).doors[d].report =
          some { st.report with confirm := (confirmReply r.inFire d st.report.lastId r.health[d]).1 } ∧
        (t.part.face f).doors[d].keyIso = decide (st.report.key ≠ .auto)) ∧
    (∀ (d : DoorIx) (st : StatusReply), r.link.state = .running →
      r.link.line = .awaiting d.val false false → bytes.length = 14 → bytes.head? = some 0xA5 → bytes[1]? = some 10 →
      judgeReply r.link.g d.val bytes = some st → st.report.unitType = 0x2D → st.report.pulled = true →
      r.configured d = true → r.doors[d].state ≠ .released →
      ∃ t, exec (.statusReplyReceived f bytes) s = .next t ∧
        (t.part.face f).health[d].health = .ok ∧ (t.part.face f).doors[d].state = .released ∧
        (t.part.face f).doors[d].latch = true ∧ (t.part.face f).doors[d].order = none ∧
        (t.part.face f).doors[d].partialOpen = false ∧ t.part.outOfMachinery f d ∧
        (r.doors[d].latch = false → t.lossy ∨ ∃ x, t.tells (.release f x) ∧ x.door = d ∧ x.prev = r.doors[d].state ∧
          x.pos = st.report.pos ∧ x.motion = st.report.motion ∧ x.locked = st.report.locked ∧
          x.closed = st.report.closed ∧ x.berth = r.berth.state ∧ x.dwell = r.berth.dwell)) ∧
    (∀ (d : DoorIx) (st : StatusReply) (old : DoorReport), r.link.state = .running → r.mode.mode = .standby →
      r.link.pace = .standby → r.link.line = .awaiting d.val false false → bytes.length = 14 →
      bytes.head? = some 0xA5 → bytes[1]? = some 10 → judgeReply r.link.g d.val bytes = some st →
      st.report.unitType = 0x2D → r.configured d = true → r.op = none → r.doors[d].report = some old →
      let differs := ({ st.report with confirm := .none } : DoorReport) ≠ { old with confirm := .none }
      ∃ t, exec (.statusReplyReceived f bytes) s = .next t ∧ (t.part.face f).health[d].health = .ok ∧
        (t.part.face f).doors[d].report =
          some { st.report with confirm := (confirmReply false d st.report.lastId r.health[d]).1 } ∧
        (differs → (t.part.face f).mode.wakeRound = true ∧ (t.part.face f).link.pace = .wake ∧
          (t.part.face f).link.wakeCount = r.n ∧ (t.part.face f).link.standbyTimer = none ∧
          (r.localReq = false → r.mode.handover = false → (t.part.face f).mode.mode = .auto) ∧
          (r.localReq = true → (t.part.face f).mode.mode = .localCtl ∨
            ((t.part.face f).mode.mode = .auto ∧ (t.part.face f).mode.handover = true))) ∧
        (¬ differs → (t.part.face f).mode.mode = .standby ∧ (t.part.face f).link.pace = .standby ∧
          (t.part.face f).mode.wakeRound = r.mode.wakeRound ∧
          ((t.part.face f).link.round = true ↔ r.link.round = true ∧ d.val + 1 < r.n))) ∧
    (∀ (d : DoorIx) (st : StatusReply), r.link.state = .enumerating → r.link.line = .awaiting d.val false false →
      bytes.length = 14 → bytes.head? = some 0xA5 → bytes[1]? = some 10 →
      judgeReply r.link.g d.val bytes = some st → r.configured d = true →
      ∃ t, exec (.statusReplyReceived f bytes) s = .next t ∧ r.Advances d (t.part.face f) ∧
        (st.report.unitType = 0x2D → (t.part.face f).health[d].health = .ok ∧ (t.part.face f).health[d].miss = 0 ∧
          (t.part.face f).doors[d].report = some { st.report with confirm := .none } ∧
          (t.part.face f).doors[d].keyIso = decide (st.report.key ≠ .auto) ∧
          (r.doors[d].state = .unknown → r.mode.mode ≠ .fire → st.outer = false →
            (∀ e ∈ s.part.arb.queue, e.ref ≠ ⟨f, d⟩) → Classified r.doors[d] st.report (t.part.face f).doors[d])) ∧
        (st.report.unitType ≠ 0x2D → (t.part.face f).health[d].health = .lost ∧
          (t.part.face f).health[d].reason = some .wrongType ∧ (t.part.face f).doors[d].state = .lost ∧
          t.part.outOfMachinery f d)) ∧
    (∀ (pos : Nat) (st : StatusReply), r.link.state = .sweeping → r.link.line = .awaiting pos true false →
      bytes.length = 14 → bytes.head? = some 0xA5 → bytes[1]? = some 10 →
      judgeReply r.link.g pos bytes = some st → pos < 31 →
      exec (.statusReplyReceived f bytes) s = .next { s with part := s.part.modFace f fun r => r.modLink fun l =>
        { l with extra := l.extra ++ [(pos, st.report.unitType)], pollPos := pos + 1, replyTimer := none,
                 line := .sending (.poll l.g (pos + 1) true) } })

/-- The accepted report of a door while RUNNING (R64, R67): it is the latest report, with its confirmation result, and
key isolation takes its key. A door that is UNKNOWN or LOST is classified by it (R77); of any other, the first line of
R78 that holds decides, down to the rule of its state for a leaf at rest, opening, closing, obstructed or reversing
(R80, R81, R87, R88, R90, R91, R92). A report that shows enough travel takes an opening or closing door out of the
starting set (R85). Of two conditions of a state's rule that hold of one report, such as CLOSING closed and STALLED,
or OPENING full and LOCKED, the first stated is taken (assumption 13: the model's reading). Stated at every
pace, outside FIRE, for a reply with its outer beam clear, which gives no gap reopen, and a door not both queued and
starting. -/
def Obligations.ReportJudged : Prop :=
  ∀ (f : Face) (d : DoorIx) (bytes : List Byte) (st : StatusReply) (s : State), s.Settled → s.part.present f = true →
    (s.part.face f).configured d = true → (s.part.face f).link.state = .running →
    (s.part.face f).link.line = .awaiting d.val false false →
    bytes.length = 14 → bytes.head? = some 0xA5 → bytes[1]? = some 10 →
    judgeReply (s.part.face f).link.g d.val bytes = some st → st.report.unitType = 0x2D → st.outer = false →
    (s.part.face f).mode.mode ≠ .fire →
    (∀ e ∈ s.part.arb.queue, e.ref ≠ ⟨f, d⟩) ∨ (⟨f, d⟩ : DoorRef) ∉ s.part.arb.starting →
    let r := s.part.face f
    let x := r.doors[d]
    let rep := { st.report with confirm := (confirmReply false d st.report.lastId r.health[d]).1 }
    ∃ t, exec (.statusReplyReceived f bytes) s = .next t ∧
      let y := (t.part.face f).doors[d]
      y.report = some rep ∧ y.keyIso = decide (rep.key ≠ .auto) ∧
      (x.state = .unknown ∨ x.state = .lost → Classified x rep y) ∧
      (x.state ≠ .unknown → x.state ≠ .lost → Judged r.params x rep y) ∧
      (y.state = .unlocking ∨ y.state = .opening → 100 ≤ rep.pos → (⟨f, d⟩ : DoorRef) ∉ t.part.arb.starting) ∧
      (y.state = .closing ∨ y.state = .proving → rep.pos ≤ 900 → (⟨f, d⟩ : DoorRef) ∉ t.part.arb.starting)

/-- The reply timer's expiry while RUNNING ends the poll unanswered: a door that was OK is LATE with one miss, a door
that was LATE is LOST for NO_ANSWER, enters LOST, and a LINK LOST report tells of it (R63, R65, R83). Outside a poll,
or with the timer stopped, it changes nothing (assumption 4: the model's choice). Stated at normal pace. In pace WAKE
the poll lowers the wake count, and the last one ends the wake round: pace NORMAL, and a held notice gives way to a
new test of the record as it stands (R71, R154; the notice that then waits is assumption 20; stated outside STANDBY,
the notice with no handover PENDING). While enumerating the door is LOST directly and the next position is polled; the
sweep passes over the position, the poll position going on with it up to 31 (assumption 11: the model's reading) and
the non-poll run staying as it stands (assumption 48: the model's choice), and after position 31 one LINK report of
the enumeration is queued, the link is RUNNING with its flash timer started, and a face that is to enter AUTO enters
it, or FIRE while fire is in force (R61, R151; AUTO stated without a local request). -/
def Obligations.PollMissed : Prop :=
  ∀ (f : Face) (s : State), s.Settled → s.part.present f = true →
    let r := s.part.face f
    ((∀ pos sweep bad, r.link.line ≠ .awaiting pos sweep bad) ∨ r.link.replyTimer = none →
      exec (.replyTimerExpiry f) s = .next s) ∧
    (∀ (d : DoorIx) (bad : Bool), r.link.state = .running → r.link.pace = .normal →
      r.link.line = .awaiting d.val false bad → r.link.replyTimer ≠ none →
      (r.health[d].health = .ok → ∃ t, exec (.replyTimerExpiry f) s = .next t ∧ r.MadeLate d (t.part.face f)) ∧
      (r.health[d].health = .late → ∃ t, exec (.replyTimerExpiry f) s = .next t ∧
        s.part.MadeLost f d .noAnswer (s.host.tx ≠ .idle) t.part)) ∧
    (∀ (d : DoorIx) (bad : Bool), r.link.state = .running → r.link.pace = .wake → r.mode.mode ≠ .standby →
      r.link.line = .awaiting d.val false bad → r.link.replyTimer ≠ none →
      ∃ t, exec (.replyTimerExpiry f) s = .next t ∧
        (2 ≤ r.link.wakeCount → (t.part.face f).link.pace = .wake ∧
          (t.part.face f).link.wakeCount = r.link.wakeCount - 1 ∧
          (t.part.face f).mode.wakeRound = r.mode.wakeRound) ∧
        (r.link.wakeCount ≤ 1 → (t.part.face f).link.pace = .normal ∧ (t.part.face f).link.wakeCount = 0 ∧
          (t.part.face f).mode.wakeRound = false ∧ (t.part.face f).mode.heldNotice = false ∧
          (r.mode.handover = false →
            (r.mode.heldNotice = true → ((t.part.face f).notice = true ↔ r.OpensItself r.align)) ∧
            (r.mode.heldNotice = false → (t.part.face f).notice = r.notice)))) ∧
    (∀ (d : DoorIx) (bad : Bool), r.link.state = .enumerating → r.link.line = .awaiting d.val false bad →
      r.link.replyTimer ≠ none → r.configured d = true →
      ∃ t, exec (.replyTimerExpiry f) s = .next t ∧ r.Advances d (t.part.face f) ∧
        (t.part.face f).health[d].health = .lost ∧ (t.part.face f).health[d].reason = some .noAnswer ∧
        (t.part.face f).doors[d].state = .lost ∧ t.part.outOfMachinery f d) ∧
    (∀ (pos : Nat) (bad : Bool), r.link.state = .sweeping → r.link.line = .awaiting pos true bad →
      r.link.replyTimer ≠ none →
      (pos < 31 → exec (.replyTimerExpiry f) s = .next { s with part := s.part.modFace f fun r => r.modLink fun l =>
        { l with pollPos := pos + 1, replyTimer := none, line := .sending (.poll l.g (pos + 1) true) } }) ∧
      (31 ≤ pos → ∃ t, exec (.replyTimerExpiry f) s = .next t ∧ (t.part.face f).link.state = .running ∧
        (t.part.face f).link.pace = .normal ∧ (t.part.face f).link.flashTimer = some 125 ∧
        (s.host.tx ≠ .idle → s.part.reports.length < 64 → ∃ lost,
          (.linkEnumerated f ⟨r.link.enumTag, r.link.g, r.n,
            (allDoors.filter fun d => r.configured d && decide (r.health[d].health = .ok)).length, lost,
            r.link.extra⟩ : Report) ∈ t.part.reports ∧
          ∀ d why, (d, why) ∈ lost ↔
            r.configured d = true ∧ r.health[d].health = .lost ∧ r.health[d].reason = some why) ∧
        (r.mode.toAuto = false → (t.part.face f).mode.mode = r.mode.mode ∨ r.mode.handover = true) ∧
        (r.mode.toAuto = true → r.mode.mode = .unconfigured ∨ r.mode.mode = .maint →
          (t.part.face f).mode.toAuto = false ∧
          (s.part.fire.cause ≠ none → (t.part.face f).mode.mode = .fire) ∧
          (s.part.fire.cause = none → r.localReq = false → r.mode.handover = false →
            (t.part.face f).mode.mode = .auto))))

/-! ### The doors and the face sequencer (chapters 5 and 6) -/

/-- An OPEN is taken: OPEN_FACE, with or without a mask, in AUTO on an ALIGNED face, or a MARGINAL one with marginal
acceptance; the automatic-opening notice on an ALIGNED face in AUTO; P_OPEN in LOCAL, by verdict without P_ALL and for
every closed door that is not isolated with it. Each selected door is queued to open, and no other door of the face
moves; an OPEN that selects no door serves the berth and has ended at once (R54, R102, R103, R158). The gap state becomes
PENDING when a selected door is UNLOCKING, and stays while all of them are queued (R127). Stated with no
operation in flight and no other start of the face queued. The notice as a command is taken where one was handed on
and the test of R55 still holds; without one it changes nothing, and one whose train has since been served, has moved
or is not to be opened is dropped (R55; assumption 20: the model's choice). An OPEN that finds a CLOSE in flight in
SERVING overtakes it: the doors on the way shut are turned back and the CLOSE ends (R92, R109); that a door turned
back by its reversal then has no movement order is assumption 12: the model's reading. -/
def Obligations.OpeningTaken : Prop :=
  (∀ (tag flag m1 m2 m3 : Byte) (f : Face) (s : State), s.HostFree → (∀ f, (s.part.face f).Settled) →
    s.part.present f = true → s.part.queueFree f → (s.part.face f).ReadyToOpen →
    (s.part.face f).mode.mode = .auto → (s.part.face f).mode.handover = false → flag.getLsbD 1 = false →
    (s.part.face f).align.status = .aligned ∨
      ((s.part.face f).align.status = .marginal ∧ flag.getLsbD 0 = true) →
    ∃ q, exec (.openFace tag [faceCode f, flag, m1, m2, m3]) s =
        .next (s.answered ⟨0xA2, tag, .accepted, 0, 0, []⟩ q) ∧
      OpenTaken .host tag (s.part.face f).byVerdict (s.part.face f) (q.face f)) ∧
  (∀ (tag flag m1 m2 m3 : Byte) (f : Face) (s : State), s.HostFree → (∀ f, (s.part.face f).Settled) →
    s.part.present f = true → s.part.queueFree f → (s.part.face f).ReadyToOpen →
    (s.part.face f).mode.mode = .auto → (s.part.face f).mode.handover = false → flag.getLsbD 1 = true →
    (s.part.face f).align.status = .aligned ∨
      ((s.part.face f).align.status = .marginal ∧ flag.getLsbD 0 = true) →
    let mask (d : DoorIx) : Bool := (65536 * m1.toNat + 256 * m2.toNat + m3.toNat).testBit d.val
    (∃ d, (s.part.face f).configured d = true ∧ mask d = true) →
    (∀ d : DoorIx, (s.part.face f).configured d = true → mask d = true → (s.part.face f).doors[d].verdict = .vMatch) →
    ∃ q, exec (.openFace tag [faceCode f, flag, m1, m2, m3]) s =
        .next (s.answered ⟨0xA2, tag, .accepted, 0, 0, []⟩ q) ∧
      OpenTaken .host tag (fun d => (s.part.face f).byVerdict d && mask d) (s.part.face f) (q.face f)) ∧
  (∀ (tag flag m1 m2 m3 : Byte) (f : Face) (op : Op) (s : State), s.HostFree → (∀ f, (s.part.face f).Settled) →
    s.part.present f = true → s.part.queueFree f → (s.part.face f).enumerating = false →
    (s.part.face f).op = some op → op.kind = .close → (s.part.face f).berth.state = .serving →
    (s.part.face f).mode.mode = .auto → (s.part.face f).mode.handover = false → flag.getLsbD 1 = false →
    (s.part.face f).align.status = .aligned ∨
      ((s.part.face f).align.status = .marginal ∧ flag.getLsbD 0 = true) →
    ∃ q, exec (.openFace tag [faceCode f, flag, m1, m2, m3]) s =
        .next (s.answered ⟨0xA2, tag, .accepted, 0, 0, []⟩ q) ∧
      OvertakenByOpen .host tag (s.part.face f).byVerdict (fun _ => true) (s.part.face f) (q.face f)) ∧
  (∀ (f : Face) (s : State), s.Settled → s.part.present f = true →
    ((s.part.face f).notice = false → exec (.automaticOpeningNotice f) s = .next s) ∧
    ((s.part.face f).notice = true → ¬ (s.part.face f).OpensItself (s.part.face f).align →
      exec (.automaticOpeningNotice f) s =
        .next { s with part := s.part.modFace f fun r => { r with notice := false } }) ∧
    ((s.part.face f).notice = true → (s.part.face f).OpensItself (s.part.face f).align → s.part.queueFree f →
      (s.part.face f).ReadyToOpen → (s.part.face f).mode.handover = false →
      ∃ t, exec (.automaticOpeningNotice f) s = .next t ∧ (t.part.face f).notice = false ∧
        OpenTaken .auto 0 (s.part.face f).byVerdict (s.part.face f) (t.part.face f))) ∧
  (∀ (f : Face) (s : State), s.Settled → s.part.present f = true → s.part.queueFree f →
    (s.part.face f).ReadyToOpen → (s.part.face f).mode.mode = .localCtl →
    (s.part.face f).mode.panel.pOpen.Accepts (s.part.face f).params.fPanel true →
    ((s.part.face f).mode.panel.pAll.reads = false →
      (s.part.face f).align.status = .aligned ∨ (s.part.face f).align.status = .marginal →
      ∃ t, exec (.pOpenEdge f true) s = .next t ∧
        OpenTaken .panel 0 (s.part.face f).byVerdict (s.part.face f) (t.part.face f) ∧
        (t.part.face f).mode.panel.pOpen = .taken true) ∧
    ((s.part.face f).mode.panel.pAll.reads = true →
      ∃ t, exec (.pOpenEdge f true) s = .next t ∧
        OpenTaken .panelAll 0 (fun d => (s.part.face f).configured d &&
          decide ((s.part.face f).doors[d].state = .closedLocked) && decide ((s.part.face f).doors[d].iso = .none))
          (s.part.face f) (t.part.face f) ∧
        (t.part.face f).mode.panel.pOpen = .taken true))

/-- The checks an OPEN_FACE can fail, in their order: enumeration BUSY, the mode, an operation in flight BUSY, no
train NO_TRAIN, a face that is not openable NOT_ALIGNED, a mask that names no configured door BAD_VALUE with entry 255,
and one that names a door without verdict MATCH NOT_ALIGNED. A refusal changes nothing (R54, R102). -/
def Obligations.OpeningRefused : Prop :=
  ∀ (tag flag m1 m2 m3 : Byte) (f : Face) (s : State), s.HostFree → (∀ f, (s.part.face f).Settled) →
    s.part.present f = true →
    let r := s.part.face f
    let i := Instr.openFace tag [faceCode f, flag, m1, m2, m3]
    let auto := r.mode.mode = .auto ∧ r.mode.handover = false
    (r.enumerating = true → Unchanged i .openFace tag .busy 0 s) ∧
    (r.enumerating = false → r.mode.mode = .unconfigured ∨ r.mode.mode = .maint ∨ r.mode.mode = .standby →
      Unchanged i .openFace tag .wrongMode 0 s) ∧
    (r.enumerating = false → r.mode.mode = .localCtl → Unchanged i .openFace tag .localControl 0 s) ∧
    (r.enumerating = false → r.mode.mode = .fire → Unchanged i .openFace tag .fireActive 0 s) ∧
    (r.enumerating = false → r.mode.mode = .auto → r.mode.handover = true →
      Unchanged i .openFace tag .localPending 0 s) ∧
    (r.enumerating = false → auto → ∀ op, r.op = some op → op.kind = .opn ∨ r.berth.state ≠ .serving →
      Unchanged i .openFace tag .busy 0 s) ∧
    (r.enumerating = false → auto → r.op = none →
      r.berth.state = .empty ∨ r.berth.state = .announced ∨ r.berth.state = .arriving ∨
        r.berth.state = .unreckoned ∨ r.berth.state = .departing → Unchanged i .openFace tag .noTrain 0 s) ∧
    (r.enumerating = false → auto → r.op = none →
      r.berth.state = .stopped ∨ r.berth.state = .serving ∨ r.berth.state = .cleared ∨ r.berth.state = .rolling →
      r.align.status ≠ .aligned → r.align.status ≠ .marginal ∨ flag.getLsbD 0 = false →
      Unchanged i .openFace tag .notAligned 0 s) ∧
    (r.enumerating = false → auto → r.op = none →
      r.berth.state = .stopped ∨ r.berth.state = .serving ∨ r.berth.state = .cleared ∨ r.berth.state = .rolling →
      r.align.status = .aligned ∨ (r.align.status = .marginal ∧ flag.getLsbD 0 = true) → flag.getLsbD 1 = true →
      let mask (d : DoorIx) : Bool := (65536 * m1.toNat + 256 * m2.toNat + m3.toNat).testBit d.val
      ((∀ d : DoorIx, r.configured d = true → mask d = false) → Unchanged i .openFace tag .badValue 255 s) ∧
      ((∃ d : DoorIx, r.configured d = true ∧ mask d = true ∧ r.doors[d].verdict ≠ .vMatch) →
        Unchanged i .openFace tag .notAligned 0 s))

/-- A CLOSE is taken, by CLOSE_FACE in AUTO or by P_CLOSE in LOCAL without P_ALL, on a face with a door standing open:
the warning runs and each open door that is not isolated is in PRE_CLOSE; CLOSE_FACE is refused by enumeration, mode
and a CLOSE in flight (R105, R158). Taking is stated with no operation in flight and no start of the face queued. A
CLOSE that finds an OPEN in flight overtakes it: each opening door too is in PRE_CLOSE, and a door still queued to
open, where no door of the face is starting, is back in CLOSED_LOCKED (R84, R93, R108). P_CLOSE with P_ALL is the
panel door-reset: each RELEASED door whose latest report shows handle NORMAL, closed and locked loses its latch and is
CLOSED_LOCKED, in LOCAL as in FIRE under a local request, where one that may be opened in fire is queued to open;
every other door stays (R95, R138, R144, R158; in FIRE stated for a door that is not queued, the opening with no
operation in flight). -/
def Obligations.ClosingTaken : Prop :=
  ∀ (f : Face) (s : State), (∀ f, (s.part.face f).Settled) → s.part.present f = true →
    let r := s.part.face f
    (∀ tag : Byte, s.HostFree →
      (r.ReadyToClose → s.part.queueFree f → r.mode.mode = .auto → r.mode.handover = false →
        ∃ q, exec (.closeFace tag [faceCode f]) s = .next (s.answered ⟨0xA3, tag, .accepted, 0, 0, []⟩ q) ∧
          CloseTaken .host tag r (q.face f)) ∧
      (r.enumerating = false → r.mode.mode = .auto → r.mode.handover = false → ∀ op, r.op = some op → op.kind = .opn →
        ((∃ d : DoorIx, r.configured d = true ∧ r.doors[d].iso = .none ∧
          (r.doors[d].state = .unlocking ∨ r.doors[d].state = .opening ∨ r.doors[d].state = .opened)) →
          s.part.queueFree f → ∃ q, exec (.closeFace tag [faceCode f]) s =
              .next (s.answered ⟨0xA3, tag, .accepted, 0, 0, []⟩ q) ∧ CloseTaken .host tag r (q.face f)) ∧
        ((∀ x ∈ s.part.arb.starting, x.face ≠ f) → ∃ q, exec (.closeFace tag [faceCode f]) s =
            .next (s.answered ⟨0xA3, tag, .accepted, 0, 0, []⟩ q) ∧
          (∀ x, (q.face f).op = some x → x.kind = .close ∧ x.tag = tag) ∧
          ∀ d : DoorIx, r.configured d = true → r.doors[d].state = .openQueued →
            (∀ o, r.doors[d].order = some o → o.fromOpen = false) →
            (q.face f).doors[d].state = .closedLocked ∧ (q.face f).doors[d].order = none ∧
              q.outOfMachinery f d)) ∧
      (r.enumerating = true → Unchanged (.closeFace tag [faceCode f]) .closeFace tag .busy 0 s) ∧
      (r.enumerating = false → r.mode.mode = .unconfigured ∨ r.mode.mode = .maint ∨ r.mode.mode = .standby →
        Unchanged (.closeFace tag [faceCode f]) .closeFace tag .wrongMode 0 s) ∧
      (r.enumerating = false → r.mode.mode = .localCtl →
        Unchanged (.closeFace tag [faceCode f]) .closeFace tag .localControl 0 s) ∧
      (r.enumerating = false → r.mode.mode = .fire →
        Unchanged (.closeFace tag [faceCode f]) .closeFace tag .fireActive 0 s) ∧
      (r.enumerating = false → r.mode.mode = .auto → r.mode.handover = true →
        Unchanged (.closeFace tag [faceCode f]) .closeFace tag .localPending 0 s) ∧
      (r.enumerating = false → r.mode.mode = .auto → r.mode.handover = false →
        ∀ op, r.op = some op → op.kind = .close →
        Unchanged (.closeFace tag [faceCode f]) .closeFace tag .busy 0 s)) ∧
    (s.Settled → r.ReadyToClose → s.part.queueFree f → r.mode.mode = .localCtl →
      r.mode.panel.pClose.Accepts r.params.fPanel true → r.mode.panel.pAll.reads = false →
      ∃ t, exec (.pCloseEdge f true) s = .next t ∧ CloseTaken .panel 0 r (t.part.face f) ∧
        (t.part.face f).mode.panel.pClose = .taken true) ∧
    (s.Settled → r.mode.panel.pClose.Accepts r.params.fPanel true → r.mode.panel.pAll.reads = true →
      r.mode.mode = .localCtl ∨ (r.mode.mode = .fire ∧ r.localReq = true) →
      let restored (d : DoorIx) := r.configured d = true ∧ r.doors[d].state = .released ∧
        ∃ rep, r.doors[d].report = some rep ∧ rep.pulled = false ∧ rep.closed = true ∧ rep.locked = true
      ∃ t, exec (.pCloseEdge f true) s = .next t ∧ (t.part.face f).mode.panel.pClose = .taken true ∧
        (∀ d : DoorIx, restored d → (t.part.face f).doors[d].latch = false ∧
          (r.mode.mode = .localCtl → (t.part.face f).doors[d].state = .closedLocked) ∧
          (r.mode.mode = .fire → (∀ e ∈ s.part.arb.queue, e.ref ≠ ⟨f, d⟩) →
            (r.mayFire d = false → (t.part.face f).doors[d].state = .closedLocked) ∧
            (r.op = none → r.mayFire d = true → (t.part.face f).doors[d].state.openingUp))) ∧
        (∀ d : DoorIx, ¬ restored d → s.part.queueFree f → (t.part.face f).doors[d].state = r.doors[d].state ∧
          (t.part.face f).doors[d].latch = r.doors[d].latch))

/-- DOOR_RESTORE: a RELEASED door whose latest report shows handle NORMAL, closed and locked loses its latch and is
CLOSED_LOCKED (stated outside FIRE, which may open it), and is refused otherwise; a DISCREPANT door that rests shut is
CLOSED_LOCKED (outside FIRE), and one with its key out or a unit fault is refused; another DISCREPANT door and an
OBSTRUCTED one are given a single-door close attempt: in AUTO and MAINT the door, if it is not isolated, is queued to
close, an OBSTRUCTED one with its attempts at 0; it is refused FIRE_ACTIVE in FIRE, LOCAL_PENDING while a handover is
pending, LOCAL_CONTROL in LOCAL, WRONG_MODE in UNCONFIGURED and STANDBY, and BAD_VALUE for a door with host isolation.
Any other state is refused. The cleared latch is told of by a RELEASE report of event CLEARED, unless reports have been
lost (R82, R95, R138). DOOR_ISOLATE sets the host isolation of a door in CLOSED_LOCKED, OPEN, OBSTRUCTED or DISCREPANT
and is BUSY in any other state; DOOR_READMIT clears it in any state; neither moves the door outside FIRE (R82). For all
three a door that is not configured is BAD_VALUE, and an enumeration in progress BUSY. -/
def Obligations.DoorRequests : Prop :=
  ∀ (tag : Byte) (f : Face) (d : DoorIx) (s : State), s.HostFree → (∀ f, (s.part.face f).Settled) →
    s.part.present f = true →
    let r := s.part.face f
    let x := r.doors[d]
    let i := Instr.doorRestore tag [faceCode f, byteOf d]
    let iso := Instr.doorIsolate tag [faceCode f, byteOf d]
    let readmit := Instr.doorReadmit tag [faceCode f, byteOf d]
    let done (q : Part) := exec i s = .next (s.answered ⟨0xB0, tag, .done, 0, 0, []⟩ q)
    let free := r.mode.handover = false ∧ (r.mode.mode = .auto ∨ r.mode.mode = .maint) ∧ x.hostIso = false ∧
      x.keyIso = false ∧ ∀ e ∈ s.part.arb.queue, e.ref ≠ ⟨f, d⟩
    let attempt := x.state = .obstructed ∨ (x.state = .discrepant ∧ x.keyIso = false ∧ ∀ rep, x.report = some rep →
      rep.fault = .none ∧ (rep.closed = false ∨ rep.locked = false ∨ rep.motion ≠ .idle ∨ rep.pulled = true))
    (r.configured d = false → Unchanged i .doorRestore tag .badValue 255 s) ∧
    (r.configured d = true → r.enumerating = true → Unchanged i .doorRestore tag .busy 0 s) ∧
    (r.configured d = true → r.enumerating = false → attempt →
      (r.mode.mode = .fire → Unchanged i .doorRestore tag .fireActive 0 s) ∧
      (r.mode.mode ≠ .fire → r.mode.handover = true → Unchanged i .doorRestore tag .localPending 0 s) ∧
      (r.mode.mode = .localCtl → r.mode.handover = false → Unchanged i .doorRestore tag .localControl 0 s) ∧
      (r.mode.mode = .unconfigured ∨ r.mode.mode = .standby → r.mode.handover = false →
        Unchanged i .doorRestore tag .wrongMode 0 s) ∧
      (r.mode.mode = .auto ∨ r.mode.mode = .maint → r.mode.handover = false → x.hostIso = true →
        Unchanged i .doorRestore tag .badValue 255 s) ∧
      (free → ∃ q, exec i s = .next (s.answered ⟨0xB0, tag, .accepted, 0, 0, []⟩ q) ∧
        (q.face f).doors[d].state.closingUp ∧ (x.state = .obstructed → (q.face f).doors[d].attempts = 0))) ∧
    (r.configured d = true → r.enumerating = false →
      (x.state = .released → r.mode.mode ≠ .fire → ∀ rep, x.report = some rep → rep.pulled = false →
        rep.closed = true → rep.locked = true → ∃ q, done q ∧ (q.face f).doors[d].state = .closedLocked ∧
          (q.face f).doors[d].latch = false ∧ (q.face f).doors[d].report = some rep ∧
          (q.loss = true ∨ (.releaseCleared f ⟨d, .request, r.mode.mode, r.berth.state, r.berth.dwell⟩ : Report) ∈
            q.reports)) ∧
      (x.state = .released → (∀ rep, x.report = some rep → rep.pulled = true ∨ rep.closed = false ∨ rep.locked = false) →
        Unchanged i .doorRestore tag .badValue 255 s) ∧
      (x.state = .discrepant → x.keyIso = true ∨ (∃ rep, x.report = some rep ∧ rep.fault ≠ .none) →
        Unchanged i .doorRestore tag .badValue 255 s) ∧
      (x.state = .discrepant → r.mode.mode ≠ .fire → x.keyIso = false → ∀ rep, x.report = some rep →
        rep.fault = .none → rep.closed = true → rep.locked = true → rep.motion = .idle → rep.pulled = false →
        ∃ q, done q ∧ (q.face f).doors[d].state = .closedLocked ∧ (q.face f).doors[d].cause = none) ∧
      (x.state ≠ .released → x.state ≠ .discrepant → x.state ≠ .obstructed →
        Unchanged i .doorRestore tag .badValue 255 s)) ∧
    (r.configured d = false → Unchanged iso .doorIsolate tag .badValue 255 s ∧
      Unchanged readmit .doorReadmit tag .badValue 255 s) ∧
    (r.configured d = true → r.enumerating = true → Unchanged iso .doorIsolate tag .busy 0 s ∧
      Unchanged readmit .doorReadmit tag .busy 0 s) ∧
    (r.configured d = true → r.enumerating = false →
      (x.state = .closedLocked ∨ x.state = .opened ∨ x.state = .obstructed ∨ x.state = .discrepant →
        ∃ q, exec iso s = .next (s.answered ⟨0xB1, tag, .done, 0, 0, []⟩ q) ∧
          (q.face f).doors[d].hostIso = true ∧ (q.face f).doors[d].state = x.state ∧
          (q.face f).doors[d].order = x.order ∧ (q.face f).doors[d].latch = x.latch ∧
          (q.face f).doors[d].report = x.report ∧ q.arb = s.part.arb ∧
          ∀ e : DoorIx, e ≠ d → (q.face f).doors[e] = r.doors[e]) ∧
      (x.state ≠ .closedLocked → x.state ≠ .opened → x.state ≠ .obstructed → x.state ≠ .discrepant →
        Unchanged iso .doorIsolate tag .busy 0 s) ∧
      (r.mode.mode ≠ .fire →
        ∃ q, exec readmit s = .next (s.answered ⟨0xB2, tag, .done, 0, 0, []⟩ q) ∧
          (q.face f).doors[d].hostIso = false ∧ (q.face f).doors[d].state = x.state ∧
          (q.face f).doors[d].order = x.order ∧ (q.face f).doors[d].latch = x.latch ∧
          (q.face f).doors[d].report = x.report ∧ q.arb = s.part.arb ∧
          ∀ e : DoorIx, e ≠ d → (q.face f).doors[e] = r.doors[e]))

/-- MAINT_MOVE, from step 3 of its checks on (its face, door and enumeration checks, steps 1 and 2, are left out here):
refused FIRE_ACTIVE, LOCAL_CONTROL, LOCAL_PENDING or WRONG_MODE outside MAINT, WRONG_MODE before an enumeration has
completed, BAD_VALUE for a door unfit to move, BUSY for one that moves; DONE where the door already stands; otherwise
ACCEPTED, and the door is queued to open or to close with an order of kind MAINT (R152). That no enumeration has
completed is read off a link that is not RUNNING (assumption 28). -/
def Obligations.MaintMove : Prop :=
  ∀ (tag : Byte) (toClose : Bool) (f : Face) (d : DoorIx) (s : State), s.HostFree →
    (∀ f, (s.part.face f).Settled) → s.part.present f = true → (s.part.face f).configured d = true →
    (s.part.face f).enumerating = false →
    let r := s.part.face f
    let x := r.doors[d]
    let i := Instr.maintMove tag [faceCode f, byteOf d, if toClose then 1 else 0]
    let ready := r.mode.mode = .maint ∧ r.mode.handover = false ∧ r.link.state = .running ∧ x.keyIso = false
    (r.mode.mode = .fire → Unchanged i .maintMove tag .fireActive 0 s) ∧
    (r.mode.mode = .localCtl → Unchanged i .maintMove tag .localControl 0 s) ∧
    (r.mode.mode ≠ .fire → r.mode.mode ≠ .localCtl → r.mode.handover = true →
      Unchanged i .maintMove tag .localPending 0 s) ∧
    (r.mode.handover = false → r.mode.mode = .unconfigured ∨ r.mode.mode = .auto ∨ r.mode.mode = .standby →
      Unchanged i .maintMove tag .wrongMode 0 s) ∧
    (r.mode.mode = .maint → r.mode.handover = false → r.link.state ≠ .running →
      Unchanged i .maintMove tag .wrongMode 0 s) ∧
    (r.mode.mode = .maint → r.mode.handover = false → r.link.state = .running →
      x.state = .lost ∨ x.state = .unknown ∨ x.state = .released ∨ x.state = .discrepant ∨ x.state = .obstructed ∨
        x.keyIso = true → Unchanged i .maintMove tag .badValue 255 s) ∧
    (ready → x.state.busy = true → Unchanged i .maintMove tag .busy 0 s) ∧
    (ready → (toClose = true ∧ x.state = .closedLocked) ∨
        (toClose = false ∧ x.state = .opened ∧ x.partialOpen = false) → Unchanged i .maintMove tag .done 0 s) ∧
    (ready → toClose = false → x.state = .closedLocked ∨ (x.state = .opened ∧ x.partialOpen = true) →
      (∀ e ∈ s.part.arb.queue, e.ref ≠ ⟨f, d⟩) →
      ∃ q, exec i s = .next (s.answered ⟨0xB3, tag, .accepted, 0, 0, []⟩ q) ∧ (q.face f).doors[d].state.openingUp ∧
        (q.face f).doors[d].order = some ⟨.toOpen, .maint, decide (x.state = .opened)⟩) ∧
    (ready → toClose = true → x.state = .opened → x.forced = false → (∀ e ∈ s.part.arb.queue, e.ref ≠ ⟨f, d⟩) →
      ∃ q, exec i s = .next (s.answered ⟨0xB3, tag, .accepted, 0, 0, []⟩ q) ∧ (q.face f).doors[d].state.closingUp ∧
        (q.face f).doors[d].order = some ⟨.toClose, .maint, false⟩)

/-- The timers of a door's movement (R85, R87, R90, R92, R94, R117, R142). An expiry of the unlock, motion or
lock-proof timer in a state the timer guards makes the door DISCREPANT with the timer's cause and takes it out of the
start machinery, told of by a DOOR report unless reports have been lost (R76), whose cause TIMER is assumption 52: the
model's choice. The obstruction pause timer's expiry in REOPENING queues the door to close, or leaves it OPEN in
FIRE; the start timer's expiry takes the door out of the starting set; these two are stated for a door that is not in
the start queue. That the pause timer queues an isolated door too (R92 against R82) is assumption 14: the model's
reading. An expiry with its timer stopped changes nothing (assumption 4: the model's choice). -/
def Obligations.DoorTimers : Prop :=
  (∀ (f : Face) (d : DoorIx) (s : State), s.Settled → s.part.present f = true →
    let x := (s.part.face f).doors[d]
    let fails (why : DiscCause) (t : State) := MadeDiscrepant f d why t.part ∧
      (t.lossy ∨ ∃ y, t.tells (.door f d y) ∧ y.state = .discrepant ∧ y.cause = some why ∧ y.change = .timer ∧
        y.report = x.report ∧ y.attempts = x.attempts ∧ y.dwell = (s.part.face f).berth.dwell)
    (x.unlockT = none → exec (.unlockTimerExpiry f d) s = .next s) ∧
    (x.unlockT ≠ none → x.state = .unlocking →
      ∃ t, exec (.unlockTimerExpiry f d) s = .next t ∧ fails .unlockTimeout t) ∧
    (x.motionT = none → exec (.motionTimerExpiry f d) s = .next s) ∧
    (x.motionT ≠ none →
      x.state = .unlocking ∨ x.state = .opening ∨ x.state = .closing ∨ x.state = .reopening →
      ∃ t, exec (.motionTimerExpiry f d) s = .next t ∧ fails .motionTimeout t) ∧
    (x.lockProofT = none → exec (.lockProofTimerExpiry f d) s = .next s) ∧
    (x.lockProofT ≠ none → x.state = .proving →
      ∃ t, exec (.lockProofTimerExpiry f d) s = .next t ∧ fails .lockTimeout t)) ∧
  (∀ (f : Face) (d : DoorIx) (s : State), s.Settled → s.part.present f = true →
    let r := s.part.face f
    let x := r.doors[d]
    (x.pauseT = none → exec (.obstructionPauseTimerExpiry f d) s = .next s) ∧
    (x.startT = none → exec (.startTimerExpiry f d) s = .next s) ∧
    ((∀ e ∈ s.part.arb.queue, e.ref ≠ ⟨f, d⟩) →
      (x.pauseT ≠ none → x.state = .reopening → r.mode.mode ≠ .fire →
        ∃ t, exec (.obstructionPauseTimerExpiry f d) s = .next t ∧ (t.part.face f).doors[d].state.closingUp ∧
          (t.part.face f).doors[d].order =
            some ⟨.toClose, if x.forced then .forced else .ordinary, false⟩) ∧
      (x.pauseT ≠ none → x.state = .reopening → r.mode.mode = .fire →
        ∃ t, exec (.obstructionPauseTimerExpiry f d) s = .next t ∧ (t.part.face f).doors[d].state = .opened ∧
          (t.part.face f).doors[d].partialOpen = x.partialOpen ∧ (t.part.face f).doors[d].pauseT = none) ∧
      (x.startT ≠ none → (⟨f, d⟩ : DoorRef) ∈ s.part.arb.starting →
        ∃ t, exec (.startTimerExpiry f d) s = .next t ∧ (⟨f, d⟩ : DoorRef) ∉ t.part.arb.starting ∧
          (t.part.face f).doors[d].startT = none ∧ (t.part.face f).doors[d].state = x.state)))

/-- The warning timer's expiry: each door in PRE_CLOSE that is quiet and not isolated is queued to close, each that is
not quiet enters HELD with its hold timer running, or, with T_hold_max at 0, is queued to close with the forced mark at
once, its key not being out; no other door of the face moves (R106, R125). The quiet timer's
expiry queues a quiet HELD door to close, and the hold timer's expiry queues it with the forced mark,
its key not being out (R125, R81). At a quiet door that stands OPEN within a reopen cycle, its key not being out, the
quiet timer's expiry begins the door's warning anew, with a full warning time and no operation of its own (R106, R130);
at a door that is not quiet, or in neither case, it stops the timer alone (R121). Stated outside FIRE with no start of the face queued; an expiry with its timer
stopped changes nothing (assumption 4: the model's choice). -/
def Obligations.TimersThatClose : Prop :=
  ∀ (f : Face) (s : State), s.Settled → s.part.present f = true →
    let r := s.part.face f
    (r.warning = none → exec (.warningTimerExpiry f) s = .next s) ∧
    (∀ d : DoorIx, r.sense[d].quietT = none → exec (.quietTimerExpiry f d) s = .next s) ∧
    (∀ d : DoorIx, r.sense[d].holdT = none → exec (.holdTimerExpiry f d) s = .next s) ∧
    (r.mode.mode ≠ .fire → s.part.queueFree f →
      (r.warning ≠ none → ∃ t, exec (.warningTimerExpiry f) s = .next t ∧
        (t.part.face f).warning = none ∧
        (∀ d : DoorIx, r.configured d = true → r.doors[d].state = .preClose → r.sense[d].quiet = true →
          r.doors[d].iso = .none → (t.part.face f).doors[d].state.closingUp) ∧
        (∀ d : DoorIx, r.configured d = true → r.doors[d].state = .preClose → r.sense[d].quiet = false →
          (r.params.tHoldMax ≠ 0 →
            (t.part.face f).doors[d].state = .held ∧ (t.part.face f).sense[d].holdT = some r.params.tHoldMax) ∧
          (r.params.tHoldMax = 0 → r.doors[d].keyIso = false → (t.part.face f).doors[d].state.closingUp ∧
            (t.part.face f).doors[d].forced = true ∧
            (t.part.face f).doors[d].order = some ⟨.toClose, .forced, false⟩ ∧
            (t.part.face f).sense[d].holdT = none)) ∧
        (∀ d : DoorIx, r.configured d = false ∨ r.doors[d].state ≠ .preClose →
          (t.part.face f).doors[d].state = r.doors[d].state)) ∧
      (∀ d : DoorIx, r.sense[d].quietT ≠ none → r.sense[d].quiet = true → r.doors[d].state = .held →
        r.doors[d].iso = .none → ∃ t, exec (.quietTimerExpiry f d) s = .next t ∧
          (t.part.face f).doors[d].state.closingUp ∧ (t.part.face f).sense[d].holdT = none ∧
          (t.part.face f).sense[d].quietT = none) ∧
      (∀ d : DoorIx, r.sense[d].quietT ≠ none → r.sense[d].quiet = true → r.doors[d].state = .opened →
        r.sense[d].inCycle = true → r.doors[d].keyIso = false → ∃ t, exec (.quietTimerExpiry f d) s = .next t ∧
          (t.part.face f).doors[d].state = .preClose ∧ (t.part.face f).warning = some r.params.tWarn ∧
          (t.part.face f).sense[d].quietT = none ∧ (t.part.face f).sense[d].inCycle = true ∧
          (r.op = none → (t.part.face f).op = none) ∧
          ∀ e : DoorIx, e ≠ d → (t.part.face f).doors[e].state = r.doors[e].state) ∧
      (∀ d : DoorIx, r.sense[d].quietT ≠ none →
        r.sense[d].quiet = false ∨
          (r.doors[d].state ≠ .held ∧ (r.doors[d].state ≠ .opened ∨ r.sense[d].inCycle = false)) →
        exec (.quietTimerExpiry f d) s =
          .next { s with part := s.part.modFace f fun r => r.modSense d fun x => { x with quietT := none } }) ∧
      (∀ d : DoorIx, r.sense[d].holdT ≠ none → r.doors[d].state = .held → r.doors[d].keyIso = false → ∃ t,
        exec (.holdTimerExpiry f d) s = .next t ∧ (t.part.face f).doors[d].state.closingUp ∧
          (t.part.face f).doors[d].forced = true ∧
          (t.part.face f).doors[d].order = some ⟨.toClose, .forced, false⟩ ∧
          (t.part.face f).sense[d].holdT = none))

/-! ### The start arbiter and the supply monitor (chapter 6) -/

/-- The start limits by supply level and K (R114), and a grant event: when it ends the candidate, the oldest fire
start or else the head of the queue, is absent or finds the starting set at or above the limit for its kind; no door
has left the starting set, a door joins it only from the queue, and an entry still queued was queued before, in its
order (R115). A granted door, queued once, is UNLOCKING or CLOSING with its start timer and its motion timer running,
and with the link not IDLE it stands, with the codes of R86, in one MOVE frame of its face and action, the doors of
which are those so granted together; no older frame or resend of the door is left (R85, R86, R116, R68). Every other
door, not both queued and starting, keeps its state. Where a watched door outside a reopen cycle so enters UNLOCKING the
gap state leaves NOT_REQUIRED and PASSED for PENDING, if the berth is neither EMPTY nor ANNOUNCED, with a GAP report
unless reports are lost; it leaves RUNNING and FAILED for PENDING, or for RUNNING with the gap timer stopped where a
CLOSE waits for the check. PENDING stays, and so does the gap record of a face with no open queued (R127, R134). -/
def Obligations.GrantEvent : Prop :=
  (∀ (p : Part) (kind : OrderKind),
    (p.supply.level = .normal → p.limitFor kind = p.params.k) ∧
    (p.supply.level = .low → p.limitFor kind = max 1 (p.params.k / 2)) ∧
    (p.supply.level = .critical → p.limitFor kind = if kind = .fire then 1 else 0)) ∧
  ∀ p : Part,
    let q := grantEvent p
    (∀ e, candidate q.arb.queue = some e → q.limitFor e.kind ≤ q.arb.starting.length) ∧
    (∃ more, q.arb.starting = p.arb.starting ++ more ∧ ∀ x ∈ more, ∃ e ∈ p.arb.queue, e.ref = x) ∧
    List.Sublist q.arb.queue p.arb.queue ∧
    (p.arb.starting.length ≤ p.limitFor .fire → 1 ≤ p.params.k → q.arb.starting.length ≤ p.limitFor .fire) ∧
    (∀ e, candidate p.arb.queue = some e → p.arb.starting.length < p.limitFor e.kind →
      e.ref ∈ q.arb.starting ∧ e ∉ q.arb.queue) ∧
    q.supply = p.supply ∧ q.params = p.params ∧ q.fire = p.fire ∧ q.profiles = p.profiles ∧
    (∀ f, let r := p.face f
      let opens := ∃ d : DoorIx, p.granted f d ∧ r.watched d = true ∧ r.sense[d].inCycle = false ∧
        r.doors[d].state ≠ .unlocking ∧ ∃ e ∈ p.arb.queue, p.arb.queuedOnce e ∧ e.ref = ⟨f, d⟩ ∧ e.action = .toOpen
      (opens → r.berth.state ≠ .empty → r.berth.state ≠ .announced →
        r.gap.state = .notRequired ∨ r.gap.state = .passed → (q.face f).gap.state = .pending ∧
          (q.loss = true ∨ ∃ x, (.gap f x : Report) ∈ q.reports ∧ x.prev = r.gap.state ∧ x.next = .pending ∧
            x.cause = .unlock ∧ x.dwell = r.berth.dwell)) ∧
      (opens → r.gap.state = .running ∨ r.gap.state = .failed → (q.face f).gap.timer = none ∧
        (q.face f).gap.state = if r.gapWaiting = true then .running else .pending) ∧
      (r.gap.state = .pending → (q.face f).gap.state = .pending) ∧
      ((∀ e ∈ p.arb.queue, e.ref.face = f → e.action = .toClose) → (q.face f).gap = r.gap)) ∧
    (∀ f (d : DoorIx), ¬ p.granted f d → (⟨f, d⟩ : DoorRef) ∉ p.arb.starting ∨ (∀ e ∈ p.arb.queue, e.ref ≠ ⟨f, d⟩) →
      (q.face f).doors[d].state = (p.face f).doors[d].state) ∧
    ∀ (f : Face) (d : DoorIx) (e : QEntry), p.granted f d → p.arb.queuedOnce e → e.ref = ⟨f, d⟩ →
      let r := p.face f
      let own := r.classEntry (r.classOf d)
      let fireOpen := e.action = .toOpen ∧ e.kind = .fire
      let y := (q.face f).doors[d]
      (e.action = .toOpen → y.state = .unlocking) ∧ (e.action = .toClose → y.state = .closing) ∧
      y.startT = some p.params.tStart ∧
      y.motionT = some (if fireOpen then r.classes[3].timeout else own.timeout) ∧
      (r.link.state ≠ .idle → r.configured d = true →
        ∃ m ∈ (q.face f).link.moveQ, m.action = (if e.action = .toOpen then .unlockOpen else .closeLock) ∧
          (∀ t ∈ m.targets, r.configured t.door = true ∧ (⟨f, t.door⟩ : DoorRef) ∈ q.arb.starting ∧
            ∃ x ∈ p.arb.queue, x.ref = ⟨f, t.door⟩ ∧ x.action = e.action) ∧
          (∀ (c : DoorIx) (x : QEntry), p.granted f c → p.arb.queuedOnce x → x.ref = ⟨f, c⟩ → x.action = e.action →
            r.configured c = true → ∃ t ∈ m.targets, t.door = c) ∧
          (∃ t ∈ m.targets, t.door = d ∧
            (fireOpen → t.speed = 7) ∧ (e.action = .toOpen → ¬ fireOpen → t.speed = own.openSpeed) ∧
            (e.action = .toClose → t.speed = own.closeSpeed) ∧ (e.action = .toOpen → t.force = 0) ∧
            (e.action = .toClose → e.kind ≠ .forced → t.force = own.closeForce) ∧
            (e.action = .toClose → e.kind = .forced →
              (∃ c ∈ r.classes.toList, c.closeForce = t.force) ∧ ∀ c ∈ r.classes.toList, t.force ≤ c.closeForce)) ∧
          (∀ m' ∈ (q.face f).link.moveQ, (∃ t ∈ m'.targets, t.door = d) → m' = m) ∧
          ∀ x ∈ (q.face f).link.resendQ, x.door ≠ d)

/-- One sample of the supply: the code is kept; it counts toward a fall below LOW_V in NORMAL and below CRIT_V in LOW,
and toward a rise at LOW_V + H in LOW and at CRIT_V + H in CRITICAL; a count that reaches F_sup moves the level one
step and clears both counts, and a sample that counts toward neither clears both (R118). A change of level is told of by
a SUPPLY report with the limits then in force, unless reports have been lost (R119); the numbers of starting and queued
doors in it are those before the grants (assumption 41: the model's choice). -/
def Obligations.SupplySample : Prop :=
  ∀ (code : Byte) (s : State), s.Settled →
    let x := s.part.supply
    let pp := s.part.params
    let c := code.toNat
    let fall := (x.level = .normal ∧ c < pp.lowV) ∨ (x.level = .low ∧ c < pp.critV)
    let rise := (x.level = .low ∧ pp.lowV + pp.h ≤ c) ∨ (x.level = .critical ∧ pp.critV + pp.h ≤ c)
    ∃ t, exec (.supplyLevelChange code) s = .next t ∧ t.part.supply.code = code ∧
      (fall → x.fall + 1 < pp.fSup → t.part.supply = ⟨x.level, x.fall + 1, 0, code⟩) ∧
      (fall → pp.fSup ≤ x.fall + 1 →
        t.part.supply = ⟨if x.level = .normal then .low else .critical, 0, 0, code⟩) ∧
      (¬ fall → rise → x.rise + 1 < pp.fSup → t.part.supply = ⟨x.level, 0, x.rise + 1, code⟩) ∧
      (¬ fall → rise → pp.fSup ≤ x.rise + 1 →
        t.part.supply = ⟨if x.level = .critical then .low else .normal, 0, 0, code⟩) ∧
      (¬ fall → ¬ rise → t.part.supply = ⟨x.level, 0, 0, code⟩) ∧
      (t.part.supply.level = x.level → t = { s with part := { s.part with supply := t.part.supply } }) ∧
      (t.part.supply.level ≠ x.level → t.lossy ∨ t.tells (.supply ⟨x.level, t.part.supply.level, code,
        ordLimit t.part.supply.level pp.k, fireLimit t.part.supply.level pp.k, s.part.arb.starting.length,
        s.part.arb.queue.length⟩)) ∧
      t.part.params = pp ∧ t.part.fire = s.part.fire

/-! ### Passenger sensing and the gap check (chapter 7) -/

/-- The beams of an accepted reply: unprimed filters are primed with them and nothing is counted; primed filters take
one step, an accepted change restarts the quiet timer, and a crossing from the inner beam out counts one BOARD, from
the outer beam in one ALIGHT, while the face counts; a count at 65,535 stays there and marks the door saturated (R120
to R123), which the result that brings it there does not (assumption 49: the model's choice); this stated for beams
that are not newly blocked at the outer side. An outer beam newly BLOCKED at a watched door outside a reopen cycle,
while the gap check runs, reopens a door that closes or has closed, up to twice in a dwell, and the check goes on;
with the reopens spent, or the order refused, the check fails. At any other door, or outside RUNNING, it does neither
(R92, R129, R130; stated with no start of the face queued). -/
def Obligations.BeamsTaken : Prop :=
  ∀ (f : Face) (d : DoorIx) (inner outer : Bool) (s : State), s.Settled → s.part.present f = true →
    let r := s.part.face f
    let x := r.sense[d]
    let n := r.params.fBeam
    let i := if x.inner.level ≠ inner ∧ n ≤ x.inner.run + 1 then inner else x.inner.level
    let o := if x.outer.level ≠ outer ∧ n ≤ x.outer.run + 1 then outer else x.outer.level
    let accepted : Prop := i ≠ x.inner.level ∨ o ≠ x.outer.level
    let m := x.dec.move (crossPos i o)
    let c := r.doors[d].counts
    (r.configured d = false → exec (.beamChange f d inner outer) s = .next s) ∧
    (r.configured d = true → x.inner.primed = false →
      ∃ t, exec (.beamChange f d inner outer) s = .next t ∧
        (t.part.face f).sense[d] = { x with inner := .taken inner, outer := .taken outer,
                                            dec := .prime (crossPos inner outer) } ∧
        (t.part.face f).doors[d].counts = c) ∧
    (r.configured d = true → x.inner.primed = true → x.outer.primed = true →
      (outer = false ∨ x.outer.level = true ∨ x.outer.run + 1 < n) →
      ∃ t, exec (.beamChange f d inner outer) s = .next t ∧
        (t.part.face f).sense[d].inner.level = i ∧ (t.part.face f).sense[d].outer.level = o ∧
        (t.part.face f).sense[d].dec = m.1 ∧
        (accepted → (t.part.face f).sense[d].quietT = some r.params.tQuiet) ∧
        (¬ accepted → (t.part.face f).sense[d].quietT = x.quietT) ∧
        (r.gap.counting = false ∨ m.2 = none → (t.part.face f).doors[d].counts = c) ∧
        (r.gap.counting = true → m.2 = some .board → (t.part.face f).doors[d].counts =
          if c.board < 65535 then { c with board := c.board + 1 } else { c with board := 65535, saturated := true }) ∧
        (r.gap.counting = true → m.2 = some .alight → (t.part.face f).doors[d].counts =
          if c.alight < 65535 then { c with alight := c.alight + 1 }
          else { c with alight := 65535, saturated := true }) ∧
        (r.gap.counting = true → m.2 = some .undirected → (t.part.face f).doors[d].counts =
          if c.undirected < 65535 then { c with undirected := c.undirected + 1 }
          else { c with undirected := 65535, saturated := true }) ∧
        (t.part.face f).doors[d].state = r.doors[d].state) ∧
    (r.configured d = true → x.inner.primed = true → x.outer.primed = true → outer = true → x.outer.level = false →
      n ≤ x.outer.run + 1 → s.part.queueFree f →
      let y := r.doors[d]
      let tests := r.gap.state = .running ∧ y.iso = .none ∧ x.inCycle = false ∧
        (y.state = .preClose ∨ y.state = .held ∨ y.state = .closeQueued ∨ y.state = .closing ∨ y.state = .proving ∨
          y.state = .reopening ∨ y.state = .closedLocked)
      let takes := y.gapReopens < 2 ∧ (y.state = .closedLocked → y.verdict = .vMatch)
      ∃ t, exec (.beamChange f d inner outer) s = .next t ∧ (t.part.face f).sense[d].outer = .taken true ∧
        (t.part.face f).sense[d].quietT = some r.params.tQuiet ∧
        (¬ tests → (t.part.face f).gap.state = r.gap.state ∧ (t.part.face f).doors[d].state = y.state ∧
          (t.part.face f).doors[d].gapReopens = y.gapReopens) ∧
        (tests → takes → (t.part.face f).gap.state = .running ∧ (t.part.face f).sense[d].inCycle = true ∧
          (t.part.face f).doors[d].gapReopens = y.gapReopens + 1 ∧
          (y.state = .closedLocked → (t.part.face f).doors[d].state.openingUp) ∧
          (y.state = .preClose ∨ y.state = .held ∨ y.state = .closeQueued →
            (t.part.face f).doors[d].state = .opened ∧ (t.part.face f).doors[d].forced = false) ∧
          (y.state = .closing ∨ y.state = .proving ∨ (y.state = .reopening ∧ y.pauseT = none) →
            (t.part.face f).doors[d].state = .reopening ∧ (t.part.face f).doors[d].reopenCause = some .gap) ∧
          (y.state = .reopening → y.pauseT ≠ none → (t.part.face f).doors[d].state = .opened)) ∧
        (tests → ¬ takes → (t.part.face f).gap.state = .failed ∧ (t.part.face f).mode.alarm = true ∧
          (t.part.face f).doors[d].state = y.state ∧ (t.part.face f).doors[d].gapReopens = y.gapReopens))

/-- The gap check in RUNNING: an end beam newly BLOCKED makes it FAILED with ALARM active; the gap timer's expiry
makes it PASSED. A CLOSE waiting in GAP_WAIT ends at either (R128, R129, R132, R161). A sample that is not accepted
changes its filter alone, and so does an accepted one while no check runs or has failed (R126). An end beam that
clears the last blocked beam of a FAILED check returns it to RUNNING, ALARM inactive, and the gap timer runs whenever
every beam is clear and the check waits for no door (R128, R131). Each change is told of by a GAP report, and the CLOSE
that ends by its OP_DONE with the gap outcome, its targets still PENDING concluded as REOPENED, unless reports have been
lost (R100, R132, R134). An expiry with the timer stopped changes nothing
(assumption 4: the model's choice). A complete CLOSE in CLOSING takes a PENDING check to RUNNING, told of by a GAP report
of cause TARGETS_TERMINAL, and waits in GAP_WAIT, as it does for one that is RUNNING; an active gap bypass ends it at
once, and so does a check that is NOT_REQUIRED, PASSED or FAILED (R107, R128, R132). So does a CLOSE_FACE of a face in
AUTO whose doors are all closed and locked (R127), which ends or waits at its own event. -/
def Obligations.GapCheck : Prop :=
  (∀ (f : Face) (op : Op) (p : Part), (p.face f).op = some op → op.kind = .close → op.phase = some .closing →
    (∀ x ∈ op.targets, x.outcome ≠ .pending) →
    let r := p.face f
    let q := seqCheck f p
    let done (how : GapOutcome) := (q.face f).op = none ∧
      (q.loss = true ∨ (.opDone f op .completed how : Report) ∈ q.reports)
    (r.gap.state = .pending → (q.face f).gap.state = .running ∧ (q.loss = true ∨ ∃ x, (.gap f x : Report) ∈ q.reports ∧
      x.prev = .pending ∧ x.next = .running ∧ x.cause = .targetsTerminal ∧ x.door = none ∧ x.dwell = r.berth.dwell)) ∧
    (r.gap.state = .pending ∨ r.gap.state = .running → r.gapBypass = false →
      (q.face f).op = some { op with phase := some .gapWait } ∧ (q.face f).doors = r.doors) ∧
    (r.gap.state = .pending ∨ r.gap.state = .running → r.gapBypass = true → (q.face f).op = none) ∧
    (r.gap.state ≠ .pending → (q.face f).gap = r.gap) ∧
    (r.gap.state = .notRequired → done .notRequired) ∧ (r.gap.state = .passed → done .passed) ∧
    (r.gap.state = .failed → done .failed)) ∧
  (∀ (tag : Byte) (f : Face) (s : State), s.HostFree → (∀ f, (s.part.face f).Settled) → s.part.present f = true →
    let r := s.part.face f
    r.op = none → r.enumerating = false → r.mode.mode = .auto → r.mode.handover = false →
    (∀ d : DoorIx, r.configured d = true → r.doors[d].state = .closedLocked) →
    ∃ q, exec (.closeFace tag [faceCode f]) s = .next (s.answered ⟨0xA3, tag, .accepted, 0, 0, []⟩ q) ∧
      (∀ d : DoorIx, (q.face f).doors[d].state = r.doors[d].state) ∧
      (r.gap.state = .pending → (q.face f).gap.state = .running ∧
        (q.face f).gap.timer = if r.gapClear = true ∧ r.waitingDoors = [] then some r.params.tGap else none) ∧
      (r.gap.state ≠ .pending → (q.face f).gap = r.gap) ∧
      (r.gap.state = .pending ∨ r.gap.state = .running → r.gapBypass = false →
        (q.face f).op = some ⟨.close, .host, tag, some .gapWait, r.berth.dwell, []⟩) ∧
      (r.gap.state = .notRequired ∨ r.gap.state = .passed ∨ r.gap.state = .failed ∨ r.gapBypass = true →
        (q.face f).op = none)) ∧
  ∀ (f : Face) (s : State), s.Settled → s.part.present f = true →
    let r := s.part.face f
    let waits := ∃ op, r.op = some op ∧ op.phase = some .gapWait
    let told (t : State) (prev next : GapState) (why : GapCause) := t.lossy ∨ ∃ x, t.tells (.gap f x) ∧ x.prev = prev ∧
      x.next = next ∧ x.cause = why ∧ x.door = none ∧ x.dwell = r.berth.dwell ∧ x.bypass = r.gapBypass
    let ends (t : State) (how : GapOutcome) := (t.part.face f).op = none ∧ (t.lossy ∨ ∀ op, r.op = some op →
      t.tells (.opDone f (op.settlePending .reopened) .completed how))
    (∀ (beam : EndBeam) (blocked : Bool),
      let i := Instr.gapEndBeamChange f beam blocked
      let x := match beam with
        | .head => r.gap.headBeam
        | .tail => r.gap.tailBeam
      let set (y : Filter) (q : FaceRec) : FaceRec := q.modGap fun g =>
        match beam with
        | .head => { g with headBeam := y }
        | .tail => { g with tailBeam := y }
      let only (y : Filter) : State := { s with part := s.part.modFace f (set y) }
      let q := set (.taken blocked) r
      let timer := if q.gapClear = true ∧ q.waitingDoors = [] then some (r.gap.timer.getD r.params.tGap) else none
      (r.geom = none → exec i s = .next s) ∧
      (r.geom ≠ none → ¬ x.Accepts r.params.fPanel blocked → exec i s = .next (only (x.passed blocked))) ∧
      (r.geom ≠ none → x.Accepts r.params.fPanel blocked →
        (r.gap.state = .notRequired ∨ r.gap.state = .pending ∨ r.gap.state = .passed →
          exec i s = .next (only (.taken blocked))) ∧
        (r.gap.state = .running → blocked = true → ∃ t, exec i s = .next t ∧
          (match beam with
            | .head => (t.part.face f).gap.headBeam
            | .tail => (t.part.face f).gap.tailBeam) = .taken true ∧
          (t.part.face f).gap.state = .failed ∧ (t.part.face f).gap.timer = none ∧
          (t.part.face f).mode.alarm = true ∧ told t .running .failed .endBeam ∧ (waits → ends t .failed)) ∧
        (r.gap.state = .running → blocked = false → exec i s =
          .next { s with part := s.part.modFace f fun _ => q.modGap fun g => { g with timer := timer } }) ∧
        (r.gap.state = .failed → q.gapClear = false → exec i s = .next (only (.taken blocked))) ∧
        (r.gap.state = .failed → q.gapClear = true → ∃ t, exec i s = .next t ∧ (t.part.face f).gap.state = .running ∧
          (t.part.face f).mode.alarm = false ∧
          (t.part.face f).gap.timer = (if q.waitingDoors = [] then some r.params.tGap else none) ∧
          told t .failed .running .beamsClear))) ∧
    (r.gap.timer = none → exec (.gapTimerExpiry f) s = .next s) ∧
    (r.gap.timer ≠ none → ∃ t, exec (.gapTimerExpiry f) s = .next t ∧ (t.part.face f).gap.state = .passed ∧
      (t.part.face f).gap.timer = none ∧ (t.part.face f).mode.alarm = false ∧ told t .running .passed .timer ∧
      (waits → ends t .passed))

/-! ### Fire (chapter 8) -/

/-- Fire enters force at FIRE_COMMAND or at a rising edge of FIRE_IN, unless it is in force: the entry cause is kept and
each present face in AUTO, LOCAL, MAINT or STANDBY is in FIRE, without handover or notice and with LOCAL_ACK inactive
(R154; that a notice not yet taken goes too is assumption 20: the model's choice); a face in UNCONFIGURED stays there
(R140, R156). At such a face the queued, warned and held doors are withdrawn, a closing door that may be opened in fire
is reversed and any other halted, the operation, the warning and the gap check end, and the doors of the fire open set
are queued to open (R141, R143, R144); for face B this is stated with no start of it queued, since face A takes the
entry first (assumption 36: the model's choice). -/
def Obligations.FireEntry : Prop :=
  let entered (cause : FireCause) (p q : Part) : Prop :=
    q.fire.cause = some cause ∧ ∀ f, p.present f = true →
      ((p.face f).mode.mode = .unconfigured → (q.face f).mode.mode = .unconfigured) ∧
      ((p.face f).mode.mode ≠ .unconfigured → (p.face f).mode.mode ≠ .fire →
        (q.face f).mode.mode = .fire ∧ (q.face f).mode.handover = false ∧ (q.face f).mode.localAck = false ∧
        (q.face f).mode.heldNotice = false ∧ (q.face f).notice = false ∧
        (f = .A ∨ p.queueFree f → (p.face f).InFireFrom (q.face f)))
  (∀ (tag : Byte) (s : State), s.HostFree → (∀ f, (s.part.face f).Settled) →
    (s.part.fire.cause = none → ∃ q, exec (.fireCommand tag []) s =
      .next (s.answered ⟨0xC3, tag, .done, 0, 0, []⟩ q) ∧ entered .fireCommand s.part q) ∧
    (s.part.fire.cause ≠ none → Unchanged (.fireCommand tag []) .fireCommand tag .done 0 s)) ∧
  (∀ s : State, s.Settled →
    (s.part.fire.fireIn.Accepts s.part.params.fFire true →
      (s.part.fire.cause = none → ∃ t, exec .fireInRisingEdge s = .next t ∧
        t.part.fire.fireIn = .taken true ∧ entered .fireIn s.part t.part) ∧
      (s.part.fire.cause ≠ none → exec .fireInRisingEdge s =
        .next { s with part := { s.part with fire := { s.part.fire with fireIn := .taken true } } })) ∧
    (¬ s.part.fire.fireIn.Accepts s.part.params.fFire true → exec .fireInRisingEdge s =
      .next { s with part := { s.part with fire := { s.part.fire with fireIn := s.part.fire.fireIn.passed true } } }))

/-- A rising edge of FIRE_RESET while fire is in force and FIRE_IN reads INACTIVE ends it: each present face in FIRE
goes to LOCAL with its local request active, to AUTO otherwise, or to MAINT with an enumeration started where its link
is IDLE, and no automatic-opening notice waits there, so that no automatic opening follows the exit (assumption 20: the
model's choice). With FIRE_IN active, or no fire in force, the edge changes its filter alone, and so does every fall of
an input (R139, R146, R147). -/
def Obligations.FireExit : Prop :=
  ∀ s : State, s.Settled →
    let p := s.part
    let count := p.params.fFire
    let only (x : Filter) : State := { s with part := { p with fire := { p.fire with fireReset := x } } }
    (¬ p.fire.fireReset.Accepts count true →
      exec .fireResetRisingEdge s = .next (only (p.fire.fireReset.passed true))) ∧
    (p.fire.fireReset.Accepts count true → p.fire.cause = none ∨ p.fire.fireIn.reads = true →
      exec .fireResetRisingEdge s = .next (only (.taken true))) ∧
    (p.fire.fireReset.Accepts count true → p.fire.cause ≠ none → p.fire.fireIn.reads = false →
      ∃ t, exec .fireResetRisingEdge s = .next t ∧ t.part.fire.cause = none ∧ t.part.fire.fireReset = .taken true ∧
        ∀ f, p.present f = true → (p.face f).mode.mode = .fire → (p.face f).mode.handover = false →
          (t.part.face f).notice = false ∧
          ((p.face f).link.state = .idle → (t.part.face f).mode.mode = .maint ∧ (t.part.face f).EnumStarted 0 true ∧
            (t.part.face f).mode.handover = (p.face f).localReq) ∧
          ((p.face f).link.state ≠ .idle → (p.face f).localReq = true →
            (t.part.face f).mode.mode = .localCtl ∧ (t.part.face f).mode.localAck = true ∧
            (t.part.face f).mode.handover = false) ∧
          ((p.face f).link.state ≠ .idle → (p.face f).localReq = false →
            (t.part.face f).mode.mode = .auto ∧ (t.part.face f).mode.handover = false)) ∧
    (∀ input : FireInput, exec (.fireInputFall input) s = .next { s with part := { p with fire :=
      match input with
      | .fireIn => { p.fire with fireIn := if p.fire.fireIn.primed = true ∧ p.fire.fireIn.level = true ∧
          count ≤ p.fire.fireIn.run + 1 then .taken false else p.fire.fireIn.passed false }
      | .fireReset => { p.fire with fireReset := if p.fire.fireReset.primed = true ∧ p.fire.fireReset.level = true ∧
          count ≤ p.fire.fireReset.run + 1 then .taken false else p.fire.fireReset.passed false } } })

/-- The first sample after a reset primes the fire inputs and the panel inputs of each present face with the levels
sampled; FIRE_IN primed ACTIVE enters fire, FIRE_RESET primed ACTIVE does not end it (R139, R148). Once primed, such a
sample changes nothing (assumption 5: the model's choice). A bypass primed ACTIVE counts as a change of its level: the
proof is recomputed and a SECURED report of cause BYPASS tells of it, unless reports have been lost (R159, R160), and a
gap bypass ends a CLOSE that waits in GAP_WAIT (R132). A local request primed ACTIVE counts as a change too: it is
granted to a face in AUTO at rest and makes the handover PENDING in AUTO otherwise, starts an enumeration toward AUTO in
MAINT, wakes a face in STANDBY and leaves the mode elsewhere (R153, R155, R156). A panel button primed ACTIVE is no
rising edge: without these levels neither mode, handover nor operation changes. All this is stated where no fire enters,
with no start of the face queued. -/
def Obligations.FirstSampleAfterReset : Prop :=
  ∀ (x : ResetSample) (s : State), s.Settled →
    (s.part.fire.fireIn.primed = true → exec (.firstSampleAfterReset x) s = .next s) ∧
    (s.part.fire.fireIn.primed = false → ∃ t, exec (.firstSampleAfterReset x) s = .next t ∧
      t.part.fire.fireIn = .taken x.fireIn ∧ t.part.fire.fireReset = .taken x.fireReset ∧
      (t.part.fire.cause = if s.part.fire.cause = none ∧ x.fireIn = true then some .fireIn else s.part.fire.cause) ∧
      ∀ f, s.part.present f = true →
        let l := match f with
          | .A => x.panelA
          | .B => x.panelB
        let r := s.part.face f
        let q := t.part.face f
        q.mode.panel = ⟨.taken l.localReq, .taken l.pOpen, .taken l.pClose, .taken l.pAll,
          .taken l.proofBypass, .taken l.gapBypass⟩ ∧
        (x.fireIn = false ∨ s.part.fire.cause ≠ none → s.part.queueFree f →
          (l.proofBypass = true ∨ l.gapBypass = true → (q.secured = true ↔ q.ProofHolds) ∧
            (t.lossy ∨ ∃ y, t.tells (.secured f y) ∧ y.prev = r.secured ∧ y.cause = .bypass ∧
              y.proofBypass = l.proofBypass ∧ y.gapBypass = l.gapBypass)) ∧
          (l.gapBypass = true → r.gapWaiting = true → q.op = none) ∧
          (l.localReq = true →
            (r.mode.mode = .auto → r.atRest = true → q.mode.mode = .localCtl ∧ q.mode.localAck = true) ∧
            (r.mode.mode = .auto → r.atRest = false → l.gapBypass = false ∨ r.gapWaiting = false →
              q.mode.mode = .auto ∧ q.mode.handover = true) ∧
            (r.mode.mode = .maint → q.mode.mode = .maint ∧ q.mode.handover = true ∧ q.mode.toAuto = true ∧
              (r.enumerating = false → q.EnumStarted 0 true)) ∧
            (r.mode.mode = .standby → q.mode.wakeRound = true ∧ q.link.pace = .wake ∧
              (q.mode.mode = .localCtl ∨ (q.mode.mode = .auto ∧ q.mode.handover = true))) ∧
            (r.mode.mode = .unconfigured ∨ r.mode.mode = .localCtl ∨ r.mode.mode = .fire →
              q.mode.mode = r.mode.mode ∧ q.mode.handover = r.mode.handover)) ∧
          (l.localReq = false → l.gapBypass = false ∨ r.gapWaiting = false →
            q.mode.mode = r.mode.mode ∧ q.mode.handover = r.mode.handover ∧ q.op = r.op)))

/-! ### Face modes, the panel and the secured output (chapter 9) -/

/-- SET_FACE_MODE and ENUMERATE_FACE, answered by the present mode. A refusal, and a request for the mode the face is
in, change nothing; entry to MAINT changes the mode; entry to STANDBY sets the standby pace and starts its timer; an
enumeration starts with the request's tag and its target (R150, R151, R59, R70). -/
def Obligations.ModeRequests : Prop :=
  ∀ (tag m : Byte) (f : Face) (s : State), s.HostFree → (∀ f, (s.part.face f).Settled) → s.part.present f = true →
    let r := s.part.face f
    let i := Instr.setFaceMode tag [faceCode f, m]
    let e := Instr.enumerateFace tag [faceCode f]
    let restful := r.berth.state = .empty ∧ r.atRest = true
    let started (c : Instr) (code : Byte) (toAuto : Bool) := ∃ q, exec c s =
      .next (s.answered ⟨code, tag, .accepted, 0, 0, []⟩ q) ∧ (q.face f).EnumStarted tag toAuto ∧
        (q.face f).mode.mode = r.mode.mode ∧ (q.face f).link.g = r.link.g
    (2 < m.toNat → Unchanged i .setFaceMode tag .badValue 255 s) ∧
    (m.toNat ≤ 2 → r.enumerating = true → Unchanged i .setFaceMode tag .busy 0 s) ∧
    (m.toNat ≤ 2 → r.enumerating = false →
      (r.mode.mode = .unconfigured →
        (m = 0 → r.geom ≠ none → started i 0xC0 true) ∧
        (m ≠ 0 ∨ r.geom = none → Unchanged i .setFaceMode tag .wrongMode 0 s)) ∧
      (r.mode.mode = .auto →
        (m = 0 → Unchanged i .setFaceMode tag .done 0 s) ∧
        (m ≠ 0 → r.mode.handover = true → Unchanged i .setFaceMode tag .localPending 0 s) ∧
        (m = 1 → r.mode.handover = false → restful →
          ∃ q, exec i s = .next (s.answered ⟨0xC0, tag, .done, 0, 0, []⟩ q) ∧ q.body =
            (s.part.modFace f fun r => r.modMode fun m => { m with mode := .maint }).body) ∧
        (m = 2 → r.mode.handover = false → restful → r.closedForStandby = true →
          ∃ q, exec i s = .next (s.answered ⟨0xC0, tag, .done, 0, 0, []⟩ q) ∧ (q.face f).mode.mode = .standby ∧
            (q.face f).link.pace = .standby ∧ (q.face f).link.standbyTimer = some 1000) ∧
        (m ≠ 0 → r.mode.handover = false → ¬ restful ∨ (m = 2 ∧ r.closedForStandby = false) →
          Unchanged i .setFaceMode tag .busy 0 s)) ∧
      (r.mode.mode = .localCtl → Unchanged i .setFaceMode tag .localControl 0 s) ∧
      (r.mode.mode = .maint →
        (m = 0 → started i 0xC0 true) ∧ (m = 1 → Unchanged i .setFaceMode tag .done 0 s) ∧
        (m = 2 → Unchanged i .setFaceMode tag .wrongMode 0 s)) ∧
      (r.mode.mode = .standby →
        (m = 0 → ∃ q, exec i s = .next (s.answered ⟨0xC0, tag, .done, 0, 0, []⟩ q) ∧
          (q.face f).mode.mode ≠ .standby ∧ (q.face f).mode.wakeRound = true ∧ (q.face f).link.pace = .wake ∧
          (q.face f).link.wakeCount = r.n) ∧
        (m = 1 → Unchanged i .setFaceMode tag .wrongMode 0 s) ∧ (m = 2 → Unchanged i .setFaceMode tag .done 0 s)) ∧
      (r.mode.mode = .fire → Unchanged i .setFaceMode tag .fireActive 0 s)) ∧
    (r.enumerating = true → Unchanged e .enumerateFace tag .busy 0 s) ∧
    (r.enumerating = false →
      (r.mode.mode = .maint → started e 0xC1 false) ∧
      (r.mode.mode = .auto → r.mode.handover = true → Unchanged e .enumerateFace tag .localPending 0 s) ∧
      (r.mode.mode = .auto → r.mode.handover = false → restful → started e 0xC1 false) ∧
      (r.mode.mode = .auto → r.mode.handover = false → ¬ restful → Unchanged e .enumerateFace tag .busy 0 s) ∧
      (r.mode.mode = .unconfigured ∨ r.mode.mode = .standby → Unchanged e .enumerateFace tag .wrongMode 0 s) ∧
      (r.mode.mode = .localCtl → Unchanged e .enumerateFace tag .localControl 0 s) ∧
      (r.mode.mode = .fire → Unchanged e .enumerateFace tag .fireActive 0 s))

/-- The local request: becoming ACTIVE in AUTO it takes the face to LOCAL at rest and makes the handover PENDING
otherwise; in UNCONFIGURED, LOCAL and FIRE it has no effect on the mode, and in MAINT the handover becomes PENDING and
an enumeration starts. Becoming INACTIVE in LOCAL it takes the face to AUTO, and elsewhere it cancels a PENDING
handover. A sample that is not accepted changes its filter alone. At the grant and at the return no automatic-opening
notice waits any longer, so that none opens the face for a stop already computed (R154, R155, R156, R157; that a notice
waits for its command at all is assumption 20: the model's choice). Each change of mode or handover is told of by a MODE
report with its cause, unless reports have been lost (R149). The panel's buttons outside their edges: every sample of
P_ALL, every fall of P_OPEN and P_CLOSE, and a rise that is not accepted change their filters alone; a rising edge of
P_OPEN or P_CLOSE outside LOCAL and FIRE does no more (R148, R158). -/
def Obligations.PanelInputs : Prop :=
  (∀ (f : Face) (active : Bool) (s : State), s.Settled → s.part.present f = true →
      let r := s.part.face f
      let x := r.mode.panel.localReq
      let with' (g : ModeRec → ModeRec) : Part := s.part.modFace f (fun r => r.modMode fun m =>
        g { m with panel := { m.panel with localReq := .taken active } })
      let told (t : State) (why : ModeCause) := t.lossy ∨ ∃ y, t.tells (.mode f y) ∧ y.prev = r.mode.mode ∧
        y.next = (t.part.face f).mode.mode ∧ y.handover = (t.part.face f).mode.handover ∧ y.cause = why ∧
        y.localReq = active ∧ y.berth = r.berth.state ∧ y.dwell = r.berth.dwell
      let becomes (g : ModeRec → ModeRec) (told : State → Prop) := ∃ t, exec (.localRequestChange f active) s = .next t ∧
        t.part.body = (with' g).body ∧ t.pending = s.pending ∧ told t
      let becomesSilent (g : ModeRec → ModeRec) (told : State → Prop) :=
        ∃ t, exec (.localRequestChange f active) s = .next t ∧
          t.part.body = ((with' g).modFace f fun r => { r with notice := false }).body ∧ t.pending = s.pending ∧ told t
      (¬ x.Accepts r.params.fPanel active → exec (.localRequestChange f active) s =
        .next { s with part := s.part.modFace f fun r => r.modMode fun m =>
          { m with panel := { m.panel with localReq := x.passed active } } }) ∧
      (x.Accepts r.params.fPanel active → active = true →
        (r.mode.mode = .auto → r.atRest = true → r.mode.handover = false → becomesSilent (fun m =>
          { m with mode := .localCtl, localAck := true, heldNotice := false }) (told · .handover)) ∧
        (r.mode.mode = .auto → r.atRest = false → becomes (fun m => { m with handover := true })
          fun t => r.mode.handover = false → told t .handoverPending) ∧
        (r.mode.mode = .unconfigured ∨ r.mode.mode = .localCtl ∨ r.mode.mode = .fire → becomes id fun _ => True) ∧
        (r.mode.mode = .maint → r.enumerating = true → becomes (fun m => { m with toAuto := true, handover := true })
          (told · .handoverPending)) ∧
        (r.mode.mode = .maint → r.enumerating = false →
          ∃ t, exec (.localRequestChange f active) s = .next t ∧ (t.part.face f).mode.mode = .maint ∧
            (t.part.face f).mode.handover = true ∧ (t.part.face f).EnumStarted 0 true) ∧
        (r.mode.mode = .standby → ∃ t, exec (.localRequestChange f active) s = .next t ∧
          (t.part.face f).mode.wakeRound = true ∧ (t.part.face f).link.pace = .wake ∧
          (t.part.face f).mode.mode = (if r.atRest then .localCtl else .auto) ∧
          (r.atRest = true → (t.part.face f).notice = false))) ∧
      (x.Accepts r.params.fPanel active → active = false →
        (r.mode.mode = .localCtl → r.mode.handover = false → becomesSilent (fun m =>
          { m with mode := .auto, localAck := false }) (told · .localDropped)) ∧
        (r.mode.mode ≠ .localCtl → becomes (fun m => { m with handover := false })
          fun t => r.mode.handover = true → told t .handoverCancelled))) ∧
  (∀ (f : Face) (s : State), s.Settled → s.part.present f = true →
      let r := s.part.face f
      let n := r.params.fPanel
      let step (x : Filter) (level : Bool) : Filter :=
        if x.primed = true ∧ x.level ≠ level ∧ n ≤ x.run + 1 then .taken level else x.passed level
      let with' (g : Panel → Panel) : Host.Outcome State Fault Refusal :=
        .next { s with part := s.part.modFace f (fun r => r.modMode fun m => { m with panel := g m.panel }) }
      (∀ a, exec (.pAllChange f a) s = with' fun q => { q with pAll := step q.pAll a }) ∧
      (exec (.pOpenEdge f false) s = with' fun q => { q with pOpen := step q.pOpen false }) ∧
      (exec (.pCloseEdge f false) s = with' fun q => { q with pClose := step q.pClose false }) ∧
      (¬ r.mode.panel.pOpen.Accepts n true ∨ r.mode.mode ≠ .localCtl →
        exec (.pOpenEdge f true) s = with' fun q => { q with pOpen := step q.pOpen true }) ∧
      (¬ r.mode.panel.pClose.Accepts n true ∨ (r.mode.mode ≠ .localCtl ∧ r.mode.mode ≠ .fire) →
        exec (.pCloseEdge f true) s = with' fun q => { q with pClose := step q.pClose true }))

/-- The proof logic makes the secured state ASSERTED exactly when the proof bypass is ACTIVE, or the face has geometry,
no configured door is LOST, each one's latest report shows closed, locked and handle NORMAL, and the gap state is
NOT_REQUIRED or PASSED or the gap bypass is ACTIVE (R159). The two bypasses: an accepted level is stored and the secured
state becomes what the proof then gives; nothing else changes, but that an active gap bypass ends a CLOSE waiting in
GAP_WAIT (R132, R159). Each accepted level is told of by a SECURED report of cause BYPASS, unless reports have been lost
(R160). -/
def Obligations.SecuredOutput : Prop :=
  (∀ (f : Face) (cause : SecuredCause) (b : Bool) (p : Part),
    (((recomputeSecured f cause b p).face f).secured = true ↔ (p.face f).ProofHolds) ∧
    { (recomputeSecured f cause b p).face f with secured := (p.face f).secured } = p.face f ∧
    (∀ f', f' ≠ f → (recomputeSecured f cause b p).face f' = p.face f')) ∧
  ∀ (f : Face) (active : Bool) (s : State), s.Settled → s.part.present f = true →
    let r := s.part.face f
    let n := r.params.fPanel
    let proof := { r with mode := { r.mode with panel := { r.mode.panel with proofBypass := .taken active } } }
    let gap := { r with mode := { r.mode with panel := { r.mode.panel with gapBypass := .taken active } } }
    let told (t : State) (proofOn gapOn : Bool) := t.lossy ∨ ∃ x, t.tells (.secured f x) ∧ x.prev = r.secured ∧
      x.next = (t.part.face f).secured ∧ x.cause = .bypass ∧ x.proofBypass = proofOn ∧ x.gapBypass = gapOn ∧
      x.gap = r.gap.state ∧ x.berth = r.berth.state ∧ x.dwell = r.berth.dwell
    (¬ r.mode.panel.proofBypass.Accepts n active → exec (.proofBypassChange f active) s =
      .next { s with part := s.part.modFace f (fun r => r.modMode fun m =>
        { m with panel := { m.panel with proofBypass := m.panel.proofBypass.passed active } }) }) ∧
    (r.mode.panel.proofBypass.Accepts n active → ∃ t, exec (.proofBypassChange f active) s = .next t ∧
      t.part.body = (s.part.modFace f fun _ => { proof with secured := (t.part.face f).secured }).body ∧
      ((t.part.face f).secured = true ↔ proof.ProofHolds) ∧ told t active r.gapBypass) ∧
    (¬ r.mode.panel.gapBypass.Accepts n active → exec (.gapBypassChange f active) s =
      .next { s with part := s.part.modFace f (fun r => r.modMode fun m =>
        { m with panel := { m.panel with gapBypass := m.panel.gapBypass.passed active } }) }) ∧
    (r.mode.panel.gapBypass.Accepts n active → active = false ∨ r.gapWaiting = false →
      ∃ t, exec (.gapBypassChange f active) s = .next t ∧
        t.part.body = (s.part.modFace f fun _ => { gap with secured := (t.part.face f).secured }).body ∧
        ((t.part.face f).secured = true ↔ gap.ProofHolds) ∧ told t r.proofBypass active) ∧
    (r.mode.panel.gapBypass.Accepts n active → active = true → r.gapWaiting = true →
      ∃ t, exec (.gapBypassChange f active) s = .next t ∧ (t.part.face f).op = none ∧
        (t.part.face f).gap.state = r.gap.state ∧ ((t.part.face f).secured = true ↔ gap.ProofHolds) ∧
        told t r.proofBypass active)

/-- The cue of a configured door is the first row of the table that holds; a changed cue is kept in the record and made
pending at the link unless it is the last one sent (R72, R96). -/
def Obligations.CuesChosen : Prop :=
  ∀ (r : FaceRec) (d : DoorIx), r.configured d = true →
    let x := r.doors[d]
    let train := r.berth.state = .stopped ∨ r.berth.state = .serving ∨ r.berth.state = .cleared
    let q := chooseCue d r
    let c := q.doors[d].cue
    (x.state = .unknown → c = .dark) ∧ (x.state = .released → c = .released) ∧
    (x.state = .obstructed ∨ x.state = .discrepant → c = .fault) ∧ (x.state = .held → c = .hold) ∧
    (x.state = .preClose ∨ x.state = .closeQueued ∨ x.state = .closing ∨ x.state = .proving ∨ x.state = .reopening →
      c = .closing) ∧
    (x.state = .closedLocked ∨ x.state = .openQueued ∨ x.state = .unlocking ∨ x.state = .opening ∨ x.state = .opened ∨
        x.state = .lost →
      (x.iso ≠ .none → train → c = .noService) ∧
      (x.iso = .none ∨ ¬ train →
        (x.verdict = .vMatch → train → c = .openHere) ∧ (x.verdict = .vMatch → ¬ train → c = .dark) ∧
        (x.verdict = .vPartial ∨ x.verdict = .vNone → c = .noService) ∧ (x.verdict = .vUnknown → c = .dark))) ∧
    (c = x.cue → q = r) ∧
    (c ≠ x.cue → q.health[d].pendingCue = if r.health[d].lastCue = some c then none else some c) ∧
    (∀ e : DoorIx, e ≠ d → q.doors[e] = r.doors[e] ∧ q.health[e] = r.health[e])

/-! ### The report queue (chapter 10) -/

/-- The class of each report, by its kind and, for BERTH, by the state entered (section 10.4); and queueing a report: an
unsent DOOR report of the same door is removed; with fewer than 64 left the report joins the tail; otherwise the oldest
report of the lowest class below its own gives way and LOSS is set; with none such the report is discarded and LOSS is
set (R170). -/
def Obligations.ReportQueued : Prop :=
  ((∀ c st v, (Report.start c st v).cls = .record) ∧ (∀ f r, (Report.align f r).cls = .record) ∧
  (∀ f op e g, (Report.opDone f op e g).cls = .record) ∧ (∀ f d es, (Report.counts f d es).cls = .record) ∧
  (∀ f r, (Report.axleFault f r).cls = .safety) ∧ (∀ f r, (Report.linkEnumerated f r).cls = .safety) ∧
  (∀ f d x g, (Report.linkLost f d x g).cls = .safety) ∧ (∀ r, (Report.supply r).cls = .safety) ∧
  (∀ f r, (Report.release f r).cls = .safety) ∧ (∀ f r, (Report.releaseCleared f r).cls = .safety) ∧
  (∀ f r, (Report.mode f r).cls = .safety) ∧ (∀ f r, (Report.secured f r).cls = .safety) ∧
  (∀ f d r, (Report.door f d r).cls = .state) ∧ (∀ f r, (Report.gap f r).cls = .state) ∧
  (∀ f r, (Report.berth f r).cls = if r.next = .rolling then .safety else .state)) ∧
  ∀ (x : Report) (p : Part),
    let q := queueReport x p
    let kept := p.reports.filter fun y => decide (x.doorKey = none) || decide (y.doorKey ≠ x.doorKey)
    let lower (c : ReportClass) := c.ctorIdx < x.cls.ctorIdx
    q.body = p.body ∧
    (kept.length < 64 → q.reports = kept ++ [x] ∧ q.loss = p.loss) ∧
    (64 ≤ kept.length →
      q.loss = true ∧
      ((∀ y ∈ kept, ¬ lower y.cls) → q.reports = kept) ∧
      (∀ (a b : List Report) (y : Report), kept = a ++ y :: b → lower y.cls →
        (∀ z ∈ kept, y.cls.ctorIdx ≤ z.cls.ctorIdx) → (∀ z ∈ a, z.cls ≠ y.cls) → q.reports = a ++ b ++ [x]))
end

