-- ==== Sys2Proof/Laws/State.lean ====
section
/-! SUPPORT. Reading a record after it has been updated: one lemma for each field an update keeps or sets. -/

namespace Sys2Proof.Machine

/-! ### Faces of a part -/

@[simp] theorem Part.modFace_self (p : Part) (f : Face) (g : FaceRec → FaceRec) :
    (p.modFace f g).face f = g (p.face f) := by cases f <;> rfl

theorem Part.modFace_other (p : Part) {f f' : Face} (h : f ≠ f') (g : FaceRec → FaceRec) :
    (p.modFace f g).face f' = p.face f' := by cases f <;> cases f' <;> first | rfl | exact absurd rfl h

theorem Part.modFace_face (p : Part) (f f' : Face) (g : FaceRec → FaceRec) :
    (p.modFace f g).face f' = if f' = f then g (p.face f') else p.face f' := by
  cases f <;> cases f' <;> rfl

/-- A part rebuilt with the faces of `p` has the faces of `p`, whatever its other fields. -/
@[simp] theorem Part.face_mk (p : Part) (st : Straps) (pr : Vector (Option Profile) 8) (pa : PartParams)
    (ar : Arbiter) (su : Supply) (fi : Fire) (re : List Report) (lo : Bool) (f : Face) :
    Part.face ⟨p.faceA, p.faceB, st, pr, pa, ar, su, fi, re, lo⟩ f = p.face f := by cases f <;> rfl

@[simp] theorem Part.present_mk (p : Part) (a b : FaceRec) (pr : Vector (Option Profile) 8) (pa : PartParams)
    (ar : Arbiter) (su : Supply) (fi : Fire) (re : List Report) (lo : Bool) (f : Face) :
    Part.present ⟨a, b, p.straps, pr, pa, ar, su, fi, re, lo⟩ f = p.present f := by cases f <;> rfl

@[simp] theorem Part.modFace_present (p : Part) (f f' : Face) (g : FaceRec → FaceRec) :
    (p.modFace f g).present f' = p.present f' := by cases f <;> cases f' <;> rfl

@[simp] theorem Part.modFace_straps (p : Part) (f : Face) (g : FaceRec → FaceRec) : (p.modFace f g).straps = p.straps := by
  cases f <;> rfl

@[simp] theorem Part.modFace_profiles (p : Part) (f : Face) (g : FaceRec → FaceRec) : (p.modFace f g).profiles = p.profiles := by
  cases f <;> rfl

@[simp] theorem Part.modFace_params (p : Part) (f : Face) (g : FaceRec → FaceRec) : (p.modFace f g).params = p.params := by
  cases f <;> rfl

@[simp] theorem Part.modFace_arb (p : Part) (f : Face) (g : FaceRec → FaceRec) : (p.modFace f g).arb = p.arb := by
  cases f <;> rfl

@[simp] theorem Part.modFace_supply (p : Part) (f : Face) (g : FaceRec → FaceRec) : (p.modFace f g).supply = p.supply := by
  cases f <;> rfl

@[simp] theorem Part.modFace_fire (p : Part) (f : Face) (g : FaceRec → FaceRec) : (p.modFace f g).fire = p.fire := by
  cases f <;> rfl

@[simp] theorem Part.modFace_reports (p : Part) (f : Face) (g : FaceRec → FaceRec) : (p.modFace f g).reports = p.reports := by
  cases f <;> rfl

@[simp] theorem Part.modFace_loss (p : Part) (f : Face) (g : FaceRec → FaceRec) : (p.modFace f g).loss = p.loss := by
  cases f <;> rfl

/-! ### `modDoor` -/

@[simp] theorem FaceRec.modDoor_geom (r : FaceRec) (d : DoorIx) (g : Door → Door) : (r.modDoor d g).geom = r.geom := rfl

@[simp] theorem FaceRec.modDoor_classes (r : FaceRec) (d : DoorIx) (g : Door → Door) : (r.modDoor d g).classes = r.classes := rfl

@[simp] theorem FaceRec.modDoor_params (r : FaceRec) (d : DoorIx) (g : Door → Door) : (r.modDoor d g).params = r.params := rfl

@[simp] theorem FaceRec.modDoor_berth (r : FaceRec) (d : DoorIx) (g : Door → Door) : (r.modDoor d g).berth = r.berth := rfl

@[simp] theorem FaceRec.modDoor_align (r : FaceRec) (d : DoorIx) (g : Door → Door) : (r.modDoor d g).align = r.align := rfl

@[simp] theorem FaceRec.modDoor_link (r : FaceRec) (d : DoorIx) (g : Door → Door) : (r.modDoor d g).link = r.link := rfl

@[simp] theorem FaceRec.modDoor_health (r : FaceRec) (d : DoorIx) (g : Door → Door) : (r.modDoor d g).health = r.health := rfl

@[simp] theorem FaceRec.modDoor_doors_self (r : FaceRec) (d : DoorIx) (g : Door → Door) : (r.modDoor d g).doors[d.val] = g r.doors[d.val] := by
  simp [FaceRec.modDoor]

theorem FaceRec.modDoor_doors_other (r : FaceRec) {d e : DoorIx} (h : d ≠ e) (g : Door → Door) :
    (r.modDoor d g).doors[e.val] = r.doors[e.val] := by
  have : d.val ≠ e.val := fun q => h (Fin.ext q)
  simp [FaceRec.modDoor, this]

theorem FaceRec.modDoor_doors (r : FaceRec) (d e : DoorIx) (g : Door → Door) :
    (r.modDoor d g).doors[e.val] = if d = e then g r.doors[e.val] else r.doors[e.val] := by
  by_cases h : d = e
  · subst h; simp
  · simp [FaceRec.modDoor_doors_other r h g, h]

@[simp] theorem FaceRec.modDoor_sense (r : FaceRec) (d : DoorIx) (g : Door → Door) : (r.modDoor d g).sense = r.sense := rfl

@[simp] theorem FaceRec.modDoor_op (r : FaceRec) (d : DoorIx) (g : Door → Door) : (r.modDoor d g).op = r.op := rfl

@[simp] theorem FaceRec.modDoor_warning (r : FaceRec) (d : DoorIx) (g : Door → Door) : (r.modDoor d g).warning = r.warning := rfl
@[simp] theorem FaceRec.modDoor_notice (r : FaceRec) (d : DoorIx) (g : Door → Door) : (r.modDoor d g).notice = r.notice := rfl

@[simp] theorem FaceRec.modDoor_gap (r : FaceRec) (d : DoorIx) (g : Door → Door) : (r.modDoor d g).gap = r.gap := rfl

@[simp] theorem FaceRec.modDoor_mode (r : FaceRec) (d : DoorIx) (g : Door → Door) : (r.modDoor d g).mode = r.mode := rfl

@[simp] theorem FaceRec.modDoor_secured (r : FaceRec) (d : DoorIx) (g : Door → Door) : (r.modDoor d g).secured = r.secured := rfl

/-! ### `modHealth` -/

@[simp] theorem FaceRec.modHealth_geom (r : FaceRec) (d : DoorIx) (g : Health → Health) : (r.modHealth d g).geom = r.geom := rfl

@[simp] theorem FaceRec.modHealth_classes (r : FaceRec) (d : DoorIx) (g : Health → Health) : (r.modHealth d g).classes = r.classes := rfl

@[simp] theorem FaceRec.modHealth_params (r : FaceRec) (d : DoorIx) (g : Health → Health) : (r.modHealth d g).params = r.params := rfl

@[simp] theorem FaceRec.modHealth_berth (r : FaceRec) (d : DoorIx) (g : Health → Health) : (r.modHealth d g).berth = r.berth := rfl

@[simp] theorem FaceRec.modHealth_align (r : FaceRec) (d : DoorIx) (g : Health → Health) : (r.modHealth d g).align = r.align := rfl

@[simp] theorem FaceRec.modHealth_link (r : FaceRec) (d : DoorIx) (g : Health → Health) : (r.modHealth d g).link = r.link := rfl

@[simp] theorem FaceRec.modHealth_health_self (r : FaceRec) (d : DoorIx) (g : Health → Health) : (r.modHealth d g).health[d.val] = g r.health[d.val] := by
  simp [FaceRec.modHealth]

theorem FaceRec.modHealth_health_other (r : FaceRec) {d e : DoorIx} (h : d ≠ e) (g : Health → Health) :
    (r.modHealth d g).health[e.val] = r.health[e.val] := by
  have : d.val ≠ e.val := fun q => h (Fin.ext q)
  simp [FaceRec.modHealth, this]

theorem FaceRec.modHealth_health (r : FaceRec) (d e : DoorIx) (g : Health → Health) :
    (r.modHealth d g).health[e.val] = if d = e then g r.health[e.val] else r.health[e.val] := by
  by_cases h : d = e
  · subst h; simp
  · simp [FaceRec.modHealth_health_other r h g, h]

@[simp] theorem FaceRec.modHealth_doors (r : FaceRec) (d : DoorIx) (g : Health → Health) : (r.modHealth d g).doors = r.doors := rfl

@[simp] theorem FaceRec.modHealth_sense (r : FaceRec) (d : DoorIx) (g : Health → Health) : (r.modHealth d g).sense = r.sense := rfl

@[simp] theorem FaceRec.modHealth_op (r : FaceRec) (d : DoorIx) (g : Health → Health) : (r.modHealth d g).op = r.op := rfl

@[simp] theorem FaceRec.modHealth_warning (r : FaceRec) (d : DoorIx) (g : Health → Health) : (r.modHealth d g).warning = r.warning := rfl
@[simp] theorem FaceRec.modHealth_notice (r : FaceRec) (d : DoorIx) (g : Health → Health) : (r.modHealth d g).notice = r.notice := rfl

@[simp] theorem FaceRec.modHealth_gap (r : FaceRec) (d : DoorIx) (g : Health → Health) : (r.modHealth d g).gap = r.gap := rfl

@[simp] theorem FaceRec.modHealth_mode (r : FaceRec) (d : DoorIx) (g : Health → Health) : (r.modHealth d g).mode = r.mode := rfl

@[simp] theorem FaceRec.modHealth_secured (r : FaceRec) (d : DoorIx) (g : Health → Health) : (r.modHealth d g).secured = r.secured := rfl

/-! ### A health entry as a resend or a poll of its door is sent (R67) -/

@[simp] theorem Health.polled_awaited (h : Health) : h.polled.awaited = h.awaited := rfl

@[simp] theorem Health.polled_confirm (h : Health) : h.polled.confirm = h.awaited.any Awaited.due := rfl

/-- A poll sets the mark just where the awaited command is due for judgement. -/
theorem Health.polled_confirm_iff (h : Health) : h.polled.confirm = true ↔ ∃ a, h.awaited = some a ∧ a.due = true := by
  simp [Option.any_eq_true]

/-- A resend of the awaited id makes the command due for judgement. -/
theorem Health.resent_of_eq {h : Health} {a : Awaited} {id : Nat} (e : h.awaited = some a) (i : a.id = id) :
    h.resent id = { h with awaited := some { a with due := true } } := by
  simp [Health.resent, e, i]

/-- A resend of another id, or with nothing awaited, changes no health entry. -/
theorem Health.resent_of_ne {h : Health} {id : Nat} (e : ∀ a, h.awaited = some a → a.id ≠ id) : h.resent id = h := by
  obtain ⟨_, _, _, _, w, _, _, _, _⟩ := h
  cases w with
  | none => rfl
  | some a => simp [Health.resent, e a rfl]

/-! ### `modSense` -/

@[simp] theorem FaceRec.modSense_geom (r : FaceRec) (d : DoorIx) (g : Sense → Sense) : (r.modSense d g).geom = r.geom := rfl

@[simp] theorem FaceRec.modSense_classes (r : FaceRec) (d : DoorIx) (g : Sense → Sense) : (r.modSense d g).classes = r.classes := rfl

@[simp] theorem FaceRec.modSense_params (r : FaceRec) (d : DoorIx) (g : Sense → Sense) : (r.modSense d g).params = r.params := rfl

@[simp] theorem FaceRec.modSense_berth (r : FaceRec) (d : DoorIx) (g : Sense → Sense) : (r.modSense d g).berth = r.berth := rfl

@[simp] theorem FaceRec.modSense_align (r : FaceRec) (d : DoorIx) (g : Sense → Sense) : (r.modSense d g).align = r.align := rfl

@[simp] theorem FaceRec.modSense_link (r : FaceRec) (d : DoorIx) (g : Sense → Sense) : (r.modSense d g).link = r.link := rfl

@[simp] theorem FaceRec.modSense_health (r : FaceRec) (d : DoorIx) (g : Sense → Sense) : (r.modSense d g).health = r.health := rfl

@[simp] theorem FaceRec.modSense_doors (r : FaceRec) (d : DoorIx) (g : Sense → Sense) : (r.modSense d g).doors = r.doors := rfl

@[simp] theorem FaceRec.modSense_sense_self (r : FaceRec) (d : DoorIx) (g : Sense → Sense) : (r.modSense d g).sense[d.val] = g r.sense[d.val] := by
  simp [FaceRec.modSense]

theorem FaceRec.modSense_sense_other (r : FaceRec) {d e : DoorIx} (h : d ≠ e) (g : Sense → Sense) :
    (r.modSense d g).sense[e.val] = r.sense[e.val] := by
  have : d.val ≠ e.val := fun q => h (Fin.ext q)
  simp [FaceRec.modSense, this]

theorem FaceRec.modSense_sense (r : FaceRec) (d e : DoorIx) (g : Sense → Sense) :
    (r.modSense d g).sense[e.val] = if d = e then g r.sense[e.val] else r.sense[e.val] := by
  by_cases h : d = e
  · subst h; simp
  · simp [FaceRec.modSense_sense_other r h g, h]

@[simp] theorem FaceRec.modSense_op (r : FaceRec) (d : DoorIx) (g : Sense → Sense) : (r.modSense d g).op = r.op := rfl

@[simp] theorem FaceRec.modSense_warning (r : FaceRec) (d : DoorIx) (g : Sense → Sense) : (r.modSense d g).warning = r.warning := rfl
@[simp] theorem FaceRec.modSense_notice (r : FaceRec) (d : DoorIx) (g : Sense → Sense) : (r.modSense d g).notice = r.notice := rfl

@[simp] theorem FaceRec.modSense_gap (r : FaceRec) (d : DoorIx) (g : Sense → Sense) : (r.modSense d g).gap = r.gap := rfl

@[simp] theorem FaceRec.modSense_mode (r : FaceRec) (d : DoorIx) (g : Sense → Sense) : (r.modSense d g).mode = r.mode := rfl

@[simp] theorem FaceRec.modSense_secured (r : FaceRec) (d : DoorIx) (g : Sense → Sense) : (r.modSense d g).secured = r.secured := rfl

/-! ### `modLink` -/

@[simp] theorem FaceRec.modLink_geom (r : FaceRec) (g : Link → Link) : (r.modLink g).geom = r.geom := rfl

@[simp] theorem FaceRec.modLink_classes (r : FaceRec) (g : Link → Link) : (r.modLink g).classes = r.classes := rfl

@[simp] theorem FaceRec.modLink_params (r : FaceRec) (g : Link → Link) : (r.modLink g).params = r.params := rfl

@[simp] theorem FaceRec.modLink_berth (r : FaceRec) (g : Link → Link) : (r.modLink g).berth = r.berth := rfl

@[simp] theorem FaceRec.modLink_align (r : FaceRec) (g : Link → Link) : (r.modLink g).align = r.align := rfl

@[simp] theorem FaceRec.modLink_link (r : FaceRec) (g : Link → Link) : (r.modLink g).link = g r.link := rfl

@[simp] theorem FaceRec.modLink_health (r : FaceRec) (g : Link → Link) : (r.modLink g).health = r.health := rfl

@[simp] theorem FaceRec.modLink_doors (r : FaceRec) (g : Link → Link) : (r.modLink g).doors = r.doors := rfl

@[simp] theorem FaceRec.modLink_sense (r : FaceRec) (g : Link → Link) : (r.modLink g).sense = r.sense := rfl

@[simp] theorem FaceRec.modLink_op (r : FaceRec) (g : Link → Link) : (r.modLink g).op = r.op := rfl

@[simp] theorem FaceRec.modLink_warning (r : FaceRec) (g : Link → Link) : (r.modLink g).warning = r.warning := rfl
@[simp] theorem FaceRec.modLink_notice (r : FaceRec) (g : Link → Link) : (r.modLink g).notice = r.notice := rfl

@[simp] theorem FaceRec.modLink_gap (r : FaceRec) (g : Link → Link) : (r.modLink g).gap = r.gap := rfl

@[simp] theorem FaceRec.modLink_mode (r : FaceRec) (g : Link → Link) : (r.modLink g).mode = r.mode := rfl

@[simp] theorem FaceRec.modLink_secured (r : FaceRec) (g : Link → Link) : (r.modLink g).secured = r.secured := rfl

/-! ### `modBerth` -/

@[simp] theorem FaceRec.modBerth_geom (r : FaceRec) (g : Berth → Berth) : (r.modBerth g).geom = r.geom := rfl

@[simp] theorem FaceRec.modBerth_classes (r : FaceRec) (g : Berth → Berth) : (r.modBerth g).classes = r.classes := rfl

@[simp] theorem FaceRec.modBerth_params (r : FaceRec) (g : Berth → Berth) : (r.modBerth g).params = r.params := rfl

@[simp] theorem FaceRec.modBerth_berth (r : FaceRec) (g : Berth → Berth) : (r.modBerth g).berth = g r.berth := rfl

@[simp] theorem FaceRec.modBerth_align (r : FaceRec) (g : Berth → Berth) : (r.modBerth g).align = r.align := rfl

@[simp] theorem FaceRec.modBerth_link (r : FaceRec) (g : Berth → Berth) : (r.modBerth g).link = r.link := rfl

@[simp] theorem FaceRec.modBerth_health (r : FaceRec) (g : Berth → Berth) : (r.modBerth g).health = r.health := rfl

@[simp] theorem FaceRec.modBerth_doors (r : FaceRec) (g : Berth → Berth) : (r.modBerth g).doors = r.doors := rfl

@[simp] theorem FaceRec.modBerth_sense (r : FaceRec) (g : Berth → Berth) : (r.modBerth g).sense = r.sense := rfl

@[simp] theorem FaceRec.modBerth_op (r : FaceRec) (g : Berth → Berth) : (r.modBerth g).op = r.op := rfl

@[simp] theorem FaceRec.modBerth_warning (r : FaceRec) (g : Berth → Berth) : (r.modBerth g).warning = r.warning := rfl
@[simp] theorem FaceRec.modBerth_notice (r : FaceRec) (g : Berth → Berth) : (r.modBerth g).notice = r.notice := rfl

@[simp] theorem FaceRec.modBerth_gap (r : FaceRec) (g : Berth → Berth) : (r.modBerth g).gap = r.gap := rfl

@[simp] theorem FaceRec.modBerth_mode (r : FaceRec) (g : Berth → Berth) : (r.modBerth g).mode = r.mode := rfl

@[simp] theorem FaceRec.modBerth_secured (r : FaceRec) (g : Berth → Berth) : (r.modBerth g).secured = r.secured := rfl

/-! ### `modGap` -/

@[simp] theorem FaceRec.modGap_geom (r : FaceRec) (g : GapRec → GapRec) : (r.modGap g).geom = r.geom := rfl

@[simp] theorem FaceRec.modGap_classes (r : FaceRec) (g : GapRec → GapRec) : (r.modGap g).classes = r.classes := rfl

@[simp] theorem FaceRec.modGap_params (r : FaceRec) (g : GapRec → GapRec) : (r.modGap g).params = r.params := rfl

@[simp] theorem FaceRec.modGap_berth (r : FaceRec) (g : GapRec → GapRec) : (r.modGap g).berth = r.berth := rfl

@[simp] theorem FaceRec.modGap_align (r : FaceRec) (g : GapRec → GapRec) : (r.modGap g).align = r.align := rfl

@[simp] theorem FaceRec.modGap_link (r : FaceRec) (g : GapRec → GapRec) : (r.modGap g).link = r.link := rfl

@[simp] theorem FaceRec.modGap_health (r : FaceRec) (g : GapRec → GapRec) : (r.modGap g).health = r.health := rfl

@[simp] theorem FaceRec.modGap_doors (r : FaceRec) (g : GapRec → GapRec) : (r.modGap g).doors = r.doors := rfl

@[simp] theorem FaceRec.modGap_sense (r : FaceRec) (g : GapRec → GapRec) : (r.modGap g).sense = r.sense := rfl

@[simp] theorem FaceRec.modGap_op (r : FaceRec) (g : GapRec → GapRec) : (r.modGap g).op = r.op := rfl

@[simp] theorem FaceRec.modGap_warning (r : FaceRec) (g : GapRec → GapRec) : (r.modGap g).warning = r.warning := rfl
@[simp] theorem FaceRec.modGap_notice (r : FaceRec) (g : GapRec → GapRec) : (r.modGap g).notice = r.notice := rfl

@[simp] theorem FaceRec.modGap_gap (r : FaceRec) (g : GapRec → GapRec) : (r.modGap g).gap = g r.gap := rfl

@[simp] theorem FaceRec.modGap_mode (r : FaceRec) (g : GapRec → GapRec) : (r.modGap g).mode = r.mode := rfl

@[simp] theorem FaceRec.modGap_secured (r : FaceRec) (g : GapRec → GapRec) : (r.modGap g).secured = r.secured := rfl

/-! ### `modMode` -/

@[simp] theorem FaceRec.modMode_geom (r : FaceRec) (g : ModeRec → ModeRec) : (r.modMode g).geom = r.geom := rfl

@[simp] theorem FaceRec.modMode_classes (r : FaceRec) (g : ModeRec → ModeRec) : (r.modMode g).classes = r.classes := rfl

@[simp] theorem FaceRec.modMode_params (r : FaceRec) (g : ModeRec → ModeRec) : (r.modMode g).params = r.params := rfl

@[simp] theorem FaceRec.modMode_berth (r : FaceRec) (g : ModeRec → ModeRec) : (r.modMode g).berth = r.berth := rfl

@[simp] theorem FaceRec.modMode_align (r : FaceRec) (g : ModeRec → ModeRec) : (r.modMode g).align = r.align := rfl

@[simp] theorem FaceRec.modMode_link (r : FaceRec) (g : ModeRec → ModeRec) : (r.modMode g).link = r.link := rfl

@[simp] theorem FaceRec.modMode_health (r : FaceRec) (g : ModeRec → ModeRec) : (r.modMode g).health = r.health := rfl

@[simp] theorem FaceRec.modMode_doors (r : FaceRec) (g : ModeRec → ModeRec) : (r.modMode g).doors = r.doors := rfl

@[simp] theorem FaceRec.modMode_sense (r : FaceRec) (g : ModeRec → ModeRec) : (r.modMode g).sense = r.sense := rfl

@[simp] theorem FaceRec.modMode_op (r : FaceRec) (g : ModeRec → ModeRec) : (r.modMode g).op = r.op := rfl

@[simp] theorem FaceRec.modMode_warning (r : FaceRec) (g : ModeRec → ModeRec) : (r.modMode g).warning = r.warning := rfl
@[simp] theorem FaceRec.modMode_notice (r : FaceRec) (g : ModeRec → ModeRec) : (r.modMode g).notice = r.notice := rfl

@[simp] theorem FaceRec.modMode_gap (r : FaceRec) (g : ModeRec → ModeRec) : (r.modMode g).gap = r.gap := rfl

@[simp] theorem FaceRec.modMode_mode (r : FaceRec) (g : ModeRec → ModeRec) : (r.modMode g).mode = g r.mode := rfl

@[simp] theorem FaceRec.modMode_secured (r : FaceRec) (g : ModeRec → ModeRec) : (r.modMode g).secured = r.secured := rfl

/-! ### `dropNotice` -/

@[simp] theorem FaceRec.dropNotice_notice (r : FaceRec) : r.dropNotice.notice = false := rfl

@[simp] theorem FaceRec.dropNotice_geom (r : FaceRec) : r.dropNotice.geom = r.geom := rfl

@[simp] theorem FaceRec.dropNotice_classes (r : FaceRec) : r.dropNotice.classes = r.classes := rfl

@[simp] theorem FaceRec.dropNotice_params (r : FaceRec) : r.dropNotice.params = r.params := rfl

@[simp] theorem FaceRec.dropNotice_berth (r : FaceRec) : r.dropNotice.berth = r.berth := rfl

@[simp] theorem FaceRec.dropNotice_align (r : FaceRec) : r.dropNotice.align = r.align := rfl

@[simp] theorem FaceRec.dropNotice_link (r : FaceRec) : r.dropNotice.link = r.link := rfl

@[simp] theorem FaceRec.dropNotice_health (r : FaceRec) : r.dropNotice.health = r.health := rfl

@[simp] theorem FaceRec.dropNotice_doors (r : FaceRec) : r.dropNotice.doors = r.doors := rfl

@[simp] theorem FaceRec.dropNotice_sense (r : FaceRec) : r.dropNotice.sense = r.sense := rfl

@[simp] theorem FaceRec.dropNotice_op (r : FaceRec) : r.dropNotice.op = r.op := rfl

@[simp] theorem FaceRec.dropNotice_warning (r : FaceRec) : r.dropNotice.warning = r.warning := rfl

@[simp] theorem FaceRec.dropNotice_gap (r : FaceRec) : r.dropNotice.gap = r.gap := rfl

@[simp] theorem FaceRec.dropNotice_mode (r : FaceRec) : r.dropNotice.mode = r.mode := rfl

@[simp] theorem FaceRec.dropNotice_secured (r : FaceRec) : r.dropNotice.secured = r.secured := rfl

/-! ### Door records -/

@[simp] theorem Door.enter_state (x : Door) (s : DoorState) : (x.enter s).state = s := rfl

@[simp] theorem Door.enter_hostIso (x : Door) (s : DoorState) : (x.enter s).hostIso = x.hostIso := rfl

@[simp] theorem Door.enter_keyIso (x : Door) (s : DoorState) : (x.enter s).keyIso = x.keyIso := rfl

@[simp] theorem Door.enter_latch (x : Door) (s : DoorState) : (x.enter s).latch = x.latch := rfl

@[simp] theorem Door.enter_late (x : Door) (s : DoorState) : (x.enter s).late = x.late := rfl

@[simp] theorem Door.enter_partialOpen (x : Door) (s : DoorState) : (x.enter s).partialOpen = x.partialOpen := rfl

@[simp] theorem Door.enter_forced (x : Door) (s : DoorState) : (x.enter s).forced = x.forced := rfl

@[simp] theorem Door.enter_report (x : Door) (s : DoorState) : (x.enter s).report = x.report := rfl

@[simp] theorem Door.enter_order (x : Door) (s : DoorState) : (x.enter s).order = x.order := rfl

@[simp] theorem Door.enter_attempts (x : Door) (s : DoorState) : (x.enter s).attempts = x.attempts := rfl

@[simp] theorem Door.enter_gapReopens (x : Door) (s : DoorState) : (x.enter s).gapReopens = x.gapReopens := rfl

@[simp] theorem Door.enter_counts (x : Door) (s : DoorState) : (x.enter s).counts = x.counts := rfl

@[simp] theorem Door.enter_verdict (x : Door) (s : DoorState) : (x.enter s).verdict = x.verdict := rfl

@[simp] theorem Door.enter_ov (x : Door) (s : DoorState) : (x.enter s).ov = x.ov := rfl

@[simp] theorem Door.enter_cue (x : Door) (s : DoorState) : (x.enter s).cue = x.cue := rfl

@[simp] theorem Door.enter_unlockT (x : Door) (s : DoorState) : (x.enter s).unlockT = x.unlockT := rfl

@[simp] theorem Door.enter_motionT (x : Door) (s : DoorState) : (x.enter s).motionT = x.motionT := rfl

@[simp] theorem Door.enter_lockProofT (x : Door) (s : DoorState) : (x.enter s).lockProofT = x.lockProofT := rfl

@[simp] theorem Door.enter_pauseT (x : Door) (s : DoorState) : (x.enter s).pauseT = x.pauseT := rfl

@[simp] theorem Door.enter_startT (x : Door) (s : DoorState) : (x.enter s).startT = x.startT := rfl

@[simp] theorem Door.stopTimers_state (x : Door) : x.stopTimers.state = x.state := rfl

@[simp] theorem Door.stopTimers_hostIso (x : Door) : x.stopTimers.hostIso = x.hostIso := rfl

@[simp] theorem Door.stopTimers_keyIso (x : Door) : x.stopTimers.keyIso = x.keyIso := rfl

@[simp] theorem Door.stopTimers_latch (x : Door) : x.stopTimers.latch = x.latch := rfl

@[simp] theorem Door.stopTimers_late (x : Door) : x.stopTimers.late = x.late := rfl

@[simp] theorem Door.stopTimers_partialOpen (x : Door) : x.stopTimers.partialOpen = x.partialOpen := rfl

@[simp] theorem Door.stopTimers_forced (x : Door) : x.stopTimers.forced = x.forced := rfl

@[simp] theorem Door.stopTimers_report (x : Door) : x.stopTimers.report = x.report := rfl

@[simp] theorem Door.stopTimers_order (x : Door) : x.stopTimers.order = x.order := rfl

@[simp] theorem Door.stopTimers_attempts (x : Door) : x.stopTimers.attempts = x.attempts := rfl

@[simp] theorem Door.stopTimers_gapReopens (x : Door) : x.stopTimers.gapReopens = x.gapReopens := rfl

@[simp] theorem Door.stopTimers_counts (x : Door) : x.stopTimers.counts = x.counts := rfl

@[simp] theorem Door.stopTimers_verdict (x : Door) : x.stopTimers.verdict = x.verdict := rfl

@[simp] theorem Door.stopTimers_ov (x : Door) : x.stopTimers.ov = x.ov := rfl

@[simp] theorem Door.stopTimers_cue (x : Door) : x.stopTimers.cue = x.cue := rfl

@[simp] theorem Door.stopTimers_unlockT (x : Door) : x.stopTimers.unlockT = none := rfl

@[simp] theorem Door.stopTimers_motionT (x : Door) : x.stopTimers.motionT = none := rfl

@[simp] theorem Door.stopTimers_lockProofT (x : Door) : x.stopTimers.lockProofT = none := rfl

@[simp] theorem Door.stopTimers_pauseT (x : Door) : x.stopTimers.pauseT = none := rfl

@[simp] theorem Door.stopTimers_startT (x : Door) : x.stopTimers.startT = none := rfl

/-! ### `mapVec` -/

@[simp] theorem mapVec_get {α β : Type} {k : Nat} (g : α → β) (v : Vector α k) (i : Fin k) :
    (mapVec g v)[i.val] = g v[i.val] := by simp [mapVec]

end Sys2Proof.Machine
end

