-- ==== Sys2Proof/Laws/Settle.lean ====
section
/-! SUPPORT. What the operations that run at the end of every event leave alone: the stored configuration, the
alignment record, a door's record but for its cue and unlock timer, the beams, the berth record but for its state
and settle timer, a door's link health, and the part-wide blocks. -/

namespace Sys2Proof.Machine

/-! ### Views -/

/-- The stored configuration of a face. -/
def FaceRec.config (r : FaceRec) : Option Geometry × Vector MotionClass 4 × FaceParams := (r.geom, r.classes, r.params)

/-- A door record without its cue and unlock timer. -/
def Door.core (x : Door) : Door := { x with cue := .dark, unlockT := none }

/-- A berth record without its state and settle timer. -/
def Berth.core (b : Berth) : Berth := { b with state := .empty, settle := none }

/-- Health, LOST reason and miss count of a health entry. -/
def Health.core (h : Health) : HealthState × Option LostReason × Nat := (h.health, h.reason, h.miss)

/-- The part-wide blocks but for the report queue. -/
def Part.wide (p : Part) : Straps × Vector (Option Profile) 8 × PartParams × Arbiter × Supply × Fire :=
  (p.straps, p.profiles, p.params, p.arb, p.supply, p.fire)

/-! ### Choices -/

theorem FaceRec.ite_geom (c : Prop) [Decidable c] (a b : FaceRec) :
    (if c then a else b).geom = if c then a.geom else b.geom := by split <;> rfl

theorem FaceRec.ite_classes (c : Prop) [Decidable c] (a b : FaceRec) :
    (if c then a else b).classes = if c then a.classes else b.classes := by split <;> rfl

theorem FaceRec.ite_params (c : Prop) [Decidable c] (a b : FaceRec) :
    (if c then a else b).params = if c then a.params else b.params := by split <;> rfl

theorem FaceRec.ite_berth (c : Prop) [Decidable c] (a b : FaceRec) :
    (if c then a else b).berth = if c then a.berth else b.berth := by split <;> rfl

theorem FaceRec.ite_align (c : Prop) [Decidable c] (a b : FaceRec) :
    (if c then a else b).align = if c then a.align else b.align := by split <;> rfl

theorem FaceRec.ite_link (c : Prop) [Decidable c] (a b : FaceRec) :
    (if c then a else b).link = if c then a.link else b.link := by split <;> rfl

theorem FaceRec.ite_health (c : Prop) [Decidable c] (a b : FaceRec) :
    (if c then a else b).health = if c then a.health else b.health := by split <;> rfl

theorem FaceRec.ite_doors (c : Prop) [Decidable c] (a b : FaceRec) :
    (if c then a else b).doors = if c then a.doors else b.doors := by split <;> rfl

theorem FaceRec.ite_sense (c : Prop) [Decidable c] (a b : FaceRec) :
    (if c then a else b).sense = if c then a.sense else b.sense := by split <;> rfl

theorem FaceRec.ite_op (c : Prop) [Decidable c] (a b : FaceRec) :
    (if c then a else b).op = if c then a.op else b.op := by split <;> rfl

theorem FaceRec.ite_warning (c : Prop) [Decidable c] (a b : FaceRec) :
    (if c then a else b).warning = if c then a.warning else b.warning := by split <;> rfl

theorem FaceRec.ite_notice (c : Prop) [Decidable c] (a b : FaceRec) :
    (if c then a else b).notice = if c then a.notice else b.notice := by split <;> rfl

theorem FaceRec.ite_gap (c : Prop) [Decidable c] (a b : FaceRec) :
    (if c then a else b).gap = if c then a.gap else b.gap := by split <;> rfl

theorem FaceRec.ite_mode (c : Prop) [Decidable c] (a b : FaceRec) :
    (if c then a else b).mode = if c then a.mode else b.mode := by split <;> rfl

theorem FaceRec.ite_secured (c : Prop) [Decidable c] (a b : FaceRec) :
    (if c then a else b).secured = if c then a.secured else b.secured := by split <;> rfl

theorem FaceRec.ite_config (c : Prop) [Decidable c] (a b : FaceRec) :
    (if c then a else b).config = if c then a.config else b.config := by split <;> rfl

theorem Part.ite_straps (c : Prop) [Decidable c] (a b : Part) :
    (if c then a else b).straps = if c then a.straps else b.straps := by split <;> rfl

theorem Part.ite_profiles (c : Prop) [Decidable c] (a b : Part) :
    (if c then a else b).profiles = if c then a.profiles else b.profiles := by split <;> rfl

theorem Part.ite_params (c : Prop) [Decidable c] (a b : Part) :
    (if c then a else b).params = if c then a.params else b.params := by split <;> rfl

theorem Part.ite_arb (c : Prop) [Decidable c] (a b : Part) :
    (if c then a else b).arb = if c then a.arb else b.arb := by split <;> rfl

theorem Part.ite_supply (c : Prop) [Decidable c] (a b : Part) :
    (if c then a else b).supply = if c then a.supply else b.supply := by split <;> rfl

theorem Part.ite_fire (c : Prop) [Decidable c] (a b : Part) :
    (if c then a else b).fire = if c then a.fire else b.fire := by split <;> rfl

theorem Part.ite_wide (c : Prop) [Decidable c] (a b : Part) :
    (if c then a else b).wide = if c then a.wide else b.wide := by split <;> rfl

theorem Part.ite_face (c : Prop) [Decidable c] (a b : Part) (f : Face) :
    (if c then a else b).face f = if c then a.face f else b.face f := by split <;> rfl

/-- A view that a change of one face keeps. -/
theorem Part.modFace_keeps {α : Type} (v : FaceRec → α) (p : Part) (f f' : Face) (g : FaceRec → FaceRec)
    (h : ∀ r, v (g r) = v r) : v ((p.modFace f g).face f') = v (p.face f') := by
  rw [Part.modFace_face]; split
  · rename_i e; subst e; exact h _
  · rfl

@[simp] theorem Part.modFace_wide (p : Part) (f : Face) (g : FaceRec → FaceRec) : (p.modFace f g).wide = p.wide := by
  cases f <;> rfl

/-! ### The queue -/

/-- Queueing a report changes the report queue and LOSS alone. -/
theorem queueReport_eq (r : Report) (p : Part) : ∃ q l, queueReport r p = { p with reports := q, loss := l } := by
  unfold queueReport; simp only
  split
  · exact ⟨_, _, rfl⟩
  · split
    · exact ⟨_, _, rfl⟩
    · exact ⟨_, _, rfl⟩

@[simp] theorem queueReport_face (r : Report) (p : Part) (f : Face) : (queueReport r p).face f = p.face f := by
  obtain ⟨q, l, h⟩ := queueReport_eq r p; rw [h]; cases f <;> rfl

@[simp] theorem queueReport_wide (r : Report) (p : Part) : (queueReport r p).wide = p.wide := by
  obtain ⟨q, l, h⟩ := queueReport_eq r p; rw [h]; rfl

@[simp] theorem queueReport_present (r : Report) (p : Part) (f : Face) : (queueReport r p).present f = p.present f := by
  obtain ⟨q, l, h⟩ := queueReport_eq r p; rw [h]; cases f <;> rfl

/-! ### What stays still at the end of an event -/

/-- What the end of an event leaves alone in a face. -/
def FaceRec.still (r : FaceRec) :
    (Option Geometry × Vector MotionClass 4 × FaceParams) × AlignRec × (DoorIx → Door) × Vector Sense 24 × Berth ×
      (DoorIx → HealthState × Option LostReason × Nat) :=
  (r.config, r.align, fun d => r.doors[d].core, r.sense, r.berth.core, fun d => r.health[d].core)

theorem FaceRec.modDoor_still (r : FaceRec) (d : DoorIx) (g : Door → Door) (h : ∀ x, (g x).core = x.core) :
    (r.modDoor d g).still = r.still := by
  simp only [FaceRec.still, FaceRec.config, FaceRec.modDoor_geom, FaceRec.modDoor_classes, FaceRec.modDoor_params,
    FaceRec.modDoor_align, FaceRec.modDoor_sense, FaceRec.modDoor_berth, FaceRec.modDoor_health, Prod.mk.injEq,
    true_and, and_true]
  funext e
  simp only [Fin.getElem_fin, FaceRec.modDoor_doors]
  split
  · exact h _
  · rfl

theorem FaceRec.modHealth_still (r : FaceRec) (d : DoorIx) (g : Health → Health) (h : ∀ x, (g x).core = x.core) :
    (r.modHealth d g).still = r.still := by
  simp only [FaceRec.still, FaceRec.config, FaceRec.modHealth_geom, FaceRec.modHealth_classes,
    FaceRec.modHealth_params, FaceRec.modHealth_align, FaceRec.modHealth_sense, FaceRec.modHealth_berth,
    FaceRec.modHealth_doors, Prod.mk.injEq, true_and]
  funext e
  simp only [Fin.getElem_fin, FaceRec.modHealth_health]
  split
  · exact h _
  · rfl

@[simp] theorem FaceRec.modLink_still (r : FaceRec) (g : Link → Link) : (r.modLink g).still = r.still := rfl
@[simp] theorem FaceRec.modGap_still (r : FaceRec) (g : GapRec → GapRec) : (r.modGap g).still = r.still := rfl
@[simp] theorem FaceRec.modMode_still (r : FaceRec) (g : ModeRec → ModeRec) : (r.modMode g).still = r.still := rfl
theorem FaceRec.modBerth_still (r : FaceRec) (g : Berth → Berth) (h : ∀ b, (g b).core = b.core) :
    (r.modBerth g).still = r.still := by simp [FaceRec.still, FaceRec.config, h]

/-- A change of one face by an operation that leaves it still. -/
theorem Part.modFace_still (p : Part) (f f' : Face) (g : FaceRec → FaceRec) (h : ∀ r, (g r).still = r.still) :
    ((p.modFace f g).face f').still = (p.face f').still := p.modFace_keeps FaceRec.still f f' g h

theorem handCue_still (d : DoorIx) (c : Cue) (r : FaceRec) : (handCue d c r).still = r.still := by
  unfold handCue; split
  · exact r.modHealth_still d _ fun _ => rfl
  · rfl

theorem chooseCue_still (d : DoorIx) (r : FaceRec) : (chooseCue d r).still = r.still := by
  unfold chooseCue; simp only; split
  · rw [handCue_still]; exact r.modDoor_still d _ fun _ => rfl
  · rfl

theorem foldl_keeps {α β γ : Type} (v : β → γ) (g : β → α → β) (h : ∀ b a, v (g b a) = v b) (xs : List α) (b : β) :
    v (xs.foldl g b) = v b := by
  induction xs generalizing b with
  | nil => rfl
  | cons x xs ih => rw [List.foldl_cons, ih, h]

theorem refreshCues_still (r : FaceRec) : (refreshCues r).still = r.still :=
  foldl_keeps FaceRec.still _ (fun _ _ => chooseCue_still _ _) _ _


/-- The second record is still against the first, and its face has not entered FIRE. -/
def Calm (r r' : FaceRec) : Prop := r'.still = r.still ∧ (r'.mode.mode = r.mode.mode ∨ r'.mode.mode ≠ .fire)

theorem Calm.same {r r' : FaceRec} (h : r'.still = r.still) (m : r'.mode.mode = r.mode.mode) : Calm r r' := ⟨h, .inl m⟩

theorem handCue_mode (d : DoorIx) (c : Cue) (r : FaceRec) : (handCue d c r).mode = r.mode := by
  unfold handCue; split <;> rfl

theorem chooseCue_mode (d : DoorIx) (r : FaceRec) : (chooseCue d r).mode = r.mode := by
  unfold chooseCue; simp only; split
  · rw [handCue_mode]; rfl
  · rfl

theorem refreshCues_mode (r : FaceRec) : (refreshCues r).mode = r.mode :=
  foldl_keeps FaceRec.mode _ (fun _ _ => chooseCue_mode _ _) _ _

/-- A predicate that queueing a report keeps, and so does any change of an allowed face that leaves it still and out
of FIRE. -/
structure StillInv (F : Face → Prop) (I : Part → Prop) : Prop where
  report : ∀ r p, I p → I (queueReport r p)
  mod : ∀ f g p, F f → (∀ r, Calm r (g r)) → I p → I (p.modFace f g)

variable {F : Face → Prop} {I : Part → Prop} {f : Face}

theorem recomputeSecured_inv (hI : StillInv F I) (f : Face) (hf : F f) (c : SecuredCause) (b : Bool) {p : Part} (h : I p) : I (recomputeSecured f c b p) := by
  unfold recomputeSecured; simp only
  have a := hI.mod f (fun r => { r with secured := (p.face f).proofMet }) p hf (fun _ => .same rfl rfl) h
  split
  · exact hI.report _ _ a
  · exact a

theorem queueGapReport_inv (hI : StillInv F I) (f : Face) (_ : F f) (prev : GapState) (c : GapCause) (d : Option DoorIx) {p : Part} (h : I p) : I (queueGapReport f prev c d p) := by
  exact hI.report _ _ h

theorem gapTo_inv (hI : StillInv F I) (f : Face) (hf : F f) (new : GapState) (c : GapCause) (d : Option DoorIx) {p : Part} (h : I p) : I (gapTo f new c d p) := by
  unfold gapTo; simp only
  have a := hI.mod f (fun r => r.modGap fun g => { g with state := new, timer := none }) p hf (fun _ => .same rfl rfl) h
  split
  · exact a
  · exact recomputeSecured_inv hI f hf .gap false (queueGapReport_inv hI f hf _ c d (hI.mod f _ _ hf (fun _ => .same rfl rfl) a))

theorem gapPending_inv (hI : StillInv F I) (f : Face) (hf : F f) (c : GapCause) (d : Option DoorIx) {p : Part} (h : I p) : I (gapPending f c d p) := by
  unfold gapPending; split <;> first | exact gapTo_inv hI _ hf _ _ _ h | exact h

theorem queueModeReport_inv (hI : StillInv F I) (f : Face) (_ : F f) (prev : FaceMode) (c : ModeCause) {p : Part} (h : I p) : I (queueModeReport f prev c p) := by
  exact hI.report _ _ h

theorem grantHandover_inv (hI : StillInv F I) (f : Face) (hf : F f) {p : Part} (h : I p) : I (grantHandover f p) := by
  exact queueModeReport_inv hI f hf _ .handover (hI.mod f _ _ hf (fun _ => ⟨rfl, .inr nofun⟩) h)

theorem takeLocalRequest_inv (hI : StillInv F I) (f : Face) (hf : F f) {p : Part} (h : I p) : I (takeLocalRequest f p) := by
  unfold takeLocalRequest; simp only; repeat' split
  · exact grantHandover_inv hI f hf h
  · exact h
  · exact queueModeReport_inv hI f hf _ _ (hI.mod f _ _ hf (fun _ => .same rfl rfl) h)
  · exact h

theorem enterAuto_inv (hI : StillInv F I) (f : Face) (hf : F f) (c : ModeCause) {p : Part} (h : I p) : I (enterAuto f c p) := by
  exact takeLocalRequest_inv hI f hf (queueModeReport_inv hI f hf _ c (hI.mod f _ _ hf (fun _ => ⟨rfl, .inr nofun⟩) h))

theorem wakeFace_inv (hI : StillInv F I) (f : Face) (hf : F f) {p : Part} (h : I p) : I (wakeFace f p) := by
  unfold wakeFace; split
  · exact enterAuto_inv hI f hf .wake (hI.mod f _ _ hf (fun _ => .same rfl rfl) h)
  · exact h

theorem berthGap_inv (hI : StillInv F I) (f : Face) (hf : F f) (a b : BerthState) {p : Part} (h : I p) : I (berthGap f a b p) := by
  unfold berthGap; split <;> (try simp only) <;> (try split) <;> first | exact gapPending_inv hI _ hf _ _ h | exact h

theorem enterBerth_inv (hI : StillInv F I) (f : Face) (hf : F f) (new : BerthState) (c : BerthCause) {p : Part} (h : I p) : I (enterBerth f new c p) := by
  unfold enterBerth; simp only
  have step : ∀ q, I q → I (q.modFace f fun r =>
      refreshCues (r.modBerth fun b => { b with state := new, settle := settleAtEntry r new })) := fun q hq =>
    hI.mod f _ q hf (fun r => .same (by rw [refreshCues_still]; exact r.modBerth_still _ fun _ => rfl) (by rw [refreshCues_mode]; rfl)) hq
  split
  · exact berthGap_inv hI f hf _ new (step _ h)
  · exact berthGap_inv hI f hf _ new (hI.report _ _ (step _ (wakeFace_inv hI f hf h)))

theorem closeEndNotice_inv (hI : StillInv F I) (f : Face) (hf : F f) {p : Part} (h : I p) : I (closeEndNotice f p) := by
  unfold closeEndNotice; simp only; split
  · exact enterBerth_inv hI _ hf _ _ h
  · exact h

theorem endOp_inv (hI : StillInv F I) (f : Face) (hf : F f) (e : EndCause) (g : GapOutcome) {p : Part} (h : I p) : I (endOp f e g p) := by
  unfold endOp; split
  · exact h
  · have a := hI.mod f (fun r => { r with op := none }) _ hf (fun _ => .same rfl rfl) (hI.report (.opDone f ‹Op› e g) _ h)
    simp only; split
    · exact a
    · exact closeEndNotice_inv hI f hf a

theorem endOpEarly_inv (hI : StillInv F I) (f : Face) (hf : F f) (e : EndCause) {p : Part} (h : I p) : I (endOpEarly f e p) := by
  unfold endOpEarly; split
  · exact h
  · refine endOp_inv hI f hf e .notRequired (hI.mod f _ _ hf (fun _ => .same rfl rfl) h)

theorem concludeGap_inv (hI : StillInv F I) (f : Face) (hf : F f) (g : GapOutcome) {p : Part} (h : I p) : I (concludeGap f g p) := by
  unfold concludeGap; split
  · exact h
  · split
    · refine endOp_inv hI f hf .completed g (hI.mod f _ _ hf (fun _ => .same rfl rfl) h)
    · exact h

theorem enterGapWait_inv (hI : StillInv F I) (f : Face) (hf : F f) (op : Op) {p : Part} (h : I p) : I (enterGapWait f op p) := by
  unfold enterGapWait; simp only
  have a := hI.mod f (fun r => { r with op := some { op with phase := some .gapWait } }) p hf (fun _ => .same rfl rfl) h
  split <;> split
  · exact concludeGap_inv hI f hf .bypassed (gapTo_inv hI f hf _ _ _ a)
  · exact gapTo_inv hI f hf _ _ _ a
  · exact concludeGap_inv hI f hf .bypassed a
  · exact a

theorem seqCheck_inv (hI : StillInv F I) (f : Face) (hf : F f) {p : Part} (h : I p) : I (seqCheck f p) := by
  unfold seqCheck; split
  · exact h
  · split
    · split
      · exact endOp_inv hI _ hf _ _ h
      · split <;> first | exact endOp_inv hI _ hf _ _ h | exact enterGapWait_inv hI _ hf _ h
      · exact h
    · exact h

theorem gapUpdate_inv (hI : StillInv F I) (f : Face) (hf : F f) {p : Part} (h : I p) : I (gapUpdate f p) := by
  unfold gapUpdate; simp only; split
  · exact hI.mod f _ _ hf (fun _ => .same rfl rfl) (gapTo_inv hI f hf _ _ _ h)
  · exact hI.mod f _ _ hf (fun _ => .same rfl rfl) h

theorem handoverCheck_inv (hI : StillInv F I) (f : Face) (hf : F f) {p : Part} (h : I p) : I (handoverCheck f p) := by
  unfold handoverCheck; simp only; split
  · exact grantHandover_inv hI f hf h
  · exact h

theorem settleFace_inv (hI : StillInv F I) (f : Face) (hf : F f) {p : Part} (h : I p) : I (settleFace f p) := by
  exact handoverCheck_inv hI f hf (gapUpdate_inv hI f hf (seqCheck_inv hI f hf h))

/-! ### The next frame of a door link -/

theorem sendTo_still (a : LinkAction) (r : FaceRec) (t : MoveTarget) : (sendTo a r t).still = r.still := by
  unfold sendTo
  rw [FaceRec.modDoor_still _ _ _ fun x => by unfold commandSent Door.core; split <;> rfl]
  exact r.modHealth_still _ _ fun _ => rfl

theorem sendPoll_still (r : FaceRec) : (sendPoll r).still = r.still := by
  unfold sendPoll; simp only; rw [FaceRec.modLink_still]; split
  · exact r.modHealth_still _ _ fun _ => rfl
  · rfl

theorem opportunity_still (r : FaceRec) : (opportunity r).still = r.still := by
  unfold opportunity; simp only
  split
  · exact sendPoll_still r
  · split
    · unfold sendStop; simp only; rw [FaceRec.modLink_still]
      exact foldl_keeps FaceRec.still _ (fun _ _ => sendTo_still _ _ _) _ _
    · split
      · unfold sendMove; simp only; rw [FaceRec.modLink_still]
        exact foldl_keeps FaceRec.still _ (fun _ _ => sendTo_still _ _ _) _ _
      · unfold sendResend; rw [FaceRec.modLink_still]
        exact r.modHealth_still _ _ fun _ => rfl
      · unfold sendCue; simp only; rw [FaceRec.modLink_still]
        refine foldl_keeps FaceRec.still _ (fun r d => ?_) _ _
        exact r.modHealth_still d _ fun _ => rfl
      · rfl
      · split
        · exact sendPoll_still r
        · rfl

theorem sendPoll_mode (r : FaceRec) : (sendPoll r).mode = r.mode := by
  unfold sendPoll; simp only; rw [FaceRec.modLink_mode]; split <;> rfl

theorem opportunity_mode (r : FaceRec) : (opportunity r).mode = r.mode := by
  unfold opportunity; simp only
  split
  · exact sendPoll_mode r
  · split
    · unfold sendStop; simp only; rw [FaceRec.modLink_mode]
      refine foldl_keeps FaceRec.mode _ (fun r d => ?_) _ _
      rfl
    · split
      · unfold sendMove; simp only; rw [FaceRec.modLink_mode]
        refine foldl_keeps FaceRec.mode _ (fun r d => ?_) _ _
        rfl
      · rfl
      · unfold sendCue; simp only; rw [FaceRec.modLink_mode]
        refine foldl_keeps FaceRec.mode _ (fun r d => ?_) _ _
        rfl
      · rfl
      · split
        · exact sendPoll_mode r
        · rfl

theorem linkPump_mode (r : FaceRec) : (linkPump r).mode = r.mode := by
  unfold linkPump; split
  · split
    · exact opportunity_mode r
    all_goals rfl
  · rfl

theorem linkPump_still (r : FaceRec) : (linkPump r).still = r.still := by
  unfold linkPump; split
  · split
    · exact opportunity_still r
    all_goals rfl
  · rfl


theorem linkPump_calm (r : FaceRec) : Calm r (linkPump r) := .same (linkPump_still r) (by rw [linkPump_mode])

/-- The end of an event keeps every such predicate. -/
theorem settle_inv (hI : StillInv F I) (hf : ∀ f, F f) {p : Part} (h : I p) : I (settle p) :=
  hI.mod .B _ _ (hf _) linkPump_calm
    (hI.mod .A _ _ (hf _) linkPump_calm (settleFace_inv hI .B (hf _) (settleFace_inv hI .A (hf _) h)))

/-- Every face of `q` stands still against `p`, and so do the part-wide blocks. -/
def Kept (p q : Part) : Prop := (∀ f, (q.face f).still = (p.face f).still) ∧ q.wide = p.wide

theorem kept_stillInv (p : Part) : StillInv (fun _ => True) (Kept p) where
  report r q h := ⟨fun f => by rw [queueReport_face]; exact h.1 f, by rw [queueReport_wide]; exact h.2⟩
  mod f g q _ hg h := ⟨fun f' => (q.modFace_still f f' g fun r => (hg r).1).trans (h.1 f'), by rw [Part.modFace_wide]; exact h.2⟩

/-- The end of an event leaves every face still, and the part-wide blocks. -/
theorem settle_kept (p : Part) : Kept p (settle p) := settle_inv (kept_stillInv p) (fun _ => trivial) ⟨fun _ => rfl, rfl⟩

end Sys2Proof.Machine
end

