-- ==== Sys2Proof/Laws/Closed.lean ====
section
/-! SUPPORT. Closure: what a predicate on the part must survive so that every operation of the notices, the start
arbiter and the door table keeps it. -/

namespace Sys2Proof.Machine

/-! ### Mild changes of a face -/

/-- The face is not in FIRE afterwards, or it kept its geometry and mode and put no door in CLOSE_QUEUED. -/
def Mild (r r' : FaceRec) : Prop :=
  r'.mode.mode ≠ .fire ∨
    (r'.geom = r.geom ∧ r'.mode.mode = r.mode.mode ∧
      ∀ d : DoorIx, r'.doors[d.val].state = r.doors[d.val].state ∨ r'.doors[d.val].state ≠ .closeQueued)

theorem Mild.same {r r' : FaceRec} (hg : r'.geom = r.geom) (hm : r'.mode.mode = r.mode.mode)
    (hd : r'.doors = r.doors) : Mild r r' := .inr ⟨hg, hm, fun d => .inl (by rw [hd])⟩

theorem Mild.rfl' (r : FaceRec) : Mild r r := .same rfl rfl rfl

theorem Mild.trans {a b c : FaceRec} (h : Mild a b) (k : Mild b c) : Mild a c := by
  rcases k with k | ⟨kg, km, kd⟩
  · exact .inl k
  · rcases h with h | ⟨hg, hm, hd⟩
    · exact .inl (by rw [km]; exact h)
    · refine .inr ⟨kg.trans hg, km.trans hm, fun d => ?_⟩
      rcases kd d with e | e
      · rcases hd d with e' | e'
        · exact .inl (e.trans e')
        · exact .inr (by rw [e]; exact e')
      · exact .inr e

theorem Mild.mode {r r' : FaceRec} (h : r'.mode.mode ≠ .fire) : Mild r r' := .inl h

theorem Mild.modDoor {r : FaceRec} {d : DoorIx} {g : Door → Door}
    (h : (g r.doors[d.val]).state = r.doors[d.val].state ∨ (g r.doors[d.val]).state ≠ .closeQueued ∨
      r.mode.mode ≠ .fire) : Mild r (r.modDoor d g) := by
  rcases h with h | h | h
  all_goals first
    | exact .inl h
    | (refine .inr ⟨rfl, rfl, fun e => ?_⟩
       rw [FaceRec.modDoor_doors]; split
       · rename_i q; subst q; first | exact .inl h | exact .inr h
       · exact .inl rfl)

theorem Mild.doorSame {r : FaceRec} {d : DoorIx} {g : Door → Door} (h : ∀ x, (g x).state = x.state) :
    Mild r (r.modDoor d g) := .modDoor (.inl (h _))

theorem Mild.still {r r' : FaceRec} (h : r'.still = r.still) (m : r'.mode.mode = r.mode.mode) : Mild r r' := by
  simp only [FaceRec.still, FaceRec.config, Prod.mk.injEq] at h
  refine .inr ⟨h.1.1, m, fun d => .inl ?_⟩
  have := congrArg Door.state (congrFun h.2.2.1 d)
  simpa [Door.core] using this

theorem Mild.calm {r r' : FaceRec} (h : Calm r r') : Mild r r' := by
  rcases h.2 with m | m
  · exact .still h.1 m
  · exact .inl m

theorem chooseCue_mild (d : DoorIx) (r : FaceRec) : Mild r (chooseCue d r) :=
  .still (chooseCue_still d r) (by rw [chooseCue_mode])

theorem foldl_mild {α : Type} (g : FaceRec → α → FaceRec) (h : ∀ r a, Mild r (g r a)) (xs : List α) (r : FaceRec) :
    Mild r (xs.foldl g r) := by
  induction xs generalizing r with
  | nil => exact .rfl' r
  | cons x xs ih => exact (h r x).trans (ih _)

/-- A change of every door that keeps its state. -/
theorem Mild.mapDoors {r : FaceRec} {g : Door → Door} (h : ∀ x, (g x).state = x.state) :
    Mild r { r with doors := mapVec g r.doors } :=
  .inr ⟨rfl, rfl, fun d => .inl (by simp [h])⟩

/-! ### Closed predicates -/

/-- A predicate on the part that every operation on the allowed faces `F` keeps. -/
structure Closed (F : Face → Prop) (I : Part → Prop) : Prop where
  report : ∀ r p, I p → I (queueReport r p)
  mod : ∀ f g p, F f → Mild (p.face f) (g (p.face f)) → I p → I (p.modFace f g)
  shrink : ∀ q s p, List.Sublist q p.arb.queue → List.Sublist s p.arb.starting → I p →
    I { p with arb := ⟨q, s⟩ }
  join : ∀ e p, F e.ref.face → I p → I (joinQueue e p)
  start : ∀ (e : QEntry) p, F e.ref.face → p.arb.starting.length < p.limitFor e.kind → I p →
    I { p with arb := { queue := p.arb.queue.filter fun x => decide (x.ref ≠ e.ref)
                        starting := p.arb.starting ++ [e.ref] } }
  queued : ∀ p, I p → ∀ e ∈ p.arb.queue, F e.ref.face
  supply : ∀ s p, I p → I { p with supply := s }
  fire : ∀ x p, I p → I { p with fire := x }
  profiles : ∀ v p, I p → I { p with profiles := v }
  params : ∀ sent s p, I p → I { p with params := clampPartParams sent, supply := s }
  present : ∀ p f, I p → p.present f → F f
  away : ∀ p f, I p → ¬ F f → p.face f = FaceRec.reset

/-- A closed predicate that a face's entry to FIRE keeps as well. -/
structure FullyClosed (F : Face → Prop) (I : Part → Prop) : Prop extends Closed F I where
  enterFire : ∀ f c p, F f → I p → I (enterFire f c p)

variable {F : Face → Prop} {I : Part → Prop}

theorem Closed.stillInv (C : Closed F I) : StillInv F I where
  report := C.report
  mod f g p hf hg h := C.mod f g p hf (.calm (hg _)) h

theorem forDoors_closed (op : DoorIx → Part → Part) (h : ∀ d p, I p → I (op d p)) (ds : List DoorIx) {p : Part}
    (hp : I p) : I (forDoors ds op p) := by
  unfold forDoors
  induction ds generalizing p with
  | nil => exact hp
  | cons d ds ih => exact ih (h d p hp)

section
variable (C : Closed F I) (f : Face) (hf : F f) {p : Part} (h : I p)
include C hf h

/-! ### A door's change -/

omit hf in
theorem doorGap_closed (hf : F f) (d : DoorIx) (new : DoorState) : I (doorGap f d new p) := by
  have S := C.stillInv
  unfold doorGap; simp only
  split
  · split
    · split
      · split
        · exact recomputeSecured_inv S f hf _ _ (queueGapReport_inv S f hf _ _ _
            (S.mod f _ _ hf (fun _ => .same rfl rfl) (S.mod f _ _ hf (fun _ => .same rfl rfl) h)))
        · exact gapTo_inv S f hf _ _ _ h
      · split
        · exact recomputeSecured_inv S f hf _ _ (queueGapReport_inv S f hf _ _ _
            (S.mod f _ _ hf (fun _ => .same rfl rfl) (S.mod f _ _ hf (fun _ => .same rfl rfl) h)))
        · exact gapTo_inv S f hf _ _ _ h
      · split
        · exact gapPending_inv S f hf _ _ h
        · exact h
      · split
        · exact gapPending_inv S f hf _ _ h
        · exact h
      · exact h
    · exact h
  · split
    · exact gapPending_inv S f hf _ _ h
    · exact h
  · exact h

theorem changeDoor_closed (d : DoorIx) (c : DoorCause) (g : Door → Door)
    (hg : (g (p.face f).doors[d.val]).state = (p.face f).doors[d.val].state ∨
      (g (p.face f).doors[d.val]).state ≠ .closeQueued ∨ (p.face f).mode.mode ≠ .fire) :
    I (changeDoor f d c g p) := by
  unfold changeDoor; simp only
  refine C.mod f _ _ hf (chooseCue_mild d _) ?_
  have a : I (p.modFace f fun r => r.modDoor d fun _ => g (p.face f).doors[d]) :=
    C.mod f _ p hf (.modDoor hg) h
  have b : ∀ (x : Prop) [Decidable x], I (if x then p.modFace f fun r => r.modDoor d fun _ => g (p.face f).doors[d] else
      queueReport (.door f d (doorChange (g (p.face f).doors[d]) c
        ((p.modFace f fun r => r.modDoor d fun _ => g (p.face f).doors[d]).face f).berth.dwell))
        (p.modFace f fun r => r.modDoor d fun _ => g (p.face f).doors[d])) := by
    intro x _; split
    · exact a
    · exact C.report _ _ a
  split
  · exact b _
  · refine doorGap_closed C f ?_ hf d _
    refine C.mod f _ _ hf ?_ (b _)
    exact .same rfl rfl rfl

/-- A change that puts the door in no CLOSE_QUEUED. -/
theorem changeDoor_to (d : DoorIx) (c : DoorCause) (g : Door → Door) (hg : ∀ x, (g x).state ≠ .closeQueued) :
    I (changeDoor f d c g p) := changeDoor_closed C f hf h d c g (.inr (.inl (hg _)))

/-- A change that keeps the door's state. -/
theorem changeDoor_keep (d : DoorIx) (c : DoorCause) (g : Door → Door) (hg : ∀ x, (g x).state = x.state) :
    I (changeDoor f d c g p) := changeDoor_closed C f hf h d c g (.inl (hg _))

theorem onDoor_closed (d : DoorIx) (g : Door → Door) (hg : ∀ x, (g x).state = x.state) : I (onDoor f d g p) :=
  C.mod f _ p hf (.doorSame hg) h

theorem modLink_closed (g : Link → Link) : I (p.modFace f fun r => r.modLink g) :=
  C.mod f _ p hf (.same rfl rfl rfl) h

theorem placeMove_closed (a : LinkAction) (ts : List MoveTarget) : I (p.modFace f (FaceRec.placeMove a ts)) := by
  refine C.mod f _ p hf ?_ h
  unfold FaceRec.placeMove; simp only; split
  · exact .rfl' _
  · exact .same rfl rfl rfl

theorem placeStop_closed (d : DoorIx) : I (p.modFace f (FaceRec.placeStop d)) := by
  refine C.mod f _ p hf ?_ h
  unfold FaceRec.placeStop; split
  · exact .rfl' _
  · exact .same rfl rfl rfl

end

/-! ### The start arbiter -/

section
variable (C : Closed F I)
include C

theorem grantDoor_closed (e : QEntry) (codes : Codes) {p : Part} (hf : F e.ref.face)
    (hl : p.arb.starting.length < p.limitFor e.kind) (h : I p) : I (grantDoor e codes p) := by
  unfold grantDoor
  refine changeDoor_to C _ hf (C.start e p hf hl h) _ _ _ fun x => ?_
  unfold Door.granted
  cases e.action <;> simp [Door.enter]

omit C in
theorem candidate_mem {q : List QEntry} {e : QEntry} (h : candidate q = some e) : e ∈ q := by
  unfold candidate at h
  cases hq : q.find? (fun e => decide (e.kind = .fire)) with
  | none =>
    rw [hq] at h
    exact List.mem_of_mem_head? (by simpa using h)
  | some x =>
    rw [hq] at h
    simp only [Option.orElse_some, Option.some.injEq] at h
    subst h
    exact List.mem_of_find?_eq_some hq

/-- The grants of a loop are all of allowed faces. -/
theorem grantLoop_closed (n : Nat) (gs : List Grant) {p : Part} (hg : ∀ g ∈ gs, F g.ref.face) (h : I p) :
    I (grantLoop n gs p).1 ∧ ∀ g ∈ (grantLoop n gs p).2, F g.ref.face := by
  induction n generalizing gs p with
  | zero => exact ⟨h, hg⟩
  | succ n ih =>
    unfold grantLoop
    split
    · exact ⟨h, hg⟩
    · rename_i e he
      have hf := C.queued p h e (candidate_mem he)
      split
      · rename_i hl
        refine ih _ ?_ (grantDoor_closed C e _ hf hl h)
        intro g hm
        rcases List.mem_append.1 hm with hm | hm
        · exact hg g hm
        · rw [List.mem_singleton.1 hm]; exact hf
      · exact ⟨h, hg⟩

theorem issueGrants_closed (gs : List Grant) (hg : ∀ g ∈ gs, F g.ref.face) {p : Part} (h : I p) :
    I (issueGrants gs p) := by
  unfold issueGrants
  have hk : ∀ k ∈ (gs.map fun g => (g.ref.face, g.action)).eraseDups, F k.1 := by
    intro k hk
    rw [List.mem_eraseDups] at hk
    obtain ⟨g, hm, rfl⟩ := List.mem_map.1 hk
    exact hg g hm
  generalize (gs.map fun g => (g.ref.face, g.action)).eraseDups = ks at hk
  induction ks generalizing p with
  | nil => exact h
  | cons k ks ih =>
    rw [List.foldl_cons]
    exact ih (placeMove_closed C _ (hk k (by simp)) h _ _) fun k' hm => hk k' (by simp [hm])

theorem grantEvent_closed {p : Part} (h : I p) : I (grantEvent p) := by
  unfold grantEvent
  have := grantLoop_closed C p.arb.queue.length [] (by simp) h
  exact issueGrants_closed C _ this.2 this.1

end

section
variable (C : Closed F I) (f : Face) (hf : F f) {p : Part} (h : I p)
include C hf h

theorem endStart_closed (d : DoorIx) : I (endStart f d p) := by
  unfold endStart; split
  · exact grantEvent_closed C (onDoor_closed C f hf
      (C.shrink _ _ _ (List.Sublist.refl _) List.filter_sublist h) d _ fun _ => rfl)
  · exact h

theorem leaveMachinery_closed (d : DoorIx) : I (leaveMachinery f d p) := by
  unfold leaveMachinery
  exact endStart_closed C f hf (C.shrink _ _ p List.filter_sublist (List.Sublist.refl _) h) d

omit hf in
theorem leaveQueueAll_closed : I (leaveQueueAll f p) :=
  C.shrink _ _ p List.filter_sublist (List.Sublist.refl _) h

theorem leaveMachineryAll_closed : I (leaveMachineryAll f p) := by
  unfold leaveMachineryAll
  exact forDoors_closed (I := I) _ (fun d q hq => endStart_closed C f hf hq d) _ (leaveQueueAll_closed C f h)

omit hf in
theorem supplyChanged_closed (prev : SupplyLevel) : I (supplyChanged prev p) := by
  unfold supplyChanged
  exact grantEvent_closed C (C.report _ _ h)

omit hf in
theorem takeSupplySample_closed (code : Byte) : I (takeSupplySample code p) := by
  unfold takeSupplySample; simp only
  have a := C.supply (p.supply.sample p.params code) p h
  split
  · exact a
  · exact supplyChanged_closed C a _

/-! ### The door table -/

theorem leaveOperation_closed (d : DoorIx) (o : DoorOutcome) : I (leaveOperation f d o p) :=
  C.mod f _ p hf (.same rfl rfl rfl) h

theorem issueStop_closed (d : DoorIx) : I (issueStop f d p) := by
  unfold issueStop; split
  · exact h
  · exact placeStop_closed C f hf h d

theorem issueReverse_closed (d : DoorIx) : I (issueReverse f d p) := placeMove_closed C f hf h _ _

theorem enterDiscrepant_closed (d : DoorIx) (w : DiscCause) (t : DoorCause) (s : Bool) :
    I (enterDiscrepant f d w t s p) := by
  unfold enterDiscrepant
  have a := leaveMachinery_closed C f hf (changeDoor_to C f hf h d t (fun x =>
    { x.stopTimers.enter .discrepant with cause := some w, order := none, forced := false })
    fun x => by simp [Door.enter]) d
  simp only; split
  · exact issueStop_closed C f hf a d
  · exact a

theorem releaseDoor_closed (d : DoorIx) (t : DoorCause) : I (releaseDoor f d t p) := by
  unfold releaseDoor; simp only
  have a : ∀ q, I q → I (leaveMachinery f d (changeDoor f d t (fun x =>
      { x.stopTimers.enter .released with latch := true, order := none, partialOpen := false, forced := false }) q)) :=
    fun q hq => leaveMachinery_closed C f hf (changeDoor_to C f hf hq d t _ fun x => by simp [Door.enter]) d
  have b : I (if (p.face f).doors[d].latch = true then p else queueReport (.release f (releaseSet (p.face f) d)) p) := by
    split
    · exact h
    · exact C.report _ _ h
  split
  · exact issueStop_closed C f hf (a _ b) d
  · exact a _ b

theorem clearLatch_closed (d : DoorIx) (c : ClearCause) (t : DoorCause) : I (clearLatch f d c t p) := by
  unfold clearLatch; simp only
  refine changeDoor_to C f hf (C.report _ _ h) d t _ ?_
  intro x; simp [Door.closeLocked, Door.enter]

theorem openOrder_closed (d : DoorIx) (k : OrderKind) (t : DoorCause) : I (openOrder f d k t p) := by
  unfold openOrder; simp only; split
  · exact C.join _ _ hf (changeDoor_to C f hf h d t _ fun x => by simp [Door.enter])
  · exact h

omit C hf h in
theorem withdrawn_state (x : Door) (hx : x.state = .openQueued ∨ x.state = .closeQueued) :
    x.withdrawn.state ≠ .closeQueued := by
  rcases hx with hx | hx <;> unfold Door.withdrawn <;> rw [hx] <;> simp only <;> (try split) <;>
    simp [Door.standOpen, Door.closeLocked, Door.enter]

theorem withdrawDoor_closed (d : DoorIx) : I (withdrawDoor f d p) := by
  unfold withdrawDoor
  have a := leaveOperation_closed C f hf h d .excluded
  have e : ((leaveOperation f d .excluded p).face f).doors = (p.face f).doors := by
    unfold leaveOperation; rw [Part.modFace_self]; rfl
  split
  · rename_i hs
    refine leaveMachinery_closed C f hf (changeDoor_closed C f hf a d _ _ (.inr (.inl ?_))) d
    rw [e]; exact withdrawn_state _ (.inl hs)
  · rename_i hs
    refine leaveMachinery_closed C f hf (changeDoor_closed C f hf a d _ _ (.inr (.inl ?_))) d
    rw [e]; exact withdrawn_state _ (.inr hs)
  · exact h

theorem beginWarning_closed (d : DoorIx) : I (beginWarning f d p) := by
  unfold beginWarning; split
  · exact changeDoor_to C f hf h d _ _ fun x => by simp [Door.enter]
  · exact h

theorem queueClose_closed (d : DoorIx) (k : OrderKind) (t : DoorCause) (hm : (p.face f).mode.mode ≠ .fire) :
    I (queueClose f d k t p) := by
  unfold queueClose
  exact C.join _ _ hf (changeDoor_closed C f hf h d t _ (.inr (.inr hm)))

theorem closeOrder_closed (d : DoorIx) (k : OrderKind) (t : DoorCause) : I (closeOrder f d k t p) := by
  unfold closeOrder; simp only; split
  · rename_i hc
    have hm : (p.face f).mode.mode ≠ .fire := by
      have := hc.1; unfold FaceRec.inFire at this; simpa using this
    split
    · refine queueClose_closed C f hf ?_ d k t ?_
      · refine onDoor_closed C f hf h d _ ?_
        exact fun _ => rfl
      · unfold onDoor; rw [Part.modFace_self]; exact hm
    · exact queueClose_closed C f hf h d k t hm
  · exact h

theorem holdOrder_closed (d : DoorIx) : I (holdOrder f d p) := by
  unfold holdOrder; split
  · have a := changeDoor_to C f hf h d .order (Door.enter .held) fun x => by simp [Door.enter]
    simp only; split
    · exact closeOrder_closed C f hf a d _ _
    · exact a
  · exact h

theorem returnToOpen_closed (d : DoorIx) : I (returnToOpen f d p) := by
  unfold returnToOpen
  split
  all_goals first
    | exact h
    | exact leaveMachinery_closed C f hf (changeDoor_to C f hf h d _ _ fun x => by
        simp [Door.standOpen, Door.enter]) d

theorem enterReopening_closed (d : DoorIx) (w : ReopenCause) (t : DoorCause) : I (enterReopening f d w t p) := by
  unfold enterReopening
  exact issueReverse_closed C f hf (leaveMachinery_closed C f hf (changeDoor_to C f hf h d t _ fun x => by
    simp [Door.enter]) d) d

theorem reverseOrder_closed (d : DoorIx) (w : ReopenCause) : I (reverseOrder f d w p) := by
  unfold reverseOrder; simp only; split
  · exact h
  · split
    · exact enterReopening_closed C f hf h d w _
    · exact enterReopening_closed C f hf h d w _
    · split
      · refine changeDoor_to C f hf h d _ _ ?_
        intro x; simp [Door.standOpen, Door.enter]
      · refine onDoor_closed C f hf h d _ ?_
        exact fun _ => rfl
    · exact h

theorem gapReopenOrder_closed (d : DoorIx) : I (gapReopenOrder f d p) := by
  unfold gapReopenOrder; simp only
  have a := onDoor_closed C f hf h d (fun x => { x with gapReopens := x.gapReopens + 1 }) fun _ => rfl
  split
  all_goals first
    | exact reverseOrder_closed C f hf a d _
    | exact returnToOpen_closed C f hf a d
    | exact openOrder_closed C f hf a d _ _
    | exact a

theorem obstruction_closed (d : DoorIx) : I (obstruction f d p) := by
  unfold obstruction; simp only; split
  · refine enterReopening_closed C f hf ?_ d _ _
    refine onDoor_closed C f hf h d _ ?_
    exact fun _ => rfl
  · refine issueReverse_closed C f hf (leaveMachinery_closed C f hf ?_ d) d
    refine changeDoor_to C f hf h d _ _ ?_
    intro x; simp [Door.enter]

theorem haltingStop_closed (d : DoorIx) : I (haltingStop f d p) := by
  have a := issueStop_closed C f hf (leaveMachinery_closed C f hf (changeDoor_to C f hf h d .order
    (Door.standOpen true) fun x => by simp [Door.standOpen, Door.enter]) d) d
  unfold haltingStop; simp only; split
  · exact h
  · split
    · split
      · exact enterDiscrepant_closed C f hf h d _ _ _
      · exact a
    all_goals first | exact a | exact h

theorem takeoverStop_closed (d : DoorIx) : I (takeoverStop f d p) := by
  have a := issueStop_closed C f hf (leaveMachinery_closed C f hf (changeDoor_to C f hf
    (leaveOperation_closed C f hf h d .excluded) d .order
    (fun x => { x.stopTimers.enter .preClose with order := none }) fun x => by simp [Door.enter]) d) d
  unfold takeoverStop; simp only; split
  · exact h
  · split
    all_goals first | exact a | exact h

theorem enterLost_closed (d : DoorIx) : I (enterLost f d p) := by
  unfold enterLost
  exact recomputeSecured_inv C.stillInv f hf _ _ (leaveMachinery_closed C f hf (changeDoor_to C f hf h d _ _ fun x => by
    simp [Door.enter]) d)

theorem setLate_closed (d : DoorIx) (b : Bool) : I (setLate f d b p) := changeDoor_keep C f hf h d _ _ fun _ => rfl

theorem doorsEnumerated_closed : I (doorsEnumerated f p) := by
  unfold doorsEnumerated; simp only
  refine recomputeSecured_inv C.stillInv f hf _ _ (forDoors_closed _ (fun d q hq => ?_) _
    (leaveMachineryAll_closed C f hf h))
  exact changeDoor_to C f hf (leaveOperation_closed C f hf hq d _) d _ _ fun x => by simp [Door.enumerated, Door.enter]

theorem unlockExpiry_closed (d : DoorIx) : I (unlockExpiry f d p) := by
  have a := onDoor_closed C f hf h d (fun x => { x with unlockT := none }) fun _ => rfl
  unfold unlockExpiry; simp only; repeat' split
  all_goals first | exact enterDiscrepant_closed C f hf a d _ _ _ | exact a | exact h

theorem motionExpiry_closed (d : DoorIx) : I (motionExpiry f d p) := by
  have a := onDoor_closed C f hf h d (fun x => { x with motionT := none }) fun _ => rfl
  unfold motionExpiry; simp only; repeat' split
  all_goals first | exact enterDiscrepant_closed C f hf a d _ _ _ | exact a | exact h

theorem lockProofExpiry_closed (d : DoorIx) : I (lockProofExpiry f d p) := by
  have a := onDoor_closed C f hf h d (fun x => { x with lockProofT := none }) fun _ => rfl
  unfold lockProofExpiry; simp only; repeat' split
  all_goals first | exact enterDiscrepant_closed C f hf a d _ _ _ | exact a | exact h

theorem pauseExpiry_closed (d : DoorIx) : I (pauseExpiry f d p) := by
  have a := onDoor_closed C f hf h d (fun x => { x with pauseT := none }) fun _ => rfl
  unfold pauseExpiry; simp only; split
  · split
    · split
      · exact changeDoor_to C f hf a d _ _ fun x => by simp [Door.standOpen, Door.enter]
      · rename_i hn
        refine grantEvent_closed C (queueClose_closed C f hf a d _ _ ?_)
        unfold FaceRec.inFire at hn; simpa using hn
    · exact a
  · exact h

theorem startExpiry_closed (d : DoorIx) : I (startExpiry f d p) := by
  unfold startExpiry; split
  · refine endStart_closed C f hf ?_ d
    refine onDoor_closed C f hf h d _ ?_
    exact fun _ => rfl
  · exact h

end

end Sys2Proof.Machine
end

