-- ==== Sys2Proof/Laws/ClosedFace.lean ====
section
/-! SUPPORT. Closure, continued: the face sequencer, the passenger sensing unit, the alignment unit, the berth
monitor, and the door table's reports and requests. -/

namespace Sys2Proof.Machine

variable {F : Face → Prop} {I : Part → Prop}

section
variable (C : Closed F I) (f : Face) (hf : F f) {p : Part} (h : I p)
include C hf h

/-- A change of a face's fields other than its geometry, mode and doors. -/
theorem rec_closed (g : FaceRec → FaceRec) (hg : ∀ r, (g r).geom = r.geom ∧ (g r).mode = r.mode ∧ (g r).doors = r.doors) :
    I (p.modFace f g) :=
  C.mod f g p hf (.same (hg _).1 (by rw [(hg _).2.1]) (hg _).2.2) h

/-! ### The face sequencer -/

theorem berthOpenNotice_closed : I (berthOpenNotice f p) := by
  have a : I (p.modFace f fun r => r.modBerth fun b => { b with served := true }) :=
    rec_closed C f hf h _ fun _ => ⟨rfl, rfl, rfl⟩
  unfold berthOpenNotice; simp only; split
  all_goals first | exact enterBerth_inv C.stillInv f hf _ _ a | exact a

theorem abandonGap_closed : I (abandonGap f p) := by
  have a : I (p.modFace f endCycles) := rec_closed C f hf h _ fun _ => ⟨rfl, rfl, rfl⟩
  unfold abandonGap; simp only; split
  all_goals first | exact gapTo_inv C.stillInv f hf _ _ _ a | exact a

theorem overtakeClose_closed (q : OpenReq) : I (overtakeClose f q p).1 := by
  unfold overtakeClose; split
  · exact h
  · split
    · exact h
    · simp only
      refine endOpEarly_inv C.stillInv f hf _ (abandonGap_closed C f hf ?_)
      refine forDoors_closed (I := I) _ (fun d q hq => reverseOrder_closed C f hf hq d _) _ ?_
      refine forDoors_closed (I := I) _ (fun d q hq => reverseOrder_closed C f hf hq d _) _ ?_
      exact forDoors_closed (I := I) _ (fun d q hq => returnToOpen_closed C f hf hq d) _ h

theorem takeOpen_closed (q : OpenReq) : I (takeOpen f q p) := by
  unfold takeOpen
  have a := overtakeClose_closed C f hf h q
  simp only
  refine berthOpenNotice_closed C f hf (grantEvent_closed C ?_)
  refine forDoors_closed (I := I) _ (fun d q hq => openOrder_closed C f hf hq d _ _) _ ?_
  refine rec_closed C f hf a _ ?_
  exact fun _ => ⟨rfl, rfl, rfl⟩

theorem overtakeOpen_closed : I (overtakeOpen f p) := by
  unfold overtakeOpen; simp only; split
  · refine endOpEarly_inv C.stillInv f hf _ ?_
    refine forDoors_closed (I := I) _ (fun d q hq => takeoverStop_closed C f hf hq d) _ ?_
    exact forDoors_closed (I := I) _ (fun d q hq => withdrawDoor_closed C f hf hq d) _ h
  · exact h

theorem leadToClose_closed (d : DoorIx) : I (leadToClose f d p) := by
  unfold leadToClose; split
  all_goals first | exact takeoverStop_closed C f hf h d | exact beginWarning_closed C f hf h d | exact h

theorem takeClose_closed (s : OpSource) (tag : Byte) : I (takeClose f s tag p) := by
  unfold takeClose; simp only
  refine rec_closed C f hf ?_ _ ?_
  · refine forDoors_closed (I := I) _ (fun d q hq => leadToClose_closed C f hf hq d) _ ?_
    exact forDoors_closed (I := I) _ (fun d q hq => withdrawDoor_closed C f hf hq d) _ (overtakeOpen_closed C f hf h)
  · exact fun _ => ⟨rfl, rfl, rfl⟩

theorem afterWarning_closed (d : DoorIx) : I (afterWarning f d p) := by
  unfold afterWarning; split
  · exact closeOrder_closed C f hf h d _ _
  · exact holdOrder_closed C f hf h d

theorem warningExpiry_closed : I (warningExpiry f p) := by
  unfold warningExpiry; simp only; split
  · refine grantEvent_closed C (rec_closed C f hf ?_ _ fun _ => ⟨rfl, rfl, rfl⟩)
    refine forDoors_closed (I := I) _ (fun d q hq => afterWarning_closed C f hf hq d) _ ?_
    exact rec_closed C f hf h _ fun _ => ⟨rfl, rfl, rfl⟩
  · exact h

theorem rewarn_closed (d : DoorIx) : I (rewarn f d p) := by
  unfold rewarn; simp only
  refine rec_closed C f hf (beginWarning_closed C f hf h d) _ ?_
  exact fun _ => ⟨rfl, rfl, rfl⟩

theorem sequencerRolling_closed : I (sequencerRolling f p) := by
  unfold sequencerRolling; simp only
  refine endOpEarly_inv C.stillInv f hf _ (abandonGap_closed C f hf ?_)
  refine rec_closed C f hf ?_ _ ?_
  · refine forDoors_closed (I := I) _ (fun d q hq => returnToOpen_closed C f hf hq d) _ ?_
    refine forDoors_closed (I := I) _ (fun d q hq => haltingStop_closed C f hf hq d) _ ?_
    exact forDoors_closed (I := I) _ (fun d q hq => withdrawDoor_closed C f hf hq d) _ h
  · exact fun _ => ⟨rfl, rfl, rfl⟩

theorem sequencerEmpty_closed : I (sequencerEmpty f p) := by
  unfold sequencerEmpty; split
  · exact h
  · split
    · simp only
      refine endOpEarly_inv C.stillInv f hf _ ?_
      refine forDoors_closed (I := I) _ (fun d q hq => haltingStop_closed C f hf hq d) _ ?_
      exact forDoors_closed (I := I) _ (fun d q hq => withdrawDoor_closed C f hf hq d) _ h
    · exact concludeGap_inv C.stillInv f hf _ h

theorem fireOrders_closed (ds : List DoorIx) : I (fireOrders f ds p) := by
  unfold fireOrders
  exact grantEvent_closed C (forDoors_closed (I := I) _ (fun d q hq => openOrder_closed C f hf hq d _ _) _ h)

theorem fireOpenTest_closed (ds : List DoorIx) : I (fireOpenTest f ds p) := by
  unfold fireOpenTest; simp only; split
  · exact h
  · split
    · refine berthOpenNotice_closed C f hf (fireOrders_closed C f hf ?_ _)
      refine rec_closed C f hf h _ ?_
      exact fun _ => ⟨rfl, rfl, rfl⟩
    · split
      · refine fireOrders_closed C f hf ?_ _
        refine rec_closed C f hf h _ ?_
        exact fun _ => ⟨rfl, rfl, rfl⟩
      · exact h

/-! ### The passenger sensing unit -/

theorem gapFails_closed (c : GapCause) (d : Option DoorIx) : I (gapFails f c d p) :=
  concludeGap_inv C.stillInv f hf _ (gapTo_inv C.stillInv f hf _ _ _ h)

theorem gapReopen_closed (d : DoorIx) : I (gapReopen f d p) := by
  unfold gapReopen
  refine grantEvent_closed C (queueGapReport_inv C.stillInv f hf _ _ _ (gapReopenOrder_closed C f hf ?_ d))
  exact rec_closed C f hf h _ fun _ => ⟨rfl, rfl, rfl⟩

theorem judgeBlocked_closed (d : DoorIx) : I (judgeBlocked f d p) := by
  have a : I (if (p.face f).doors[d].gapReopens < 2 then
      if (p.face f).doors[d].takesGapReopen = true then gapReopen f d p else gapFails f .reopenRefused (some d) p
      else gapFails f .reopensSpent (some d) p) := by
    split
    · split
      · exact gapReopen_closed C f hf h d
      · exact gapFails_closed C f hf h _ _
    · exact gapFails_closed C f hf h _ _
  unfold judgeBlocked; simp only; split
  · split
    all_goals first | exact a | exact h
  · exact h

theorem beamHandover_closed (d : DoorIx) (i o : Bool) : I (beamHandover f d i o p) := by
  unfold beamHandover; simp only; split
  · have a : I (p.modFace f fun r => r.modSense d fun _ => (((p.face f).sense[d]).hand (p.face f).params i o).sense) :=
      rec_closed C f hf h _ fun _ => ⟨rfl, rfl, rfl⟩
    have b : ∀ q, I q → I (if (((p.face f).sense[d]).hand (p.face f).params i o).outerBlocked = true then judgeBlocked f d q
        else q) := by
      intro q hq; split
      · exact judgeBlocked_closed C f hf hq d
      · exact hq
    refine b _ ?_
    split
    · exact a
    · split
      · refine onDoor_closed C f hf a d _ ?_
        exact fun _ => rfl
      · exact a
  · exact h

theorem settleHeld_closed (d : DoorIx) : I (settleHeld f d p) := by
  unfold settleHeld
  refine grantEvent_closed C (closeOrder_closed C f hf ?_ d _ _)
  exact rec_closed C f hf h _ fun _ => ⟨rfl, rfl, rfl⟩

theorem quietExpiry_closed (d : DoorIx) : I (quietExpiry f d p) := by
  have a : I (p.modFace f fun r => r.modSense d fun x => { x with quietT := none }) :=
    rec_closed C f hf h _ fun _ => ⟨rfl, rfl, rfl⟩
  unfold quietExpiry; simp only; repeat' split
  all_goals first
    | exact settleHeld_closed C f hf a d
    | exact rewarn_closed C f hf a d
    | exact a
    | exact h

theorem holdExpiry_closed (d : DoorIx) : I (holdExpiry f d p) := by
  have a : I (p.modFace f fun r => r.modSense d fun x => { x with holdT := none }) :=
    rec_closed C f hf h _ fun _ => ⟨rfl, rfl, rfl⟩
  unfold holdExpiry; simp only; repeat' split
  all_goals first
    | exact grantEvent_closed C (closeOrder_closed C f hf a d _ _)
    | exact a
    | exact h

theorem endBeamSample_closed (b : EndBeam) (x : Bool) : I (endBeamSample f b x p) := by
  unfold endBeamSample; simp only; split
  · have a : ∀ g, I (p.modFace f fun r => r.modGap g) := fun g =>
      rec_closed C f hf h _ fun _ => ⟨rfl, rfl, rfl⟩
    cases b <;> simp only <;> split
    all_goals first | exact gapFails_closed C f hf (a _) _ _ | exact a _
  · exact h

theorem gapExpiry_closed : I (gapExpiry f p) := by
  unfold gapExpiry; split
  · exact concludeGap_inv C.stillInv f hf _ (gapTo_inv C.stillInv f hf _ _ _ h)
  · exact h

theorem endGapCheck_closed (c : GapCause) : I (endGapCheck f c p) := by
  unfold endGapCheck
  exact gapTo_inv C.stillInv f hf _ _ _ (rec_closed C f hf h _ fun _ => ⟨rfl, rfl, rfl⟩)

omit hf in
theorem queueCounts_closed : I (queueCounts f p) := C.report _ _ h

theorem clearDwell_closed : I (p.modFace f clearDwell) := by
  refine C.mod f _ p hf ?_ h
  unfold clearDwell
  exact .inr ⟨rfl, rfl, fun d => .inl (by simp)⟩

/-! ### The alignment unit -/

theorem writeAlign_closed (a : AlignRec) : I (writeAlign f a p) := by
  unfold writeAlign
  refine C.mod f _ p hf (.trans (.same (r' := { p.face f with align := a }) rfl rfl rfl)
    (foldl_mild _ (fun r d => ?_) _ _)) h
  unfold handVerdict
  refine .trans (.doorSame (d := d) ?_) (chooseCue_mild d _)
  exact fun _ => rfl

theorem takeNotice_closed : I (takeNotice f p) := by
  unfold takeNotice; split
  · exact takeOpen_closed C f hf h _
  · exact h

theorem noticeArrives_closed : I (noticeArrives f p) := by
  have a : I (p.modFace f fun r => { r with notice := false }) := rec_closed C f hf h _ fun _ => ⟨rfl, rfl, rfl⟩
  unfold noticeArrives; simp only; split
  · exact takeNotice_closed C f hf a
  · exact a

omit C hf h in
theorem noticeTest_mild (r : FaceRec) : Mild r (noticeTest r) := by
  unfold noticeTest; split <;> exact .same rfl rfl rfl

theorem computeAlign_closed (c : AlignCause) : I (computeAlign f c p) := by
  unfold computeAlign; simp only
  exact C.mod f _ _ hf (noticeTest_mild _) (fireOpenTest_closed C f hf (C.report (.align f (alignRecord p f c)) _
    (writeAlign_closed C f hf h (alignRecord p f c))) _)

theorem clearAlign_closed (c : AlignCause) : I (clearAlign f c p) := writeAlign_closed C f hf h _

theorem moveAlign_closed (c : AlignCause) : I (moveAlign f c p) := by
  unfold moveAlign; simp only
  exact C.report _ _ (writeAlign_closed C f hf h _)

/-! ### The berth monitor -/

theorem modBerth_closed (g : Berth → Berth) : I (p.modFace f fun r => r.modBerth g) :=
  rec_closed C f hf h _ fun _ => ⟨rfl, rfl, rfl⟩

theorem enterEmpty_closed (c : BerthCause) : I (enterEmpty f c p) := by
  unfold enterEmpty; simp only
  exact sequencerEmpty_closed C f hf (endGapCheck_closed C f hf (clearDwell_closed C f hf (queueCounts_closed C f
    (clearAlign_closed C f hf (enterBerth_inv C.stillInv f hf _ _ (modBerth_closed C f hf h _)) _))) _)

theorem enterStopped_closed (c : BerthCause) : I (enterStopped f c p) := by
  unfold enterStopped; simp only
  refine computeAlign_closed C f hf ?_ _
  refine rec_closed C f hf (enterBerth_inv C.stillInv f hf _ _ (modBerth_closed C f hf h _)) _ ?_
  exact fun _ => ⟨rfl, rfl, rfl⟩

theorem enterRolling_closed : I (enterRolling f p) :=
  sequencerRolling_closed C f hf (moveAlign_closed C f hf (enterBerth_inv C.stillInv f hf _ _ h) _)

theorem enterDeparting_closed : I (enterDeparting f p) :=
  moveAlign_closed C f hf (enterBerth_inv C.stillInv f hf _ _ h) _

theorem emptyIfVacant_closed : I (emptyIfVacant f p) := by
  unfold emptyIfVacant; simp only; split
  · exact enterEmpty_closed C f hf h _
  · exact h

theorem restartSettle_closed : I (p.modFace f restartSettle) := rec_closed C f hf h _ fun _ => ⟨rfl, rfl, rfl⟩

theorem movement_closed (b : Bool) : I (movement f b p) := by
  have S := C.stillInv
  unfold movement; simp only
  refine emptyIfVacant_closed C f hf ?_
  split
  all_goals repeat' split
  all_goals first
    | exact h
    | exact enterBerth_inv S f hf _ _ (modBerth_closed C f hf h _)
    | exact enterBerth_inv S f hf _ _ h
    | exact restartSettle_closed C f hf h
    | exact enterDeparting_closed C f hf h
    | exact enterRolling_closed C f hf h
    | exact clearAlign_closed C f hf (enterBerth_inv S f hf _ _ h) _

omit hf in
theorem queueAxleFault_closed (s : AxleSensor) (x : AxleFault) (m : Option (AxlePos × AxlePos)) :
    I (queueAxleFault f s x m p) := C.report _ _ h

theorem countAxle_closed (s : AxleSensor) (d : AxleDir) : I (countAxle f s d p) := by
  unfold countAxle; simp only; split
  · exact h
  · split <;> split
    all_goals first | exact queueAxleFault_closed C f h _ _ _ | exact modBerth_closed C f hf h _

theorem axleCounted_closed (s : AxleSensor) (d : AxleDir) : I (axleCounted f s d p) := by
  unfold axleCounted; simp only
  have a : I (if s = .entry ∧ d = .inward then wakeFace f p else p) := by
    split
    · exact wakeFace_inv C.stillInv f hf h
    · exact h
  exact movement_closed C f hf (modBerth_closed C f hf (countAxle_closed C f hf a _ _) _) _

theorem axleSample_closed (s : AxleSensor) (x y : Bool) : I (axleSample f s x y p) := by
  unfold axleSample; simp only; split
  · split
    · have b : ∀ u, I (p.modFace f fun r => r.modBerth fun b => b.setAxleUnit s u) := fun u =>
        modBerth_closed C f hf h _
      have c : ∀ q (x : Prop) [Decidable x], I q → I (if x then q.modFace f restartSettle else q) := by
        intro q x _ hq; split
        · exact restartSettle_closed C f hf hq
        · exact hq
      have e : ∀ q (x : Prop) [Decidable x] m, I q → I (if x then queueAxleFault f s .decode m q else q) := by
        intro q x _ m hq; split
        · exact queueAxleFault_closed C f hq _ _ _
        · exact hq
      split
      · exact e _ _ _ (c _ _ (b _))
      · exact axleCounted_closed C f hf (e _ _ _ (c _ _ (b _))) _ _
    · exact modBerth_closed C f hf h _
  · exact h

theorem detectorSample_closed (i : Fin 16) (o : Bool) : I (detectorSample f i o p) := by
  unfold detectorSample; simp only; split
  · exact h
  · split
    · exact movement_closed C f hf (modBerth_closed C f hf h _) _
    · exact modBerth_closed C f hf h _

theorem settleUnreckoned_closed : I (settleUnreckoned f p) := by
  have S := C.stillInv
  unfold settleUnreckoned; simp only; split
  · split
    · exact enterBerth_inv S f hf _ _ (modBerth_closed C f hf h _)
    · exact enterEmpty_closed C f hf (modBerth_closed C f hf h _) _
  · split
    · exact enterStopped_closed C f hf (modBerth_closed C f hf h _) _
    · exact h

theorem settleExpiry_closed : I (settleExpiry f p) := by
  unfold settleExpiry; simp only
  have a : I (p.modFace f fun r => r.modBerth fun b => { b with settle := none }) := modBerth_closed C f hf h _
  split
  · split
    all_goals first
      | exact enterStopped_closed C f hf a _
      | exact settleUnreckoned_closed C f hf a
      | exact a
      | (split
         · exact enterEmpty_closed C f hf a _
         · exact enterStopped_closed C f hf a _)
  · exact h

theorem firstSample_closed (s : TrackSample) : I (firstSample f s p) := by
  unfold firstSample; simp only
  have a : I (p.modFace f (primeTrack s)) := rec_closed C f hf h _ fun _ => ⟨rfl, rfl, rfl⟩
  repeat' split
  all_goals first
    | exact enterEmpty_closed C f hf a _
    | exact enterBerth_inv C.stillInv f hf _ _ a
    | exact a
    | exact h

theorem takeAnnouncement_closed (a : Announcement) : I (takeAnnouncement f a p) := by
  have S := C.stillInv
  unfold takeAnnouncement; simp only
  have b : I ((wakeFace f p).modFace f fun r => r.modBerth fun b => { b with ann := some a }) :=
    modBerth_closed C f hf (wakeFace_inv S f hf h) _
  split
  all_goals first
    | exact enterBerth_inv S f hf _ _ b
    | exact modBerth_closed C f hf b _
    | exact computeAlign_closed C f hf (modBerth_closed C f hf b _) _
    | (refine rec_closed C f hf b _ ?_
       exact fun _ => ⟨rfl, rfl, rfl⟩)
    | exact b

theorem announceTrain_closed (auto : Bool) (us : List (Byte × Byte)) : I (announceTrain f auto us p).2 := by
  unfold announceTrain; simp only; repeat' split
  all_goals first | exact takeAnnouncement_closed C f hf h _ | exact h

theorem withdrawTrain_closed : I (withdrawTrain f p).2 := by
  unfold withdrawTrain; simp only; repeat' split
  all_goals (try dsimp only)
  all_goals first
    | exact h
    | exact enterEmpty_closed C f hf h _
    | exact modBerth_closed C f hf h _
    | exact computeAlign_closed C f hf (modBerth_closed C f hf h _) _
    | (refine rec_closed C f hf h _ ?_
       exact fun _ => ⟨rfl, rfl, rfl⟩)

theorem clearBerth_closed : I (clearBerth f p).2 := by
  unfold clearBerth; simp only; repeat' split
  all_goals first
    | exact h
    | exact enterEmpty_closed C f hf (modBerth_closed C f hf h _) _

/-! ### Reports and requests at the door table -/

omit C hf h in
theorem keyFollow_state (rep : DoorReport) (x : Door) : (x.keyFollow rep).state ≠ .closeQueued := by
  unfold Door.keyFollow; repeat' split
  all_goals simp [Door.closeLocked, Door.enter]

theorem beginKey_closed (d : DoorIx) : I (beginKey f d p) := by
  unfold beginKey
  refine onDoor_closed C f hf (leaveMachinery_closed C f hf (leaveOperation_closed C f hf h d _) d) d _ ?_
  exact fun _ => rfl

theorem closeLocked_closed (d : DoorIx) (t : DoorCause) : I (changeDoor f d t Door.closeLocked p) :=
  changeDoor_to C f hf h d t _ fun x => by simp [Door.closeLocked, Door.enter]

theorem keyFollow_closed (d : DoorIx) (t : DoorCause) (rep : DoorReport) : I (changeDoor f d t (Door.keyFollow rep) p) :=
  changeDoor_to C f hf h d t _ fun x => keyFollow_state rep x

theorem classify_closed (d : DoorIx) (rep : DoorReport) : I (classify f d rep p) := by
  unfold classify; repeat' split
  all_goals first
    | exact releaseDoor_closed C f hf h d _
    | exact enterDiscrepant_closed C f hf h d _ _ _
    | exact keyFollow_closed C f hf h d _ rep
    | exact closeLocked_closed C f hf h d _

theorem uncommanded_closed (d : DoorIx) (rep : DoorReport) : I (uncommanded f d rep p) := by
  unfold uncommanded; split
  · exact h
  · exact enterDiscrepant_closed C f hf h d _ _ _

theorem opensTo_closed (d : DoorIx) (b : Bool) : I (opensTo f d b p) :=
  changeDoor_to C f hf h d _ _ fun x => by simp [Door.standOpen, Door.enter]

theorem judgeUnlocking_closed (d : DoorIx) (rep : DoorReport) : I (judgeUnlocking f d rep p) := by
  unfold judgeUnlocking; simp only
  have a : I (if rep.locked = true then p else onDoor f d (fun x => { x with unlockT := none }) p) := by
    split
    · exact h
    · refine onDoor_closed C f hf h d _ ?_
      exact fun _ => rfl
  split
  · exact changeDoor_to C f hf a d _ _ fun x => by simp [Door.enter]
  · split
    · exact opensTo_closed C f hf a d _
    · split
      · exact opensTo_closed C f hf a d _
      · split
        · exact uncommanded_closed C f hf a d rep
        · exact a

theorem judgeOpening_closed (d : DoorIx) (rep : DoorReport) : I (judgeOpening f d rep p) := by
  unfold judgeOpening; repeat' split
  all_goals first
    | exact opensTo_closed C f hf h d _
    | exact uncommanded_closed C f hf h d rep
    | exact h

theorem judgeClosing_closed (d : DoorIx) (rep : DoorReport) : I (judgeClosing f d rep p) := by
  unfold judgeClosing; simp only; split
  · exact closeLocked_closed C f hf h d _
  · split
    · refine changeDoor_to C f hf h d _ _ ?_
      intro x; simp [Door.enter]
    · split
      · exact obstruction_closed C f hf h d
      · split
        · exact uncommanded_closed C f hf h d rep
        · exact h

theorem judgeProving_closed (d : DoorIx) (rep : DoorReport) : I (judgeProving f d rep p) := by
  unfold judgeProving; repeat' split
  all_goals first
    | exact closeLocked_closed C f hf h d _
    | exact uncommanded_closed C f hf h d rep
    | exact h

theorem judgeReopening_closed (d : DoorIx) (rep : DoorReport) : I (judgeReopening f d rep p) := by
  unfold judgeReopening; simp only; split
  · split
    · exact h
    · split
      · refine changeDoor_keep C f hf h d _ _ ?_
        exact fun _ => rfl
      · exact opensTo_closed C f hf h d _
  · split
    · exact uncommanded_closed C f hf h d rep
    · exact h

theorem judgeState_closed (d : DoorIx) (rep : DoorReport) : I (judgeState f d rep p) := by
  unfold judgeState; simp only; split
  all_goals repeat' split
  all_goals first
    | exact h
    | exact uncommanded_closed C f hf h d rep
    | exact judgeUnlocking_closed C f hf h d rep
    | exact judgeOpening_closed C f hf h d rep
    | exact judgeClosing_closed C f hf h d rep
    | exact judgeProving_closed C f hf h d rep
    | exact judgeReopening_closed C f hf h d rep

theorem judgeLines_closed (d : DoorIx) (k : Bool) (rep : DoorReport) : I (judgeLines f d k rep p) := by
  unfold judgeLines; simp only
  split
  · exact releaseDoor_closed C f hf h d _
  split
  · exact h
  split
  · exact enterDiscrepant_closed C f hf h d _ _ _
  split
  · split
    · exact closeLocked_closed C f hf h d _
    · split
      · exact h
      · exact enterDiscrepant_closed C f hf h d _ _ _
  split
  · exact h
  split
  · split
    · exact keyFollow_closed C f hf h d _ rep
    · exact keyFollow_closed C f hf (beginKey_closed C f hf h d) d _ rep
  split
  · exact enterDiscrepant_closed C f hf h d _ _ _
  · exact judgeState_closed C f hf h d rep

theorem judgeStart_closed (d : DoorIx) (rep : DoorReport) : I (judgeStart f d rep p) := by
  unfold judgeStart; split
  · exact endStart_closed C f hf h d
  · exact h

theorem fireDoorTest_closed (d : DoorIx) (x : Door) : I (fireDoorTest f d x p) := by
  unfold fireDoorTest; simp only; split
  · exact fireOpenTest_closed C f hf h _
  · exact h

theorem storeReport_closed (d : DoorIx) (rep : DoorReport) : I (storeReport f d rep p) := by
  unfold storeReport
  refine changeDoor_keep C f hf ?_ d _ _ ?_
  · refine onDoor_closed C f hf h d _ ?_
    exact fun _ => rfl
  · exact fun _ => rfl

theorem applyReport_closed (d : DoorIx) (rep : DoorReport) : I (applyReport f d rep p) := by
  have S := C.stillInv
  unfold applyReport; simp only
  have a : I (if reportWakes (p.face f).doors[d] rep = true then wakeFace f p else p) := by
    split
    · exact wakeFace_inv S f hf h
    · exact h
  have b := storeReport_closed C f hf a d rep
  refine fireDoorTest_closed C f hf (judgeStart_closed C f hf ?_ d rep) d _
  split
  · exact classify_closed C f hf (recomputeSecured_inv S f hf _ _ b) d rep
  · exact recomputeSecured_inv S f hf _ _ (classify_closed C f hf b d rep)
  · exact judgeLines_closed C f hf (recomputeSecured_inv S f hf _ _ b) d _ rep

theorem setHostIso_closed (d : DoorIx) (b : Bool) : I (setHostIso f d b p) := by
  unfold setHostIso; simp only
  refine fireDoorTest_closed C f hf ?_ d _
  refine changeDoor_keep C f hf h d _ _ ?_
  exact fun _ => rfl

theorem doorIsolate_closed (d : Byte) : I (doorIsolate f d p).2 := by
  unfold doorIsolate; repeat' split
  all_goals first | exact setHostIso_closed C f hf h _ _ | exact h

theorem doorReadmit_closed (d : Byte) : I (doorReadmit f d p).2 := by
  unfold doorReadmit; split
  · exact h
  · exact setHostIso_closed C f hf h _ _

theorem closeAttempt_closed (d : DoorIx) : I (closeAttempt f d p).2 := by
  unfold closeAttempt; split
  · exact h
  · simp only
    refine grantEvent_closed C (closeOrder_closed C f hf ?_ d _ _)
    split
    · refine C.mod f _ p hf ?_ h
      refine .trans (.doorSame (d := d) (g := fun x => { x with attempts := 0 }) fun _ => rfl) ?_
      exact .same rfl rfl rfl
    · exact h

theorem doorRestore_closed (d : Byte) : I (doorRestore f d p).2 := by
  unfold doorRestore; simp only; split
  · exact h
  · split
    · split
      · exact fireDoorTest_closed C f hf (clearLatch_closed C f hf h _ _ _) _ _
      · exact h
    · split
      · exact h
      · split
        · exact fireDoorTest_closed C f hf (closeLocked_closed C f hf h _ _) _ _
        · exact closeAttempt_closed C f hf h _
    · exact closeAttempt_closed C f hf h _
    · exact h

theorem panelDoorReset_closed : I (panelDoorReset f p) := by
  unfold panelDoorReset; simp only
  exact fireOpenTest_closed C f hf (forDoors_closed (I := I) _ (fun d q hq => clearLatch_closed C f hf hq d _ _) _ h) _

end

end Sys2Proof.Machine
end

