-- ==== Sys2Proof/Laws/ClosedStep.lean ====
section
/-! SUPPORT. Closure, completed: the door link, the face modes, the configuration store, the host link and the step.
Every step keeps a fully closed predicate of the part. -/

namespace Sys2Proof.Machine

/-- A face out of FIRE stays out of it through every operation but an entry to FIRE. -/
theorem notFire_closed (f : Face) : Closed (fun _ => True) fun q => (q.face f).mode.mode ≠ .fire where
  report r p h := by rw [queueReport_face]; exact h
  mod f' g p _ hm h := by
    rw [Part.modFace_face]; split
    · rename_i e; subst e
      rcases hm with hm | ⟨_, hm, _⟩
      · exact hm
      · rw [hm]; exact h
    · exact h
  shrink q s p _ _ h := by simpa using h
  join e p _ h := by unfold joinQueue; simpa using h
  start e p _ _ h := by simpa using h
  queued _ _ _ _ := trivial
  supply s p h := by simpa using h
  fire x p h := by simpa using h
  profiles v p h := by simpa using h
  params sent s p h := by simpa using h
  present _ _ _ _ := trivial
  away _ _ _ h := absurd trivial h

variable {F : Face → Prop} {I : Part → Prop}

section
variable (C : Closed F I) (f : Face) (hf : F f) {p : Part} (h : I p)
include C hf h

/-! ### The door link -/

theorem startEnumeration_closed (tag : Byte) (b : Bool) : I (startEnumeration f tag b p) := by
  unfold startEnumeration; simp only
  refine C.mod f resetHealth _ hf (.same rfl rfl rfl) (doorsEnumerated_closed C f hf ?_)
  refine C.mod f _ p hf ?_ h
  exact .same rfl rfl rfl

theorem chainResetExpiry_closed : I (chainResetExpiry f p) := by
  unfold chainResetExpiry; split
  · exact modLink_closed C f hf h _
  · exact h

theorem chainSettleExpiry_closed : I (chainSettleExpiry f p) := by
  unfold chainSettleExpiry; split
  · refine C.mod f _ p hf ?_ h
    simp only
    refine .trans (foldl_mild _ (fun r d => ?_) _ _) (.same rfl rfl rfl)
    exact .same rfl rfl rfl
  · exact h

theorem standbyExpiry_closed : I (standbyExpiry f p) := by
  unfold standbyExpiry; split
  · exact modLink_closed C f hf h _
  · exact h

theorem flashExpiry_closed : I (flashExpiry f p) := by
  unfold flashExpiry; split
  · refine C.mod f _ p hf ?_ h
    exact .same rfl rfl rfl
  · exact h

theorem frameSent_closed : I (frameSent f p) := by
  unfold frameSent
  refine C.mod f _ p hf ?_ h
  exact .same rfl rfl rfl

/-! ### The face modes -/

theorem modMode_closed (g : ModeRec → ModeRec) (hg : ∀ m, (g m).mode = m.mode ∨ (g m).mode ≠ .fire) :
    I (p.modFace f fun r => r.modMode g) := by
  refine C.mod f _ p hf ?_ h
  rcases hg (p.face f).mode with e | e
  · exact .same rfl e rfl
  · exact .mode e

omit hf in
theorem queueModeReport_closed (prev : FaceMode) (c : ModeCause) : I (queueModeReport f prev c p) := C.report _ _ h

theorem modPanel_closed (g : Panel → Panel) : I (p.modFace f (modPanel g)) := by
  refine C.mod f _ p hf ?_ h
  exact .same rfl rfl rfl

theorem dropNotice_closed : I (p.modFace f FaceRec.dropNotice) :=
  rec_closed C f hf h _ fun _ => ⟨rfl, rfl, rfl⟩

theorem faceFireExit_closed : I (faceFireExit f p) := by
  have n := dropNotice_closed C f hf h
  unfold faceFireExit; simp only; split
  · split
    · have a : I (startEnumeration f 0 true (queueModeReport f .fire .fireReset
          ((p.modFace f FaceRec.dropNotice).modFace f fun r => r.modMode fun m => { m with mode := .maint }))) :=
        by
        refine startEnumeration_closed C f hf (queueModeReport_closed C f (modMode_closed C f hf n _ ?_) _ _) _ _
        exact fun _ => .inr nofun
      split
      · refine queueModeReport_closed C f (modMode_closed C f hf a _ ?_) _ _
        exact fun _ => .inl rfl
      · exact a
    · split
      · refine queueModeReport_closed C f (modMode_closed C f hf n _ ?_) _ _
        exact fun _ => .inr nofun
      · refine queueModeReport_closed C f (modMode_closed C f hf n _ ?_) _ _
        exact fun _ => .inr nofun
  · exact h

omit hf in
theorem fireExit_closed : I (fireExit p) := by
  unfold fireExit
  have a := C.fire { p.fire with cause := none } p h
  have b : ∀ f q, I q → I (faceFireExit f q) := by
    intro f q hq
    by_cases hp : q.present f = true
    · exact faceFireExit_closed C f (C.present q f hq hp) hq
    · unfold faceFireExit; simp only [hp]; exact hq
  exact b .B _ (b .A _ a)

theorem modeByRequest_closed (m : FaceMode) (hm : m ≠ .fire) : I (modeByRequest f m p) := by
  unfold modeByRequest
  refine queueModeReport_closed C f (modMode_closed C f hf h _ ?_) _ _
  exact fun _ => .inr hm

theorem enterStandby_closed : I (enterStandby f p) := by
  unfold enterStandby
  refine modeByRequest_closed C f hf ?_ _ nofun
  refine C.mod f _ p hf ?_ h
  exact .same rfl rfl rfl

theorem setFaceMode_closed (m tag : Byte) : I (setFaceMode f m tag p).2 := by
  have a := wakeFace_inv C.stillInv f hf h
  have b := startEnumeration_closed C f hf h tag true
  have c := modeByRequest_closed C f hf h .maint nofun
  have d := enterStandby_closed C f hf h
  have e : ∀ (x : Prop) [Decidable x], I (if x then modeByRequest f .maint p else enterStandby f p) := by
    intro x _; split
    · exact c
    · exact d
  unfold setFaceMode; simp only; split
  · exact h
  · split
    · exact h
    · split
      · split
        · exact b
        · exact h
      · split
        · exact h
        · split
          · exact h
          · split
            · exact e _
            · exact h
      · exact h
      · split
        · exact b
        · split <;> exact h
      · split
        · exact a
        · split <;> exact h
      · exact h

theorem enumerateFace_closed (tag : Byte) : I (enumerateFace f tag p).2 := by
  have b := startEnumeration_closed C f hf h tag false
  unfold enumerateFace; simp only; split
  · exact h
  · split
    · exact b
    · split
      · exact h
      · split
        · exact b
        · exact h
    all_goals exact h

theorem wakeRoundEnded_closed : I (wakeRoundEnded f p) := by
  unfold wakeRoundEnded
  refine C.mod f _ p hf ?_ h
  split <;> exact .same rfl rfl rfl

theorem maintMove_closed (d : Byte) (b : Bool) : I (maintMove f d b p).2 := by
  unfold maintMove; simp only; split
  · exact h
  · split
    · exact h
    · simp only
      refine grantEvent_closed C ?_
      split
      all_goals first | exact closeOrder_closed C f hf h _ _ _ | exact openOrder_closed C f hf h _ _ _

theorem localActive_closed : I (localActive f p) := by
  have S := C.stillInv
  have a : I (if (p.face f).enumerating = true then p.modFace f fun r => r.modMode fun m => { m with toAuto := true }
      else startEnumeration f 0 true p) := by
    split
    · exact modMode_closed C f hf h _ fun _ => .inl rfl
    · exact startEnumeration_closed C f hf h _ _
  unfold localActive; simp only; split
  · exact takeLocalRequest_inv S f hf h
  · exact wakeFace_inv S f hf h
  · refine queueModeReport_closed C f (modMode_closed C f hf a _ ?_) _ _
    exact fun _ => .inl rfl
  all_goals exact h

theorem localDropped_closed : I (localDropped f p) := by
  unfold localDropped; simp only; split
  · refine enterAuto_inv C.stillInv f hf _ (C.mod f _ p hf ?_ h)
    exact .same rfl rfl rfl
  · split
    · refine queueModeReport_closed C f (modMode_closed C f hf h _ ?_) _ _
      exact fun _ => .inl rfl
    · exact h

theorem localSample_closed (b : Bool) : I (localSample f b p) := by
  unfold localSample; simp only
  have a := modPanel_closed C f hf h fun q => { q with localReq := ((p.face f).mode.panel.localReq.sample (p.face f).params.fPanel b).1 }
  split
  · split
    · exact localActive_closed C f hf a
    · exact localDropped_closed C f hf a
  · exact a

theorem panelOpen_closed (s : OpSource) : I (panelOpen f s p) := by
  unfold panelOpen; simp only; split
  · exact takeOpen_closed C f hf h _
  · exact h

theorem panelClose_closed : I (panelClose f p) := by
  unfold panelClose; split
  · exact takeClose_closed C f hf h _ _
  · exact h

theorem openEdge_closed : I (openEdge f p) := by
  unfold openEdge; simp only; split
  · exact panelOpen_closed C f hf h _
  · exact h

theorem closeEdge_closed : I (closeEdge f p) := by
  unfold closeEdge; simp only; split
  · split
    · exact panelDoorReset_closed C f hf h
    · exact h
  · split
    · exact panelClose_closed C f hf h
    · exact h

theorem openButtonSample_closed (b : Bool) : I (openButtonSample f b p) := by
  unfold openButtonSample; simp only
  have a := modPanel_closed C f hf h fun q => { q with pOpen := ((p.face f).mode.panel.pOpen.sample (p.face f).params.fPanel b).1 }
  split
  · exact openEdge_closed C f hf a
  · exact a

theorem closeButtonSample_closed (b : Bool) : I (closeButtonSample f b p) := by
  unfold closeButtonSample; simp only
  have a := modPanel_closed C f hf h fun q => { q with pClose := ((p.face f).mode.panel.pClose.sample (p.face f).params.fPanel b).1 }
  split
  · exact closeEdge_closed C f hf a
  · exact a

theorem allButtonSample_closed (b : Bool) : I (allButtonSample f b p) := by
  unfold allButtonSample
  refine C.mod f _ p hf ?_ h
  exact .same rfl rfl rfl

theorem proofBypassChanged_closed : I (proofBypassChanged f p) := recomputeSecured_inv C.stillInv f hf _ _ h

theorem gapBypassChanged_closed : I (gapBypassChanged f p) := by
  unfold gapBypassChanged; simp only
  have a := recomputeSecured_inv C.stillInv f hf .bypass true h
  split
  · exact concludeGap_inv C.stillInv f hf _ a
  · exact a

theorem proofBypassSample_closed (b : Bool) : I (proofBypassSample f b p) := by
  unfold proofBypassSample; simp only
  have a := modPanel_closed C f hf h fun q => { q with proofBypass := ((p.face f).mode.panel.proofBypass.sample (p.face f).params.fPanel b).1 }
  split
  · exact proofBypassChanged_closed C f hf a
  · exact a

theorem gapBypassSample_closed (b : Bool) : I (gapBypassSample f b p) := by
  unfold gapBypassSample; simp only
  have a := modPanel_closed C f hf h fun q => { q with gapBypass := ((p.face f).mode.panel.gapBypass.sample (p.face f).params.fPanel b).1 }
  split
  · exact gapBypassChanged_closed C f hf a
  · exact a

omit hf in
theorem primePanel_closed (s : PanelLevels) : I (primePanel f s p) := by
  unfold primePanel
  split
  · rename_i hp
    have hf := C.present p f h hp
    have a := modPanel_closed C f hf h fun _ =>
      { localReq := .prime s.localReq, pOpen := .prime s.pOpen, pClose := .prime s.pClose, pAll := .prime s.pAll,
        proofBypass := .prime s.proofBypass, gapBypass := .prime s.gapBypass }
    have b : ∀ q (x : Bool), I q → I (if x = true then proofBypassChanged f q else q) := by
      intro q x hq; split
      · exact proofBypassChanged_closed C f hf hq
      · exact hq
    have c : ∀ q (x : Bool), I q → I (if x = true then gapBypassChanged f q else q) := by
      intro q x hq; split
      · exact gapBypassChanged_closed C f hf hq
      · exact hq
    have d := c _ s.gapBypass (b _ s.proofBypass a)
    simp only
    split
    · exact localActive_closed C f hf d
    · exact d
  · exact h

/-! ### The configuration store -/

theorem takeGeometry_closed (g : Geometry) (hm : (p.face f).mode.mode ≠ .fire) : I (takeGeometry f g p) := by
  unfold takeGeometry; simp only
  have a := leaveMachineryAll_closed C f hf h
  have am := leaveMachineryAll_closed (notFire_closed f) f trivial hm
  have b : I ((leaveMachineryAll f p).modFace f (FaceRec.configure g)) := C.mod f _ _ hf (.mode am) a
  refine C.mod f resetHealth _ hf (.same rfl rfl rfl)
    (recomputeSecured_inv C.stillInv f hf _ _ (endGapCheck_closed C f hf ?_ _))
  refine forDoors_closed (I := I) _ (fun d q hq => ?_) _ (clearAlign_closed C f hf b _)
  exact changeDoor_to C f hf hq d _ _ fun x => by simp [Door.reconfigured, Door.enter]

theorem loadGeometry_closed (g : Geometry) : I (loadGeometry f g p).2 := by
  unfold loadGeometry; simp only; split
  · exact h
  · rename_i hc
    have hm : (p.face f).mode.mode ≠ .fire := by
      intro e
      rw [e] at hc
      simp only [firstFail] at hc
      repeat' split at hc
      all_goals simp_all
    split
    · exact h
    · exact takeGeometry_closed C f hf h g hm

theorem loadClasses_closed (cs : Vector MotionClass 4) : I (loadClasses f cs p).2 := by
  unfold loadClasses; split
  · exact h
  · split
    · exact h
    · simp only
      refine rec_closed C f hf h _ ?_
      exact fun _ => ⟨rfl, rfl, rfl⟩

theorem loadFaceParams_closed (sent : List Nat) : I (loadFaceParams f sent p).2 := by
  unfold loadFaceParams; simp only; split
  · exact h
  · split
    · exact h
    · split
      · exact h
      · simp only
        refine C.mod f _ p hf ?_ h
        exact .trans (.same (r' := { p.face f with params := clampFaceParams sent }) rfl rfl rfl)
          (.mapDoors fun _ => rfl)

omit hf in
theorem loadProfile_closed (id : Nat) (pr : Profile) : I (loadProfile id pr p).2 := by
  unfold loadProfile
  split
  · exact h
  · split
    · split
      · exact C.profiles _ p h
      · split
        · exact h
        · split
          · exact h
          · exact C.profiles _ p h
    · exact h

omit hf in
theorem loadPartParams_closed (sent : List Nat) : I (loadPartParams sent p).2 := by
  unfold loadPartParams; simp only
  exact grantEvent_closed C (C.params sent _ p h)

end

/-! ### The poll cycle -/

section
variable (C : FullyClosed F I) (f : Face) (hf : F f) {p : Part} (h : I p)
include C hf h

theorem faceFireEntry_closed (c : ModeCause) : I (faceFireEntry c f p) := by
  unfold faceFireEntry; split
  · split
    all_goals first | exact C.enterFire f c p hf h | exact h
  · exact h

omit hf in
theorem fireEntry_closed (c : FireCause) : I (fireEntry c p) := by
  have b : ∀ c f q, I q → I (faceFireEntry c f q) := by
    intro c f q hq
    by_cases hp : q.present f = true
    · exact faceFireEntry_closed C f (C.present q f hq hp) hq c
    · unfold faceFireEntry; simp only [hp]; exact hq
  unfold fireEntry; split
  · exact h
  · exact b _ .B _ (b _ .A _ (C.fire _ p h))

omit hf in
theorem fireInSample_closed (b : Bool) : I (fireInSample b p) := by
  unfold fireInSample; simp only
  have a := C.fire { p.fire with fireIn := (p.fire.fireIn.sample p.params.fFire b).1 } p h
  split
  · exact fireEntry_closed C a _
  · exact a

omit hf in
theorem fireResetSample_closed (b : Bool) : I (fireResetSample b p) := by
  unfold fireResetSample; simp only
  have a := C.fire { p.fire with fireReset := (p.fire.fireReset.sample p.params.fFire b).1 } p h
  split
  · exact fireExit_closed C.toClosed a
  · exact a

omit hf in
theorem resetSample_closed (s : ResetSample) : I (resetSample s p) := by
  unfold resetSample; simp only; split
  · exact h
  · have a := primePanel_closed C.toClosed .B (primePanel_closed C.toClosed .A h s.panelA) s.panelB
    have b := C.fire { (primePanel .B s.panelB (primePanel .A s.panelA p)).fire with
      fireIn := .prime s.fireIn, fireReset := .prime s.fireReset } _ a
    split
    · exact fireEntry_closed C b _
    · exact b

theorem enumerationCompleted_closed : I (enumerationCompleted f p) := by
  unfold enumerationCompleted; simp only
  have a : I (p.modFace f fun r => r.modMode fun m => { m with toAuto := false }) :=
    modMode_closed C.toClosed f hf h _ fun _ => .inl rfl
  split
  · split
    all_goals first
      | exact a
      | (split
         · exact C.enterFire f _ _ hf a
         · exact enterAuto_inv C.stillInv f hf _ a)
  · exact h

omit C hf h in
theorem handOver_closed (C : Closed F I) (hf : F f) (h : I p) (d : DoorIx) (st : StatusReply) (c : Confirm) :
    I (handOver f d st c p) := by
  unfold handOver
  exact beamHandover_closed C f hf (seqCheck_inv C.stillInv f hf (applyReport_closed C f hf h d _)) d _ _

theorem modHealth_closed (d : DoorIx) (g : Health → Health) : I (p.modFace f fun r => r.modHealth d g) :=
  rec_closed C.toClosed f hf h _ fun _ => ⟨rfl, rfl, rfl⟩

theorem enumPollEnd_closed (d : DoorIx) (o : PollOutcome) : I (enumPollEnd f d o p) := by
  have D := C.toClosed
  unfold enumPollEnd; split
  · exact handOver_closed f D hf (modHealth_closed C f hf h d _) d _ _
  all_goals
    unfold enumLost
    exact enterLost_closed D f hf (modHealth_closed C f hf h d _) d

omit C hf h in
theorem handCue_mild (d : DoorIx) (c : Cue) (r : FaceRec) : Mild r (handCue d c r) :=
  .still (handCue_still d c r) (by rw [handCue_mode])

omit C hf h in
theorem enterRunning_mild (r : FaceRec) : Mild r (enterRunning r) := by
  unfold enterRunning; simp only
  refine .trans (.same rfl rfl rfl) (foldl_mild _ (fun r d => ?_) _ _)
  exact .still (handCue_still d _ r) (by rw [handCue_mode])

theorem sweepDone_closed : I (sweepDone f p) := by
  unfold sweepDone; simp only
  refine enumerationCompleted_closed C f hf ?_
  exact C.mod f _ _ hf (enterRunning_mild _) (C.report _ _ h)

theorem sweepPollEnd_closed (pos : Nat) (o : PollOutcome) : I (sweepPollEnd f pos o p) := by
  have D := C.toClosed
  unfold sweepPollEnd; simp only
  cases o <;> simp only <;> split
  all_goals first
    | exact sweepDone_closed C f hf (modLink_closed D f hf h _)
    | exact sweepDone_closed C f hf h
    | exact modLink_closed D f hf (modLink_closed D f hf h _) _
    | exact modLink_closed D f hf h _

theorem runAccepted_closed (d : DoorIx) (st : StatusReply) : I (runAccepted f d st p) := by
  have D := C.toClosed
  unfold runAccepted; simp only
  refine handOver_closed f D hf ?_ d _ _
  have a : ∀ (x : Bool) (c : Confirm × Health × Option Resend), I (p.modFace f fun r =>
      if x = true then handCue d ((r.modHealth d fun _ => c.2.1).modLink (queueResend c.2.2)).doors[d].cue
        ((r.modHealth d fun _ => c.2.1).modLink (queueResend c.2.2))
      else (r.modHealth d fun _ => c.2.1).modLink (queueResend c.2.2)) := by
    intro x c
    refine C.mod f _ p hf ?_ h
    split
    · exact .trans (.same rfl rfl rfl) (handCue_mild d _ _)
    · exact .same rfl rfl rfl
  split
  · exact setLate_closed D f hf (a _ _) d _
  · exact a _ _

theorem runMissed_closed (d : DoorIx) (x : LostReason) : I (runMissed f d x p) := by
  have D := C.toClosed
  unfold runMissed; split
  · exact setLate_closed D f hf (modHealth_closed C f hf h d _) d _
  · unfold runLost; simp only
    refine enterLost_closed D f hf (C.report _ _ ?_) d
    refine rec_closed D f hf h _ ?_
    exact fun _ => ⟨rfl, rfl, rfl⟩
  · exact modHealth_closed C f hf h d _
  · exact h

theorem runPollEnd_closed (d : DoorIx) (o : PollOutcome) : I (runPollEnd f d o p) := by
  unfold runPollEnd; split
  · exact runAccepted_closed C f hf h d _
  all_goals exact runMissed_closed C f hf h d _

theorem roundStep_closed (x : Pace) (pos : Nat) : I (roundStep f x pos p) := by
  have D := C.toClosed
  unfold roundStep; simp only; split
  · exact h
  · split
    · exact modLink_closed D f hf h _
    · exact h
  · split
    · split
      · exact wakeRoundEnded_closed D f hf (modLink_closed D f hf h _)
      · exact modLink_closed D f hf h _
    · exact h

theorem pollEnd_closed (pos : Nat) (o : PollOutcome) : I (pollEnd f pos o p) := by
  have D := C.toClosed
  have a : I (p.modFace f fun r => r.modLink fun l => { l with line := .idle, replyTimer := none }) :=
    modLink_closed D f hf h _
  unfold pollEnd; simp only; split
  · split
    · refine C.mod f _ _ hf ?_ (enumPollEnd_closed C f hf a _ o)
      exact .same rfl rfl rfl
    · exact a
  · exact sweepPollEnd_closed C f hf a pos o
  · split
    · exact roundStep_closed C f hf (runPollEnd_closed C f hf a _ o) _ _
    · exact a
  all_goals exact a

theorem replyReceived_closed (bs : List Byte) : I (replyReceived f bs p) := by
  have D := C.toClosed
  unfold replyReceived; simp only; repeat' split
  all_goals first
    | exact h
    | exact modLink_closed D f hf h _
    | exact pollEnd_closed C f hf h _ _

theorem replyExpiry_closed : I (replyExpiry f p) := by
  unfold replyExpiry; repeat' split
  all_goals first
    | exact h
    | exact pollEnd_closed C f hf h _ _

end

/-! ### The end of an event, the host link and the step -/

section
variable (C : FullyClosed F I) {p : Part} (h : I p)

theorem settleFace_reset (f : Face) (p : Part) (hp : p.face f = FaceRec.reset) : settleFace f p = p := by
  cases f <;>
  · simp only [Part.face] at hp
    simp only [settleFace, seqCheck, gapUpdate, handoverCheck, Part.face, Part.modFace, hp, FaceRec.reset,
      GapRec.reset, ModeRec.reset, reduceCtorEq, false_and, if_false]
    simp only [gapTimerUpdate, FaceRec.modGap, reduceCtorEq, false_and, if_false]
    rw [← GapRec.reset.eq_def]
    cases p
    simp_all [FaceRec.reset, ModeRec.reset]

theorem linkPump_reset (f : Face) (p : Part) (hp : p.face f = FaceRec.reset) : p.modFace f linkPump = p := by
  cases f <;>
  · simp only [Part.face] at hp
    cases p
    simp_all [Part.modFace, linkPump, FaceRec.reset, Link.reset]

include C h

theorem settle_closed : I (settle p) := by
  have S := C.stillInv
  have a : ∀ f q, I q → I (settleFace f q) := by
    intro f q hq
    by_cases hf : F f
    · exact settleFace_inv S f hf hq
    · rw [settleFace_reset f q (C.away q f hq hf)]; exact hq
  have b : ∀ f q, I q → I (q.modFace f linkPump) := by
    intro f q hq
    by_cases hf : F f
    · exact C.mod f _ q hf (.calm (linkPump_calm _)) hq
    · rw [linkPump_reset f q (C.away q f hq hf)]; exact hq
  exact b .B _ (b .A _ (a .B _ (a .A _ h)))

theorem serveFace_closed (k : ReqKind) (f : Face) (hf : F f) (tag : Byte) (pl : List Byte) :
    I (serveFace k f tag pl p).part := by
  have D := C.toClosed
  have o : I (serveOpen f tag pl p).part := by
    unfold serveOpen; simp only; split
    · exact h
    · exact takeOpen_closed D f hf h _
  have c : I (serveClose f tag p).part := by
    unfold serveClose; split
    · exact h
    · exact takeClose_closed D f hf h _ _
  have d : I (serveDoor f (byteAt pl 1) p).part := by
    unfold serveDoor; repeat' split
    all_goals exact h
  cases k <;> unfold serveFace
  all_goals first
    | exact h
    | exact o
    | exact c
    | exact d
    | exact loadGeometry_closed D f hf h _
    | exact loadFaceParams_closed D f hf h _
    | exact loadClasses_closed D f hf h _
    | exact announceTrain_closed D f hf h _ _
    | exact withdrawTrain_closed D f hf h
    | exact doorRestore_closed D f hf h _
    | exact doorIsolate_closed D f hf h _
    | exact doorReadmit_closed D f hf h _
    | exact maintMove_closed D f hf h _ _
    | exact setFaceMode_closed D f hf h _ _
    | exact enumerateFace_closed D f hf h _
    | exact clearBerth_closed D f hf h

theorem serve_closed (k : ReqKind) (tag : Byte) (pl : List Byte) : I (serve k tag pl p).part := by
  have D := C.toClosed
  unfold serve; split
  · exact h
  · split
    · split
      · exact h
      · rename_i f _
        split
        · exact h
        · rename_i hp
          have : p.present f = true := by
            simp only [Bool.or_eq_true, not_or, Bool.not_eq_true', Bool.not_eq_false] at hp
            exact hp.2
          exact serveFace_closed C h k f (C.present p f h this) tag pl
    · cases k <;> unfold servePartWide <;> simp only
      all_goals first
        | exact h
        | exact loadProfile_closed D h _ _
        | exact loadPartParams_closed D h _
        | exact fireEntry_closed C h _
        | (unfold servePart; repeat' split
           all_goals exact h)

end

/-- What a predicate must survive besides: the head report leaving the queue. -/
structure SentClosed (F : Face → Prop) (I : Part → Prop) : Prop extends FullyClosed F I where
  sent : ∀ x rest p, p.reports = x :: rest → I p → I { p with reports := rest, loss := false }

/-- What a predicate must survive besides: a reset. -/
structure StepClosed (F : Face → Prop) (I : Part → Prop) : Prop extends SentClosed F I where
  reset : ∀ straps p, I p → I (Part.reset straps)

section
variable (C : SentClosed F I) {s : State} (h : I s.part)
include C h

theorem dispatch_closed : I (dispatch s).part := by
  unfold dispatch; split
  · exact h
  · split
    · unfold dispatchFrame; split
      · exact h
      · exact settle_closed C.toFullyClosed (serve_closed C.toFullyClosed h _ _ _)
    all_goals exact h

theorem transmit_closed : I (transmit s).part := by
  unfold transmit; split
  all_goals first
    | exact h
    | (rename_i x rest _ _ hr
       exact C.sent x rest _ hr h)

theorem hostPump_closed : I (hostPump s).part := by
  unfold hostPump
  exact dispatch_closed C (transmit_closed C (dispatch_closed C h))

omit h in
theorem event_closed (g : Part → Part) (hg : I (g s.part)) : I (event g s).part :=
  hostPump_closed C (s := { s with part := settle (g s.part) }) (settle_closed C.toFullyClosed hg)

theorem faceEvent_closed (f : Face) (g : Part → Part) (hg : ∀ p, F f → I p → I (g p)) : I (faceEvent f g s).part := by
  unfold faceEvent
  refine event_closed C _ ?_
  split
  · rename_i hp; exact hg _ (C.present _ f h hp) h
  · exact h

theorem frameArrives_closed (fr : Frame) : I (frameArrives fr s).part :=
  hostPump_closed C (s := { s with host := offerFrame fr s.host }) h

/-- Every command keeps such a predicate of the part, or resets the part. -/
theorem exec_closed_or (c : Instr) (t : State) (ht : exec c s = .next t) :
    I t.part ∨ ∃ straps, t.part = Part.reset straps := by
  have D := C.toFullyClosed
  have E := C.toClosed
  cases c with
  | powerOn x => injection ht with ht; subst ht; exact .inr ⟨_, rfl⟩
  | resetPin x => injection ht with ht; subst ht; exact .inr ⟨_, rfl⟩
  | requestReset x =>
    injection ht with ht; subst ht
    unfold requestedReset; split
    · exact .inr ⟨_, rfl⟩
    · exact .inl h
  | hostFrameSent =>
    injection ht with ht; subst ht
    unfold hostSent; split
    · exact .inr ⟨_, rfl⟩
    · exact .inl (hostPump_closed C (s := { s with host := { s.host with tx := .idle } }) h)
  | hostByteReceived b ok =>
    injection ht with ht; subst ht
    exact .inl (hostPump_closed C (s := { s with host := receiveByte b ok s.host }) h)
  | byteGapTimerExpiry => injection ht with ht; subst ht; exact .inl h
  | firstSampleAfterReset x => injection ht with ht; subst ht; exact .inl (event_closed C _ (resetSample_closed D h x))
  | supplyLevelChange x => injection ht with ht; subst ht; exact .inl (event_closed C _ (takeSupplySample_closed E h x))
  | fireInRisingEdge => injection ht with ht; subst ht; exact .inl (event_closed C _ (fireInSample_closed D h _))
  | fireResetRisingEdge => injection ht with ht; subst ht; exact .inl (event_closed C _ (fireResetSample_closed D h _))
  | fireInputFall x =>
    injection ht with ht; subst ht
    refine .inl (event_closed C _ ?_)
    cases x
    · exact fireInSample_closed D h _
    · exact fireResetSample_closed D h _
  | badKind k t pl => injection ht with ht; subst ht; exact .inl (frameArrives_closed C h _)
  | enquirePart t pl => injection ht with ht; subst ht; exact .inl (frameArrives_closed C h _)
  | enquireFace t pl => injection ht with ht; subst ht; exact .inl (frameArrives_closed C h _)
  | enquireDoor t pl => injection ht with ht; subst ht; exact .inl (frameArrives_closed C h _)
  | enquireBerth t pl => injection ht with ht; subst ht; exact .inl (frameArrives_closed C h _)
  | enquireAlign t pl => injection ht with ht; subst ht; exact .inl (frameArrives_closed C h _)
  | enquireCounts t pl => injection ht with ht; subst ht; exact .inl (frameArrives_closed C h _)
  | loadGeometry t pl => injection ht with ht; subst ht; exact .inl (frameArrives_closed C h _)
  | loadProfile t pl => injection ht with ht; subst ht; exact .inl (frameArrives_closed C h _)
  | loadFaceParams t pl => injection ht with ht; subst ht; exact .inl (frameArrives_closed C h _)
  | loadClasses t pl => injection ht with ht; subst ht; exact .inl (frameArrives_closed C h _)
  | loadPartParams t pl => injection ht with ht; subst ht; exact .inl (frameArrives_closed C h _)
  | announceTrain t pl => injection ht with ht; subst ht; exact .inl (frameArrives_closed C h _)
  | withdrawTrain t pl => injection ht with ht; subst ht; exact .inl (frameArrives_closed C h _)
  | openFace t pl => injection ht with ht; subst ht; exact .inl (frameArrives_closed C h _)
  | closeFace t pl => injection ht with ht; subst ht; exact .inl (frameArrives_closed C h _)
  | doorRestore t pl => injection ht with ht; subst ht; exact .inl (frameArrives_closed C h _)
  | doorIsolate t pl => injection ht with ht; subst ht; exact .inl (frameArrives_closed C h _)
  | doorReadmit t pl => injection ht with ht; subst ht; exact .inl (frameArrives_closed C h _)
  | maintMove t pl => injection ht with ht; subst ht; exact .inl (frameArrives_closed C h _)
  | setFaceMode t pl => injection ht with ht; subst ht; exact .inl (frameArrives_closed C h _)
  | enumerateFace t pl => injection ht with ht; subst ht; exact .inl (frameArrives_closed C h _)
  | clearBerth t pl => injection ht with ht; subst ht; exact .inl (frameArrives_closed C h _)
  | fireCommand t pl => injection ht with ht; subst ht; exact .inl (frameArrives_closed C h _)
  | resetPart t pl => injection ht with ht; subst ht; exact .inl (frameArrives_closed C h _)
  | chainResetTimerExpiry f =>
    injection ht with ht; subst ht
    exact .inl (faceEvent_closed C h _ _ fun p hf hp => chainResetExpiry_closed E _ hf hp)
  | chainSettleTimerExpiry f =>
    injection ht with ht; subst ht
    exact .inl (faceEvent_closed C h _ _ fun p hf hp => chainSettleExpiry_closed E _ hf hp)
  | doorLinkFrameSent f =>
    injection ht with ht; subst ht
    exact .inl (faceEvent_closed C h _ _ fun p hf hp => frameSent_closed E _ hf hp)
  | statusReplyReceived f b =>
    injection ht with ht; subst ht
    exact .inl (faceEvent_closed C h _ _ fun p hf hp => replyReceived_closed D _ hf hp _)
  | replyTimerExpiry f =>
    injection ht with ht; subst ht
    exact .inl (faceEvent_closed C h _ _ fun p hf hp => replyExpiry_closed D _ hf hp)
  | standbyRoundTimerExpiry f =>
    injection ht with ht; subst ht
    exact .inl (faceEvent_closed C h _ _ fun p hf hp => standbyExpiry_closed E _ hf hp)
  | flashTimerExpiry f =>
    injection ht with ht; subst ht
    exact .inl (faceEvent_closed C h _ _ fun p hf hp => flashExpiry_closed E _ hf hp)
  | axleHeadChange f a b c =>
    injection ht with ht; subst ht
    exact .inl (faceEvent_closed C h _ _ fun p hf hp => axleSample_closed E _ hf hp _ _ _)
  | stopDetectorChange f a b =>
    injection ht with ht; subst ht
    exact .inl (faceEvent_closed C h _ _ fun p hf hp => detectorSample_closed E _ hf hp _ _)
  | configurationFirstSample f a =>
    injection ht with ht; subst ht
    exact .inl (faceEvent_closed C h _ _ fun p hf hp => firstSample_closed E _ hf hp _)
  | settleTimerExpiry f =>
    injection ht with ht; subst ht
    exact .inl (faceEvent_closed C h _ _ fun p hf hp => settleExpiry_closed E _ hf hp)
  | automaticOpeningNotice f =>
    injection ht with ht; subst ht
    exact .inl (faceEvent_closed C h _ _ fun p hf hp => noticeArrives_closed E _ hf hp)
  | unlockTimerExpiry f d =>
    injection ht with ht; subst ht
    exact .inl (faceEvent_closed C h _ _ fun p hf hp => unlockExpiry_closed E _ hf hp _)
  | motionTimerExpiry f d =>
    injection ht with ht; subst ht
    exact .inl (faceEvent_closed C h _ _ fun p hf hp => motionExpiry_closed E _ hf hp _)
  | lockProofTimerExpiry f d =>
    injection ht with ht; subst ht
    exact .inl (faceEvent_closed C h _ _ fun p hf hp => lockProofExpiry_closed E _ hf hp _)
  | obstructionPauseTimerExpiry f d =>
    injection ht with ht; subst ht
    exact .inl (faceEvent_closed C h _ _ fun p hf hp => pauseExpiry_closed E _ hf hp _)
  | startTimerExpiry f d =>
    injection ht with ht; subst ht
    exact .inl (faceEvent_closed C h _ _ fun p hf hp => startExpiry_closed E _ hf hp _)
  | warningTimerExpiry f =>
    injection ht with ht; subst ht
    exact .inl (faceEvent_closed C h _ _ fun p hf hp => warningExpiry_closed E _ hf hp)
  | beamChange f a b c =>
    injection ht with ht; subst ht
    exact .inl (faceEvent_closed C h _ _ fun p hf hp => beamHandover_closed E _ hf hp _ _ _)
  | quietTimerExpiry f d =>
    injection ht with ht; subst ht
    exact .inl (faceEvent_closed C h _ _ fun p hf hp => quietExpiry_closed E _ hf hp _)
  | holdTimerExpiry f d =>
    injection ht with ht; subst ht
    exact .inl (faceEvent_closed C h _ _ fun p hf hp => holdExpiry_closed E _ hf hp _)
  | gapEndBeamChange f a b =>
    injection ht with ht; subst ht
    exact .inl (faceEvent_closed C h _ _ fun p hf hp => endBeamSample_closed E _ hf hp _ _)
  | gapTimerExpiry f =>
    injection ht with ht; subst ht
    exact .inl (faceEvent_closed C h _ _ fun p hf hp => gapExpiry_closed E _ hf hp)
  | localRequestChange f a =>
    injection ht with ht; subst ht
    exact .inl (faceEvent_closed C h _ _ fun p hf hp => localSample_closed E _ hf hp _)
  | pOpenEdge f a =>
    injection ht with ht; subst ht
    exact .inl (faceEvent_closed C h _ _ fun p hf hp => openButtonSample_closed E _ hf hp _)
  | pCloseEdge f a =>
    injection ht with ht; subst ht
    exact .inl (faceEvent_closed C h _ _ fun p hf hp => closeButtonSample_closed E _ hf hp _)
  | pAllChange f a =>
    injection ht with ht; subst ht
    exact .inl (faceEvent_closed C h _ _ fun p hf hp => allButtonSample_closed E _ hf hp _)
  | proofBypassChange f a =>
    injection ht with ht; subst ht
    exact .inl (faceEvent_closed C h _ _ fun p hf hp => proofBypassSample_closed E _ hf hp _)
  | gapBypassChange f a =>
    injection ht with ht; subst ht
    exact .inl (faceEvent_closed C h _ _ fun p hf hp => gapBypassSample_closed E _ hf hp _)

end

section
variable (C : StepClosed F I) {s : State} (h : I s.part)
include C h

/-- Every command keeps a closed predicate of the part. -/
theorem exec_closed (c : Instr) (t : State) (ht : exec c s = .next t) : I t.part := by
  rcases exec_closed_or C.toSentClosed h c t ht with k | ⟨straps, k⟩
  · exact k
  · rw [k]; exact C.reset straps s.part h

/-- Every step keeps a closed predicate of the part. -/
theorem step_closed (t : State) (ht : step s = .next t) : I t.part := by
  unfold step at ht
  split at ht
  · injection ht with ht; subst ht; exact h
  · rename_i c rest _
    exact exec_closed C (s := { s with pending := rest }) h c t ht

end

end Sys2Proof.Machine
end

