-- ==== Sys2Proof/Laws/PerInstr.lean ====
section
/-! SUPPORT. The per-command laws: a well-formed command carries no more bytes than the frame it comes in can hold. -/

namespace Sys2Proof.Laws

/-- The bytes a command carries from outside: a host frame's payload (section 10.1) or a door unit's reply frame
(section 4.10). -/
def carriedBytes : Instr → List Byte
  | .powerOn _ => []
  | .resetPin _ => []
  | .requestReset _ => []
  | .firstSampleAfterReset _ => []
  | .hostByteReceived _ _ => []
  | .byteGapTimerExpiry => []
  | .badKind _ _ pl => pl
  | .hostFrameSent => []
  | .enquirePart _ pl => pl
  | .enquireFace _ pl => pl
  | .enquireDoor _ pl => pl
  | .enquireBerth _ pl => pl
  | .enquireAlign _ pl => pl
  | .enquireCounts _ pl => pl
  | .loadGeometry _ pl => pl
  | .loadProfile _ pl => pl
  | .loadFaceParams _ pl => pl
  | .loadClasses _ pl => pl
  | .loadPartParams _ pl => pl
  | .announceTrain _ pl => pl
  | .withdrawTrain _ pl => pl
  | .openFace _ pl => pl
  | .closeFace _ pl => pl
  | .doorRestore _ pl => pl
  | .doorIsolate _ pl => pl
  | .doorReadmit _ pl => pl
  | .maintMove _ pl => pl
  | .setFaceMode _ pl => pl
  | .enumerateFace _ pl => pl
  | .clearBerth _ pl => pl
  | .fireCommand _ pl => pl
  | .resetPart _ pl => pl
  | .chainResetTimerExpiry _ => []
  | .chainSettleTimerExpiry _ => []
  | .doorLinkFrameSent _ => []
  | .statusReplyReceived _ reply => reply
  | .replyTimerExpiry _ => []
  | .standbyRoundTimerExpiry _ => []
  | .flashTimerExpiry _ => []
  | .axleHeadChange _ _ _ _ => []
  | .stopDetectorChange _ _ _ => []
  | .configurationFirstSample _ _ => []
  | .settleTimerExpiry _ => []
  | .automaticOpeningNotice _ => []
  | .unlockTimerExpiry _ _ => []
  | .motionTimerExpiry _ _ => []
  | .lockProofTimerExpiry _ _ => []
  | .obstructionPauseTimerExpiry _ _ => []
  | .startTimerExpiry _ _ => []
  | .warningTimerExpiry _ => []
  | .beamChange _ _ _ _ => []
  | .quietTimerExpiry _ _ => []
  | .holdTimerExpiry _ _ => []
  | .gapEndBeamChange _ _ _ => []
  | .gapTimerExpiry _ => []
  | .supplyLevelChange _ => []
  | .fireInRisingEdge => []
  | .fireResetRisingEdge => []
  | .fireInputFall _ => []
  | .localRequestChange _ _ => []
  | .pOpenEdge _ _ => []
  | .pCloseEdge _ _ => []
  | .pAllChange _ _ => []
  | .proofBypassChange _ _ => []
  | .gapBypassChange _ _ => []

/-- The most bytes a command of a kind may carry: 240 of payload, and 259 of reply (LEN, at most 255, and four bytes
beside those it counts). -/
def carryLimit : Instr → Nat
  | .statusReplyReceived _ _ => 259
  | .powerOn _ => 240
  | .resetPin _ => 240
  | .requestReset _ => 240
  | .firstSampleAfterReset _ => 240
  | .hostByteReceived _ _ => 240
  | .byteGapTimerExpiry => 240
  | .badKind _ _ _ => 240
  | .hostFrameSent => 240
  | .enquirePart _ _ => 240
  | .enquireFace _ _ => 240
  | .enquireDoor _ _ => 240
  | .enquireBerth _ _ => 240
  | .enquireAlign _ _ => 240
  | .enquireCounts _ _ => 240
  | .loadGeometry _ _ => 240
  | .loadProfile _ _ => 240
  | .loadFaceParams _ _ => 240
  | .loadClasses _ _ => 240
  | .loadPartParams _ _ => 240
  | .announceTrain _ _ => 240
  | .withdrawTrain _ _ => 240
  | .openFace _ _ => 240
  | .closeFace _ _ => 240
  | .doorRestore _ _ => 240
  | .doorIsolate _ _ => 240
  | .doorReadmit _ _ => 240
  | .maintMove _ _ => 240
  | .setFaceMode _ _ => 240
  | .enumerateFace _ _ => 240
  | .clearBerth _ _ => 240
  | .fireCommand _ _ => 240
  | .resetPart _ _ => 240
  | .chainResetTimerExpiry _ => 240
  | .chainSettleTimerExpiry _ => 240
  | .doorLinkFrameSent _ => 240
  | .replyTimerExpiry _ => 240
  | .standbyRoundTimerExpiry _ => 240
  | .flashTimerExpiry _ => 240
  | .axleHeadChange _ _ _ _ => 240
  | .stopDetectorChange _ _ _ => 240
  | .configurationFirstSample _ _ => 240
  | .settleTimerExpiry _ => 240
  | .automaticOpeningNotice _ => 240
  | .unlockTimerExpiry _ _ => 240
  | .motionTimerExpiry _ _ => 240
  | .lockProofTimerExpiry _ _ => 240
  | .obstructionPauseTimerExpiry _ _ => 240
  | .startTimerExpiry _ _ => 240
  | .warningTimerExpiry _ => 240
  | .beamChange _ _ _ _ => 240
  | .quietTimerExpiry _ _ => 240
  | .holdTimerExpiry _ _ => 240
  | .gapEndBeamChange _ _ _ => 240
  | .gapTimerExpiry _ => 240
  | .supplyLevelChange _ => 240
  | .fireInRisingEdge => 240
  | .fireResetRisingEdge => 240
  | .fireInputFall _ => 240
  | .localRequestChange _ _ => 240
  | .pOpenEdge _ _ => 240
  | .pCloseEdge _ _ => 240
  | .pAllChange _ _ => 240
  | .proofBypassChange _ _ => 240
  | .gapBypassChange _ _ => 240

/-- A well-formed command carries no more bytes than its frame can hold. -/
def WireRange.Statement (i : Instr) : Prop := i.wellFormed = true → (carriedBytes i).length ≤ carryLimit i

/-- A command that carries no bytes. -/
theorem WireRange.of_nil {i : Instr} (h : carriedBytes i = []) : WireRange.Statement i := by
  intro _; rw [h]; exact Nat.zero_le _

/-- A payload that passes the length check has at most 240 bytes. -/
theorem payloadOk_length {pl : List Byte} (h : payloadOk pl = true) : pl.length ≤ 240 := of_decide_eq_true h

/-- A reply frame that passes its check has at most 259 bytes. -/
theorem replyFrameOk_length {reply : List Byte} (h : replyFrameOk reply = true) : reply.length ≤ 259 := by
  unfold replyFrameOk at h
  split at h
  · next start len rest =>
    have := of_decide_eq_true ((Bool.and_eq_true _ _).mp h).2
    have := len.isLt
    omega
  · exact absurd h (by decide)

theorem WireRange.powerOn (straps : Straps) : WireRange.Statement (.powerOn straps) :=
  WireRange.of_nil rfl

theorem WireRange.resetPin (straps : Straps) : WireRange.Statement (.resetPin straps) :=
  WireRange.of_nil rfl

theorem WireRange.requestReset (straps : Straps) : WireRange.Statement (.requestReset straps) :=
  WireRange.of_nil rfl

theorem WireRange.firstSampleAfterReset (sample : ResetSample) : WireRange.Statement (.firstSampleAfterReset sample) :=
  WireRange.of_nil rfl

theorem WireRange.hostByteReceived (b : Byte) (stopOk : Bool) : WireRange.Statement (.hostByteReceived b stopOk) :=
  WireRange.of_nil rfl

theorem WireRange.byteGapTimerExpiry : WireRange.Statement (.byteGapTimerExpiry) :=
  WireRange.of_nil rfl

theorem WireRange.badKind (kind tag : Byte) (payload : List Byte) : WireRange.Statement (.badKind kind tag payload) :=
  fun h => payloadOk_length ((Bool.and_eq_true _ _).mp h).2

theorem WireRange.hostFrameSent : WireRange.Statement (.hostFrameSent) :=
  WireRange.of_nil rfl

theorem WireRange.enquirePart (tag : Byte) (payload : List Byte) : WireRange.Statement (.enquirePart tag payload) :=
  fun h => payloadOk_length h

theorem WireRange.enquireFace (tag : Byte) (payload : List Byte) : WireRange.Statement (.enquireFace tag payload) :=
  fun h => payloadOk_length h

theorem WireRange.enquireDoor (tag : Byte) (payload : List Byte) : WireRange.Statement (.enquireDoor tag payload) :=
  fun h => payloadOk_length h

theorem WireRange.enquireBerth (tag : Byte) (payload : List Byte) : WireRange.Statement (.enquireBerth tag payload) :=
  fun h => payloadOk_length h

theorem WireRange.enquireAlign (tag : Byte) (payload : List Byte) : WireRange.Statement (.enquireAlign tag payload) :=
  fun h => payloadOk_length h

theorem WireRange.enquireCounts (tag : Byte) (payload : List Byte) : WireRange.Statement (.enquireCounts tag payload) :=
  fun h => payloadOk_length h

theorem WireRange.loadGeometry (tag : Byte) (payload : List Byte) : WireRange.Statement (.loadGeometry tag payload) :=
  fun h => payloadOk_length h

theorem WireRange.loadProfile (tag : Byte) (payload : List Byte) : WireRange.Statement (.loadProfile tag payload) :=
  fun h => payloadOk_length h

theorem WireRange.loadFaceParams (tag : Byte) (payload : List Byte) : WireRange.Statement (.loadFaceParams tag payload) :=
  fun h => payloadOk_length h

theorem WireRange.loadClasses (tag : Byte) (payload : List Byte) : WireRange.Statement (.loadClasses tag payload) :=
  fun h => payloadOk_length h

theorem WireRange.loadPartParams (tag : Byte) (payload : List Byte) : WireRange.Statement (.loadPartParams tag payload) :=
  fun h => payloadOk_length h

theorem WireRange.announceTrain (tag : Byte) (payload : List Byte) : WireRange.Statement (.announceTrain tag payload) :=
  fun h => payloadOk_length h

theorem WireRange.withdrawTrain (tag : Byte) (payload : List Byte) : WireRange.Statement (.withdrawTrain tag payload) :=
  fun h => payloadOk_length h

theorem WireRange.openFace (tag : Byte) (payload : List Byte) : WireRange.Statement (.openFace tag payload) :=
  fun h => payloadOk_length h

theorem WireRange.closeFace (tag : Byte) (payload : List Byte) : WireRange.Statement (.closeFace tag payload) :=
  fun h => payloadOk_length h

theorem WireRange.doorRestore (tag : Byte) (payload : List Byte) : WireRange.Statement (.doorRestore tag payload) :=
  fun h => payloadOk_length h

theorem WireRange.doorIsolate (tag : Byte) (payload : List Byte) : WireRange.Statement (.doorIsolate tag payload) :=
  fun h => payloadOk_length h

theorem WireRange.doorReadmit (tag : Byte) (payload : List Byte) : WireRange.Statement (.doorReadmit tag payload) :=
  fun h => payloadOk_length h

theorem WireRange.maintMove (tag : Byte) (payload : List Byte) : WireRange.Statement (.maintMove tag payload) :=
  fun h => payloadOk_length h

theorem WireRange.setFaceMode (tag : Byte) (payload : List Byte) : WireRange.Statement (.setFaceMode tag payload) :=
  fun h => payloadOk_length h

theorem WireRange.enumerateFace (tag : Byte) (payload : List Byte) : WireRange.Statement (.enumerateFace tag payload) :=
  fun h => payloadOk_length h

theorem WireRange.clearBerth (tag : Byte) (payload : List Byte) : WireRange.Statement (.clearBerth tag payload) :=
  fun h => payloadOk_length h

theorem WireRange.fireCommand (tag : Byte) (payload : List Byte) : WireRange.Statement (.fireCommand tag payload) :=
  fun h => payloadOk_length h

theorem WireRange.resetPart (tag : Byte) (payload : List Byte) : WireRange.Statement (.resetPart tag payload) :=
  fun h => payloadOk_length h

theorem WireRange.chainResetTimerExpiry (f : Face) : WireRange.Statement (.chainResetTimerExpiry f) :=
  WireRange.of_nil rfl

theorem WireRange.chainSettleTimerExpiry (f : Face) : WireRange.Statement (.chainSettleTimerExpiry f) :=
  WireRange.of_nil rfl

theorem WireRange.doorLinkFrameSent (f : Face) : WireRange.Statement (.doorLinkFrameSent f) :=
  WireRange.of_nil rfl

theorem WireRange.statusReplyReceived (f : Face) (reply : List Byte) : WireRange.Statement (.statusReplyReceived f reply) :=
  fun h => replyFrameOk_length h

theorem WireRange.replyTimerExpiry (f : Face) : WireRange.Statement (.replyTimerExpiry f) :=
  WireRange.of_nil rfl

theorem WireRange.standbyRoundTimerExpiry (f : Face) : WireRange.Statement (.standbyRoundTimerExpiry f) :=
  WireRange.of_nil rfl

theorem WireRange.flashTimerExpiry (f : Face) : WireRange.Statement (.flashTimerExpiry f) :=
  WireRange.of_nil rfl

theorem WireRange.axleHeadChange (f : Face) (sensor : AxleSensor) (s1 s2 : Bool) : WireRange.Statement (.axleHeadChange f sensor s1 s2) :=
  WireRange.of_nil rfl

theorem WireRange.stopDetectorChange (f : Face) (detector : Fin 16) (occupied : Bool) : WireRange.Statement (.stopDetectorChange f detector occupied) :=
  WireRange.of_nil rfl

theorem WireRange.configurationFirstSample (f : Face) (sample : TrackSample) : WireRange.Statement (.configurationFirstSample f sample) :=
  WireRange.of_nil rfl

theorem WireRange.settleTimerExpiry (f : Face) : WireRange.Statement (.settleTimerExpiry f) :=
  WireRange.of_nil rfl

theorem WireRange.automaticOpeningNotice (f : Face) : WireRange.Statement (.automaticOpeningNotice f) :=
  WireRange.of_nil rfl

theorem WireRange.unlockTimerExpiry (f : Face) (d : DoorIx) : WireRange.Statement (.unlockTimerExpiry f d) :=
  WireRange.of_nil rfl

theorem WireRange.motionTimerExpiry (f : Face) (d : DoorIx) : WireRange.Statement (.motionTimerExpiry f d) :=
  WireRange.of_nil rfl

theorem WireRange.lockProofTimerExpiry (f : Face) (d : DoorIx) : WireRange.Statement (.lockProofTimerExpiry f d) :=
  WireRange.of_nil rfl

theorem WireRange.obstructionPauseTimerExpiry (f : Face) (d : DoorIx) : WireRange.Statement (.obstructionPauseTimerExpiry f d) :=
  WireRange.of_nil rfl

theorem WireRange.startTimerExpiry (f : Face) (d : DoorIx) : WireRange.Statement (.startTimerExpiry f d) :=
  WireRange.of_nil rfl

theorem WireRange.warningTimerExpiry (f : Face) : WireRange.Statement (.warningTimerExpiry f) :=
  WireRange.of_nil rfl

theorem WireRange.beamChange (f : Face) (d : DoorIx) (inner outer : Bool) : WireRange.Statement (.beamChange f d inner outer) :=
  WireRange.of_nil rfl

theorem WireRange.quietTimerExpiry (f : Face) (d : DoorIx) : WireRange.Statement (.quietTimerExpiry f d) :=
  WireRange.of_nil rfl

theorem WireRange.holdTimerExpiry (f : Face) (d : DoorIx) : WireRange.Statement (.holdTimerExpiry f d) :=
  WireRange.of_nil rfl

theorem WireRange.gapEndBeamChange (f : Face) (beam : EndBeam) (blocked : Bool) : WireRange.Statement (.gapEndBeamChange f beam blocked) :=
  WireRange.of_nil rfl

theorem WireRange.gapTimerExpiry (f : Face) : WireRange.Statement (.gapTimerExpiry f) :=
  WireRange.of_nil rfl

theorem WireRange.supplyLevelChange (code : Byte) : WireRange.Statement (.supplyLevelChange code) :=
  WireRange.of_nil rfl

theorem WireRange.fireInRisingEdge : WireRange.Statement (.fireInRisingEdge) :=
  WireRange.of_nil rfl

theorem WireRange.fireResetRisingEdge : WireRange.Statement (.fireResetRisingEdge) :=
  WireRange.of_nil rfl

theorem WireRange.fireInputFall (input : FireInput) : WireRange.Statement (.fireInputFall input) :=
  WireRange.of_nil rfl

theorem WireRange.localRequestChange (f : Face) (active : Bool) : WireRange.Statement (.localRequestChange f active) :=
  WireRange.of_nil rfl

theorem WireRange.pOpenEdge (f : Face) (active : Bool) : WireRange.Statement (.pOpenEdge f active) :=
  WireRange.of_nil rfl

theorem WireRange.pCloseEdge (f : Face) (active : Bool) : WireRange.Statement (.pCloseEdge f active) :=
  WireRange.of_nil rfl

theorem WireRange.pAllChange (f : Face) (active : Bool) : WireRange.Statement (.pAllChange f active) :=
  WireRange.of_nil rfl

theorem WireRange.proofBypassChange (f : Face) (active : Bool) : WireRange.Statement (.proofBypassChange f active) :=
  WireRange.of_nil rfl

theorem WireRange.gapBypassChange (f : Face) (active : Bool) : WireRange.Statement (.gapBypassChange f active) :=
  WireRange.of_nil rfl

end Sys2Proof.Laws
end

