-- ==== Sys2Proof/Laws/Pipeline.lean ====
section
/-! SUPPORT. The end of an event on a settled state: what follows an event by rule does nothing where nothing is
due, so that an event leaves exactly what it did itself. -/

namespace Sys2Proof.Machine

/-! ### The rules of a face -/

/-- The four conditions of a settled face that are not the line's. -/
structure FaceRec.Even (r : FaceRec) : Prop where
  op : ∀ op, r.op = some op → op.complete = true → op.kind = .close ∧ op.phase ≠ some .closing
  failed : r.gap.state = .failed → r.gapClear = false
  timer : r.gap.timer.isSome = true ↔ r.gap.state = .running ∧ r.gapClear = true ∧ r.waitingDoors = []
  handover : r.mode.mode = .auto → r.mode.handover = true → r.atRest = false

theorem FaceRec.Settled.even {r : FaceRec} (h : r.Settled) : r.Even := ⟨h.op, h.failed, h.timer, h.handover⟩

/-- A change that gives a face its own record back is none. -/
theorem Part.modFace_id (p : Part) (f : Face) (g : FaceRec → FaceRec) (h : g (p.face f) = p.face f) :
    p.modFace f g = p := by
  cases f <;>
  · simp only [Part.face] at h
    simp only [Part.modFace, h]

/-- Only what the change makes of the face's own record matters. -/
theorem Part.modFace_congr (p : Part) (f : Face) (g g' : FaceRec → FaceRec) (h : g (p.face f) = g' (p.face f)) :
    p.modFace f g = p.modFace f g' := by
  cases f <;>
  · simp only [Part.face] at h
    simp only [Part.modFace, h]

/-- Two changes of one face are one. -/
theorem Part.modFace_modFace (p : Part) (f : Face) (g h : FaceRec → FaceRec) :
    (p.modFace f g).modFace f h = p.modFace f fun r => h (g r) := by cases f <;> rfl

theorem seqCheck_even {f : Face} {p : Part} (h : (p.face f).Even) : seqCheck f p = p := by
  unfold seqCheck
  split
  · rfl
  · rename_i op e
    split
    · rename_i c
      obtain ⟨k, q⟩ := h.op op e c
      split
      · rename_i k'; rw [k] at k'; cases k'
      · rename_i k' q'; exact absurd q' q
      · rfl
    · rfl

theorem gapTimerUpdate_even {r : FaceRec} (h : r.Even) : gapTimerUpdate r = r := by
  have t := h.timer
  unfold gapTimerUpdate FaceRec.modGap; dsimp only
  by_cases c : r.gap.state = .running ∧ r.gapClear = true ∧ r.waitingDoors.isEmpty = true
  · rw [if_pos c]
    have i : r.gap.timer.isSome = true := t.mpr ⟨c.1, c.2.1, List.isEmpty_iff.mp c.2.2⟩
    obtain ⟨v, hv⟩ := Option.isSome_iff_exists.mp i
    rw [hv]
    have : (⟨r.gap.counting, r.gap.state, some v, r.gap.headBeam, r.gap.tailBeam⟩ : GapRec) = r.gap := by
      cases hg : r.gap; simp [hg] at hv; simp [hv]
    simp only [this]
  · rw [if_neg c]
    have i : r.gap.timer = none := by
      cases hv : r.gap.timer with
      | none => rfl
      | some v =>
        have := t.mp (by rw [hv]; rfl)
        exact absurd ⟨this.1, this.2.1, List.isEmpty_iff.mpr this.2.2⟩ c
    have : (⟨r.gap.counting, r.gap.state, none, r.gap.headBeam, r.gap.tailBeam⟩ : GapRec) = r.gap := by
      cases hg : r.gap; simp [hg] at i; simp [i]
    simp only [this]

theorem gapUpdate_even {f : Face} {p : Part} (h : (p.face f).Even) : gapUpdate f p = p := by
  unfold gapUpdate; simp only
  have n : ¬ ((p.face f).gap.state = .failed ∧ (p.face f).gapClear = true) := by
    rintro ⟨a, b⟩; rw [h.failed a] at b; cases b
  rw [if_neg n]
  exact Part.modFace_id _ _ _ (gapTimerUpdate_even h)

theorem handoverCheck_even {f : Face} {p : Part} (h : (p.face f).Even) : handoverCheck f p = p := by
  unfold handoverCheck; simp only
  rw [if_neg]
  rintro ⟨a, b, c⟩; rw [h.handover a b] at c; cases c

/-- The rules of a face do nothing more where nothing is due. -/
theorem settleFace_even {f : Face} {p : Part} (h : (p.face f).Even) : settleFace f p = p := by
  show handoverCheck f (gapUpdate f (seqCheck f p)) = p
  rw [seqCheck_even h, gapUpdate_even h, handoverCheck_even h]

/-- At the end of an event after which nothing else is due the free lines alone go on. -/
theorem settle_even {p : Part} (h : ∀ f, (p.face f).Even) :
    settle p = (p.modFace .A linkPump).modFace .B linkPump := by
  unfold settle; simp only
  rw [settleFace_even (h .A), settleFace_even (h .B)]

/-! ### The line -/

theorem linkPump_busy {r : FaceRec} (h : r.link.line ≠ .idle) : linkPump r = r := by
  unfold linkPump; rw [if_neg h]

theorem linkPump_settled {r : FaceRec} (h : r.Settled) : linkPump r = r := by
  unfold linkPump
  split
  · rename_i e
    obtain ⟨a, b, c⟩ := h.line e
    split
    · rename_i k
      obtain ⟨c1, c2, c3, c4, c5, c6⟩ := c k
      unfold opportunity; simp [c1, c2, c3, c4, c5, c6]
    · rename_i k; exact absurd k a
    · rename_i k; exact absurd k b
    all_goals rfl
  · rfl

/-- The end of an event does nothing on a settled part. -/
theorem settle_settled {p : Part} (h : ∀ f, (p.face f).Settled) : settle p = p := by
  rw [settle_even fun f => (h f).even]
  rw [Part.modFace_id p .A _ (linkPump_settled (h .A)), Part.modFace_id p .B _ (linkPump_settled (h .B))]

/-- The end of an event that changed one face of a settled part, with nothing due but a frame of its link. -/
theorem settle_one {p : Part} {f : Face} (h : ∀ f, (p.face f).Settled) (g : FaceRec → FaceRec)
    (e : (g (p.face f)).Even) : settle (p.modFace f g) = p.modFace f fun r => linkPump (g r) := by
  have ev : ∀ f', ((p.modFace f g).face f').Even := by
    intro f'
    rw [Part.modFace_face]; split
    · rename_i q; subst q; exact e
    · exact (h f').even
  rw [settle_even ev]
  cases f
  · have b : linkPump p.faceB = p.faceB := linkPump_settled (h .B)
    simp only [Part.modFace, b]
  · have a : linkPump p.faceA = p.faceA := linkPump_settled (h .A)
    simp only [Part.modFace, a]

/-! ### The host link -/

theorem dispatch_settled {s : State} (h : s.host.reply = none → s.host.inbound = [] ∨ s.host.resetting = true) :
    dispatch s = s := by
  unfold dispatch; split
  · rfl
  · rename_i n
    split
    · rename_i fr rest a b
      rcases h a with i | i
      · rw [i] at b; cases b
      · exact absurd i n
    all_goals rfl

/-- The transmitter has nothing to begin. -/
theorem transmit_settled {s : State} (h : s.host.tx = .idle → s.host.reply = none ∧ s.part.reports = []) :
    transmit s = s := by
  unfold transmit; split
  · rename_i r _ a b; rw [(h a).1] at b; cases b
  · rename_i x rest a b c; rw [(h a).2] at c; cases c
  all_goals rfl

/-- The host link does nothing where neither dispatch nor the transmitter has anything to do. -/
theorem hostPump_settled {s : State} (h : s.host.reply = none → s.host.inbound = [] ∨ s.host.resetting = true)
    (k : s.host.tx = .idle → s.host.reply = none ∧ s.part.reports = []) : hostPump s = s := by
  show dispatch (transmit (dispatch s)) = s
  rw [dispatch_settled h, transmit_settled k, dispatch_settled h]

/-- A settled state whose part has changed, but not its report queue, is left as it is by the host link. -/
theorem hostPump_part {s : State} (h : s.Settled) (p : Part) (k : p.reports = s.part.reports) :
    hostPump { s with part := p } = { s with part := p } :=
  hostPump_settled (s := { s with part := p }) h.dispatched fun e => ⟨(h.sent e).1, k.trans (h.sent e).2⟩

/-- An event that queues no report, on a settled state. -/
theorem event_settled {s : State} (h : s.Settled) (g : Part → Part) (q : Part) (e : settle (g s.part) = q)
    (k : q.reports = s.part.reports) : event g s = { s with part := q } := by
  unfold event; rw [e]; exact hostPump_part h q k

/-- An event of a present face that changes that face alone and leaves nothing due but a frame of its link. -/
theorem faceEvent_settled {s : State} (h : s.Settled) {f : Face} (hp : s.part.present f = true) (g : Part → Part)
    (u : FaceRec → FaceRec) (e : g s.part = s.part.modFace f u) (k : (u (s.part.face f)).Even) :
    faceEvent f g s = { s with part := s.part.modFace f fun r => linkPump (u r) } := by
  unfold faceEvent
  refine event_settled h _ _ ?_ (by simp)
  simp only [hp, if_true, e]
  exact settle_one h.faces u k

/-- A frame that dispatch takes at once: the request is served, and its reply made ready or begun. -/
theorem frameArrives_free {s : State} (h : s.HostFree) (fr : Frame) :
    frameArrives fr s = hostPump { s with host := { s.host with inbound := [fr] } } := by
  unfold frameArrives offerFrame
  rw [h.inbound]; rfl

end Sys2Proof.Machine
end

