-- ==== Sys2Proof/Laws/Reports.lean ====
section
/-! SUPPORT. Reports that tell of an event: what queueing a report keeps of the queue and of LOSS (R170), and what the
transmitter keeps of both (R171). -/

namespace Sys2Proof.Machine

/-- A report that is queued stands in the queue, or LOSS is set (R170). -/
theorem queueReport_mem (r : Report) (p : Part) : (queueReport r p).loss = true ∨ r ∈ (queueReport r p).reports := by
  unfold queueReport; simp only
  split
  · exact .inr (by simp)
  · split
    · exact .inl rfl
    · exact .inl rfl

/-- LOSS stands until a report is sent (R170). -/
theorem queueReport_loss (r : Report) (p : Part) (h : p.loss = true) : (queueReport r p).loss = true := by
  unfold queueReport; simp only
  split
  · exact h
  · split <;> rfl

/-- A report that waits goes on waiting, unless the new one is the DOOR report that takes its place or LOSS is set
(R170). -/
theorem queueReport_keeps (r x : Report) (p : Part) (h : x ∈ p.reports) (hx : r.sameDoor x = false) :
    (queueReport r p).loss = true ∨ x ∈ (queueReport r p).reports := by
  unfold queueReport; simp only
  split
  · exact .inr (by simp [h, hx])
  · split
    · exact .inl rfl
    · exact .inl rfl

/-- A report that waits is told of after an opportunity of the transmitter too (R171). -/
theorem transmit_tells (x : Report) (s : State) (h : x ∈ s.part.reports) : (transmit s).tells x := by
  unfold transmit State.tells
  split
  · exact .inl h
  · rename_i y rest _ _ e
    rw [e] at h
    rcases List.mem_cons.mp h with rfl | h
    · exact .inr ⟨_, rfl⟩
    · exact .inl h
  · exact .inl h
  · exact .inl h
  · exact .inl h

/-- LOSS goes with the report that is sent (R169, R171). -/
theorem transmit_lossy (s : State) (h : s.part.loss = true) : (transmit s).lossy := by
  unfold transmit State.lossy
  split
  · exact .inl h
  · exact .inr ⟨_, by simp only [h]; rfl⟩
  · exact .inl h
  · exact .inl h
  · exact .inl h

end Sys2Proof.Machine
end

