-- ==== Sys2Proof/Tests/Slice0.lean ====
section
/-! SUPPORT. Tests: what WellFormed refuses, the worked examples of the manual's chapters, and one witness for the
hypotheses of each statement. -/

set_option maxRecDepth 20000
set_option Elab.async false

namespace Sys2Proof.Tests

open Sys2Proof Sys2Proof.Machine

/-! ### Small states -/

/-- The geometry of face A in the worked examples (section 1.3). -/
def geo : Geometry := ⟨1500, 100, 11, 2000, [⟨5100, 2100, 0⟩, ⟨11900, 2100, 0⟩, ⟨18700, 2100, 1⟩]⟩

/-- Profile 2 of the worked examples (section 1.5). -/
def profile2 : Profile :=
  ⟨40000, 600, 8, [⟨3000, 1400⟩, ⟨9900, 1400⟩, ⟨16400, 1400⟩, ⟨22200, 1400⟩, ⟨28700, 1400⟩, ⟨35200, 1400⟩]⟩

/-- A detector pattern with `k` clear detectors of `m`. -/
def pattern (k m : Nat) : List Filter := (List.range m).map fun i => ⟨decide (k ≤ i), 0, true⟩

/-- Face A configured, in a mode and with its link RUNNING and sending a frame; every beam and panel input reads its
primed inactive level. -/
def faceIn (m : FaceMode) : FaceRec :=
  { FaceRec.reset with
    geom := some geo
    berth := { Berth.reset with detectors := pattern 11 11, entry := ⟨.prime false, .prime false, .idle⟩ }
    link := { Link.reset with state := .running, g := 5, line := .sending (.poll 5 0 false) }
    health := Vector.replicate 24 { Health.reset with health := .ok }
    doors := Vector.replicate 24 { Door.reset with state := .closedLocked, verdict := .vMatch }
    sense := Vector.replicate 24 { Sense.reset with inner := .prime false, outer := .prime false }
    gap := { GapRec.reset with headBeam := .prime false, tailBeam := .prime false }
    mode := { ModeRec.reset with
      mode := m
      panel := ⟨.prime false, .prime false, .prime false, .prime false, .prime false, .prime false⟩ } }

/-- The face with its berth in a state and the alignment record in a status. -/
def atBerth (b : BerthState) (a : AlignStatus) (r : FaceRec) : FaceRec :=
  { r with berth := { r.berth with state := b }, align := { r.align with status := a } }

/-- The face with an announcement of one unit of profile 2, in an orientation. -/
def announced (o : Orientation) (auto : Bool) (r : FaceRec) : FaceRec :=
  r.modBerth fun b => { b with ann := some ⟨[⟨2, o⟩], auto, 8⟩ }

/-- The face with a filter one sample from accepting a level (the defaults ask for 3 in a row). -/
def nearly (level : Bool) : Filter := ⟨!level, 2, true⟩

/-- The face with a door in a state. -/
def doorIn (d : DoorIx) (s : DoorState) (r : FaceRec) : FaceRec := r.modDoor d fun x => { x with state := s }

/-- The part with a face A, both faces present, profile 2 stored, the fire inputs primed and the transmitter idle. -/
def stateOf (a : FaceRec) : State :=
  { part := { Part.reset strapsAtReset with
                faceA := a
                fire := ⟨none, .prime false, .prime false⟩
                profiles := (Part.reset strapsAtReset).profiles.set 2 (some profile2) }
    host := HostLink.reset
    pending := [] }

/-- The state a command gives. -/
def after (i : Instr) (s : State) : State :=
  match exec i s with
  | .next t => t
  | .fault _ | .refused _ => s

/-- Face A after a command. -/
def faceAfter (i : Instr) (s : State) : FaceRec := (after i s).part.faceA

/-- The reply a command made, where the transmitter has begun it: result and details. -/
def replyOf (s : State) : Option (Result × Byte × Byte) :=
  match s.host.tx with
  | .reply r _ _ => some (r.result, r.detailA, r.detailB)
  | .idle | .report _ _ => none

/-! ### What WellFormed refuses -/

theorem test_wellFormed_known_kind : (Instr.badKind 0x43 1 []).wellFormed = false := by decide
theorem test_wellFormed_unknown_kind : (Instr.badKind 0x77 1 []).wellFormed = true := by decide
theorem test_wellFormed_long_payload :
    (Instr.loadProfile 1 (List.replicate 241 0)).wellFormed = false := by decide
theorem test_wellFormed_longest_payload :
    (Instr.loadProfile 1 (List.replicate 240 0)).wellFormed = true := by decide
theorem test_wellFormed_reply_start : (Instr.statusReplyReceived .A [0x5A, 0, 0, 0]).wellFormed = false := by decide
theorem test_wellFormed_reply_length : (Instr.statusReplyReceived .A [0xA5, 1, 0, 0]).wellFormed = false := by decide
theorem test_wellFormed_reply : (Instr.statusReplyReceived .A [0xA5, 0, 0, 0]).wellFormed = true := by decide

/-- The table gives its rows no bits. -/
theorem test_decode_no_bits : decodeTableWord 16 0x4301 = none := by decide

/-! ### The frames of the two links -/

/-- The CRC of R163 (0x8005 from 0xFFFF) over the nine ASCII digits: the published check value of that CRC. -/
theorem test_host_crc : hostCrc [0x31, 0x32, 0x33, 0x34, 0x35, 0x36, 0x37, 0x38, 0x39] = [0xAE, 0xE7] := by
  decide +kernel

/-- The CRC of section 4.10 (0x1021 from 0xFFFF) over the nine ASCII digits: the published check value. -/
theorem test_link_crc : linkCrc [0x31, 0x32, 0x33, 0x34, 0x35, 0x36, 0x37, 0x38, 0x39] = [0x29, 0xB1] := by
  decide +kernel

/-- POLL of position 31 with the sweep mark (section 4.10). -/
theorem test_poll_layout : (LinkFrame.poll 5 31 true).bytes.take 6 = [0xA5, 4, 0x20, 5, 31, 1] := by decide +kernel

/-- MOVE UNLOCK_OPEN to doors 0 and 9: set, action, then code byte and id of each target (section 4.10). -/
theorem test_move_layout :
    (LinkFrame.move 5 .unlockOpen [(⟨0, 4, 0⟩, 7), (⟨9, 7, 0⟩, 15)]).bytes.take 12 =
      [0xA5, 10, 0x30, 5, 0x00, 0x02, 0x01, 0x01, 0x40, 7, 0x70, 15] := by decide +kernel

/-- The stop error is carried in two's complement (R173): −450. -/
theorem test_error_field : errorField (some (-450)) = [0xFE, 0x3E] := by decide

/-! ### Chapter 1: configuring face A from reset -/

def unconfigured : State := stateOf FaceRec.reset

def loadGeo (lastWidth : Nat) : Instr :=
  .loadGeometry 1 ([0, 3] ++ u24 1500 ++ u16 100 ++ [11] ++ u24 2000 ++ u24 5100 ++ u16 2100 ++ [0] ++
    u24 11900 ++ u16 2100 ++ [0] ++ u24 18700 ++ u16 lastWidth ++ [1])

/-- The payload of LOAD_FACE_PARAMS with the defaults but T_warn (R173 widths). -/
def faceParams (tWarn : Nat) : List Byte :=
  [0, 3, 3] ++ u16 1000 ++ u16 300 ++ u16 700 ++ u16 800 ++ u16 400 ++ u16 800 ++ u16 1000 ++ u16 1000 ++ [3] ++
    u16 tWarn ++ [2] ++ u16 1000 ++ u16 5000 ++ u16 1500 ++ [0]

theorem test_load_params_clamped :
    replyOf (after (.loadFaceParams 1 (faceParams 6000)) unconfigured) = some (.clamped, 1, 12) ∧
      (faceAfter (.loadFaceParams 1 (faceParams 6000)) unconfigured).params =
        { FaceParams.default with tWarn := 5000 } := by decide +kernel

theorem test_load_geometry_odd_width :
    replyOf (after (loadGeo 2101) unconfigured) = some (.badValue, 2, 0) ∧
      (faceAfter (loadGeo 2101) unconfigured).geom = none := by decide +kernel

theorem test_load_geometry_done :
    replyOf (after (loadGeo 2100) unconfigured) = some (.done, 0, 0) ∧
      (faceAfter (loadGeo 2100) unconfigured).geom = some geo := by decide +kernel

/-- The mirrored offsets of profile 2 (section 1.5). -/
theorem test_mirrored_offsets :
    profile2.doors.map (placedOffset .bLeads profile2.len) = [35600, 28700, 22200, 16400, 9900, 3400] := by decide

/-! ### Chapter 2: sequences of the entry sensor (section 2.6) -/

theorem test_axle_inward : (AxleDecoder.move .none ⟨.s2, some .s1, false, true⟩).2.1 = some .inward := by decide
theorem test_axle_rocking : (AxleDecoder.move .none ⟨.s1, some .s1, false, true⟩).2.1 = none := by decide
theorem test_axle_jump :
    ((AxleDecoder.move .s2 ⟨.s1, some .s1, false, false⟩).1.spoiled = true ∧
      (AxleDecoder.move .s2 ⟨.s1, some .s1, false, false⟩).2.2 = true) := by decide
theorem test_axle_spoiled : (AxleDecoder.move .none ⟨.s2, some .s1, true, false⟩).2.1 = none := by decide

/-- Axle 1 of section 2.7: the ANNOUNCED berth is ARRIVING with A = 1. -/
theorem test_first_axle :
    let r := announced .aLeads false (atBerth .announced .notComputed (faceIn .auto))
    let r := r.modBerth fun b => { b with entry := ⟨.prime false, nearly false, ⟨.s2, some .s1, false, true⟩⟩ }
    (faceAfter (.axleHeadChange .A .entry false false) (stateOf r)).berth.state = .arriving ∧
      (faceAfter (.axleHeadChange .A .entry false false) (stateOf r)).berth.axles = 1 := by decide +kernel

/-! ### Chapter 3: alignment (sections 3.7 to 3.9) -/

/-- The stopped train of section 3.7, with k clear detectors. -/
def stopped (k : Nat) (o : Orientation) : FaceRec :=
  announced o false ((atBerth .arriving .notComputed (faceIn .auto)).modBerth fun b =>
    { b with axles := 8, detectors := pattern k 11, settle := some 1000, dwell := 41 })

def computed (r : FaceRec) : AlignRec := alignRecord (stateOf r).part .A .stopped

theorem test_align_a_leads :
    (computed (stopped 7 .aLeads)).status = .aligned ∧
      (computed (stopped 7 .aLeads)).nose = some ⟨2150, 50, 150, .aligned⟩ ∧
      (computed (stopped 7 .aLeads)).doors =
        [⟨.vMatch, 950, some ⟨0, 0⟩⟩, ⟨.vMatch, 850, some ⟨0, 1⟩⟩, ⟨.vMatch, 1150, some ⟨0, 2⟩⟩] ∧
      (computed (stopped 7 .aLeads)).unserved = [⟨0, 3⟩, ⟨0, 4⟩, ⟨0, 5⟩] := by decide +kernel

theorem test_align_b_leads :
    (computed (stopped 7 .bLeads)).doors =
        [⟨.vPartial, 550, some ⟨0, 5⟩⟩, ⟨.vMatch, 850, some ⟨0, 4⟩⟩, ⟨.vMatch, 1150, some ⟨0, 3⟩⟩] ∧
      (computed (stopped 7 .bLeads)).unserved = [⟨0, 0⟩, ⟨0, 1⟩, ⟨0, 2⟩, ⟨0, 5⟩] := by decide +kernel

/-- The stop errors and classes of section 3.8 at k = 1, 2, 3 and 10, with both pairs of windows. -/
theorem test_windows :
    [1, 2, 3, 10].map (fun k => (noseOf geo FaceParams.default k).e) = [-450, -350, -250, 450] ∧
      [1, 2, 3, 10].map (fun k => (noseOf geo FaceParams.default k).window) =
        [.marginal, .marginal, .aligned, .marginal] ∧
      [1, 2, 3, 10].map (fun k => (noseOf geo { FaceParams.default with wAuto := 200, wExt := 400 } k).window) =
        [.outOfWindow, .marginal, .marginal, .outOfWindow] := by decide +kernel

/-- The other statuses of section 3.8. -/
theorem test_statuses :
    (computed (stopped 0 .aLeads)).status = .overrun ∧ (computed (stopped 11 .aLeads)).status = .undershoot ∧
      (computed ((stopped 7 .aLeads).modBerth fun b => { b with overrun := true })).status = .overrun ∧
      (computed ((stopped 7 .aLeads).modBerth fun b => { b with axles := 7 })).status = .consistMismatch ∧
      (computed ((stopped 7 .aLeads).modBerth fun b => { b with ann := none })).status = .notAnnounced ∧
      (computed ((stopped 6 .aLeads).modBerth fun b =>
        { b with detectors := b.detectors.set 7 (.prime false) })).status = .positionUncertain := by decide +kernel

/-- Door B07 and the coupled train of section 3.9: ov 1,400 by (1, 5), or 1,200 by (1, 0) with unit 1 A_LEADS, and
B06 over the coupling. -/
theorem test_coupled :
    let ts (o : Orientation) := placeTrain (stateOf (faceIn .auto)).part [⟨2, .aLeads⟩, ⟨2, o⟩] 3040
    doorEntry 800 40 (ts .bLeads) ⟨48300, 1800, 0⟩ = ⟨.vMatch, 1400, some ⟨1, 5⟩⟩ ∧
      doorEntry 800 40 (ts .aLeads) ⟨48300, 1800, 0⟩ = ⟨.vMatch, 1200, some ⟨1, 0⟩⟩ ∧
      doorEntry 800 40 (ts .bLeads) ⟨42600, 2000, 0⟩ = ⟨.vNone, 0, none⟩ := by decide +kernel

/-- The settle expiry of section 2.7: STOPPED, dwell 42. -/
theorem test_settle :
    (faceAfter (.settleTimerExpiry .A) (stateOf (stopped 7 .aLeads))).berth.state = .stopped ∧
      (faceAfter (.settleTimerExpiry .A) (stateOf (stopped 7 .aLeads))).berth.dwell = 42 := by decide +kernel

/-! ### Chapters 4 to 6 -/

/-- The ids of section 4.9: 6, 2 and 15 become 7, 3 and 1. -/
theorem test_group_ids :
    let r := ((((faceIn .auto).modHealth 0 fun h => { h with lastId := 6 }).modHealth 1 fun h =>
      { h with lastId := 2 }).modHealth 2 fun h => { h with lastId := 15 }).modLink fun l =>
        { l with line := .awaiting 2 false false, moveQ := [⟨.unlockOpen, [⟨0, 4, 0⟩, ⟨1, 4, 0⟩, ⟨2, 4, 0⟩]⟩],
                 replyTimer := some 400 }
    (faceAfter (.replyTimerExpiry .A) (stateOf r)).link.line =
      .sending (.move 5 .unlockOpen [(⟨0, 4, 0⟩, 7), (⟨1, 4, 0⟩, 3), (⟨2, 4, 0⟩, 1)]) := by decide +kernel

/-- The STATUS reply of a door unit with its fields (section 4.10). -/
def statusOf (pos leaf : Nat) (motion flagBits keyByte idFault : Byte) : List Byte :=
  linkEnvelope 0x80 5 (u8 pos ++ [0x2D] ++ u16 leaf ++ [motion, flagBits, keyByte, idFault])

/-- The face polls door A01. -/
def polling (r : FaceRec) : FaceRec := r.modLink fun l => { l with line := .awaiting 1 false false, replyTimer := some 400 }

/-- The stall of section 5.13: position 420, STALLED, while A01 is CLOSING. -/
theorem test_stall :
    let r := polling ((atBerth .serving .aligned (faceIn .auto)).modDoor 1 fun x =>
      { x with state := .closing, order := some ⟨.toClose, .ordinary, false⟩, motionT := some 6000 })
    let x := (faceAfter (.statusReplyReceived .A (statusOf 1 420 3 0 0 0)) (stateOf r)).doors[(1 : DoorIx)]
    x.state = .reopening ∧ x.reopenCause = some .obstruction ∧ x.attempts = 1 := by decide +kernel

/-- The unit that returns open (section 5.14): closed but unlocked. -/
theorem test_returns_open :
    let r := polling ((((faceIn .auto).modDoor 1 fun x => { x with state := .lost, report := none }).modHealth 1 fun h =>
      { h with health := .lost, reason := some .noAnswer }))
    let x := (faceAfter (.statusReplyReceived .A (statusOf 1 0 0 2 0 0)) (stateOf r)).doors[(1 : DoorIx)]
    x.state = .discrepant ∧ x.cause = some .returnedOpen := by decide +kernel

/-- OPEN_FACE under LOW with K = 4 (section 6.8): two doors are granted and the third waits. -/
theorem test_open_face :
    let s := stateOf (announced .aLeads false (atBerth .stopped .aligned (faceIn .auto)))
    let s := { s with part := { s.part with params := { s.part.params with k := 4 }, supply := ⟨.low, 0, 0, 80⟩ } }
    let t := after (.openFace 21 [0, 0, 0, 0, 0]) s
    t.part.arb.queue = [⟨⟨.A, 2⟩, .toOpen, .ordinary⟩] ∧ t.part.arb.starting = [⟨.A, 0⟩, ⟨.A, 1⟩] ∧
      t.part.faceA.doors[(2 : DoorIx)].state = .openQueued ∧ t.part.faceA.berth.state = .serving ∧
      replyOf t = some (.accepted, 0, 0) := by decide +kernel

/-- Samples 4 and 8 of section 6.9: code 89 clears a fall count of 2; code 82 completes the fall. -/
theorem test_supply :
    let s (fall : Nat) : State := { stateOf (faceIn .auto) with
      part := { (stateOf (faceIn .auto)).part with supply := ⟨.normal, fall, 0, 86⟩ } }
    (after (.supplyLevelChange 89) (s 2)).part.supply = ⟨.normal, 0, 0, 89⟩ ∧
      (after (.supplyLevelChange 82) (s 3)).part.supply = ⟨.low, 0, 0, 82⟩ := by decide +kernel

/-! ### Chapters 7 to 10 -/

/-- Replies 6 and 7 of section 7.5. -/
theorem test_beams :
    let p := FaceParams.default
    ((Sense.hand p false false ⟨⟨true, 1, true⟩, ⟨true, 0, true⟩, ⟨.both, some .inner, false⟩, none, none, false⟩).sense.dec =
        ⟨.outer, some .inner, false⟩) ∧
      (Sense.hand p false false ⟨⟨false, 0, true⟩, ⟨true, 1, true⟩, ⟨.outer, some .inner, false⟩, none, none, false⟩).result =
        some .board := by decide +kernel

/-- A fire edge during a close (section 8.5): the CLOSING door is reversed, the HELD one is OPEN, and the PARTIAL one
starts to open. -/
theorem test_fire_edge :
    let r := atBerth .serving .aligned (faceIn .auto)
    let r := ((r.modDoor 0 fun x => { x with verdict := .vPartial }).modDoor 1 fun x =>
      { x with state := .closing, order := some ⟨.toClose, .ordinary, false⟩ }).modDoor 2 fun x => { x with state := .held }
    let r := { r with op := some ⟨.close, .host, 40, some .closing, 0, [⟨1, .pending, true⟩, ⟨2, .pending, true⟩]⟩ }
    let s := { stateOf r with part := { (stateOf r).part with fire := ⟨none, nearly true, .prime false⟩ } }
    let t := after .fireInRisingEdge s
    t.part.faceA.mode.mode = .fire ∧ t.part.faceA.doors[(0 : DoorIx)].state = .unlocking ∧
      t.part.faceA.doors[(1 : DoorIx)].state = .reopening ∧ t.part.faceA.doors[(2 : DoorIx)].state = .opened := by
  decide +kernel

/-- No CLOSE_LOCK waits at a face in FIRE (R142): the fire edge drops the frame queued for a door that now proves. -/
theorem test_fire_drops_close :
    let r := (doorIn 1 .proving (atBerth .serving .aligned (faceIn .auto))).modLink fun l =>
      { l with moveQ := [⟨.closeLock, [⟨1, 4, 4⟩]⟩] }
    let r := r.modDoor 1 fun x => { x with verdict := .vNone }
    let s := { stateOf r with part := { (stateOf r).part with fire := ⟨none, nearly true, .prime false⟩ } }
    (after .fireInRisingEdge s).part.faceA.link.moveQ.all fun m => decide (m.action ≠ .closeLock) := by
  decide +kernel

/-- The gap timer's expiry with a handover PENDING (section 9.7): PASSED, SECURED, CLEARED, LOCAL, and the reports in
the table's order, the first already begun. -/
theorem test_handover_at_gap_expiry :
    let shut : DoorReport := ⟨0x2D, 0, .idle, true, true, false, .auto, 1, .none, .none⟩
    let r := atBerth .serving .aligned (faceIn .auto)
    let r := { r with
      doors := Vector.replicate 24 { r.doors[(0 : DoorIx)] with report := some shut }
      op := some ⟨.close, .host, 50, some .gapWait, 0, [⟨1, .closed, true⟩]⟩
      gap := { r.gap with state := .running, timer := some 1500 }
      mode := { r.mode with handover := true, panel := { r.mode.panel with localReq := .prime true } } }
    let t := after (.gapTimerExpiry .A) (stateOf r)
    t.part.faceA.mode.mode = .localCtl ∧ t.part.faceA.gap.state = .passed ∧ t.part.faceA.secured = true ∧
      t.part.faceA.berth.state = .cleared ∧ t.host.tx.bytes[2]? = some 0x49 ∧
      t.part.reports.map Report.kind = [0x4C, 0x46, 0x41, 0x4B] := by decide +kernel

/-- Request 6 of section 10.5 finds four frames and sets OVERRUN. -/
theorem test_overrun :
    let s := stateOf (faceIn .auto)
    let s := { s with host := { s.host with tx := .report (.supply ⟨.normal, .low, 0, 0, 0, 0, 0⟩) false
                                            reply := some ⟨0x81, 1, .done, 0, 0, []⟩
                                            inbound := List.replicate 4 ⟨0x01, 2, []⟩ } }
    (after (.enquirePart 6 []) s).host.overrun = true ∧ (after (.enquirePart 6 []) s).host.inbound.length = 4 := by
  decide +kernel

/-- The second row of section 10.6: at a full queue a SAFETY report takes the place of the oldest STATE report. -/
theorem test_full_queue :
    let supply : Report := .supply ⟨.normal, .low, 0, 0, 0, 0, 0⟩
    let door (d : DoorIx) : Report := .door .A d ⟨.opened, none, .none, false, false, false, .report, none, 0, 0, .vMatch, 0⟩
    let p := { Part.reset strapsAtReset with reports := supply :: door 3 :: door 11 :: List.replicate 61 supply }
    (queueReport supply p).reports = supply :: door 11 :: List.replicate 62 supply ∧ (queueReport supply p).loss = true ∧
      (queueReport (door 4) { p with reports := List.replicate 64 supply }).reports = List.replicate 64 supply := by
  decide +kernel

/-! ### Witnesses: words

Each theorem below shows, clause by clause, a concrete state and operands that meet the hypotheses of the statement it
is named after. -/

/-- The face has nothing left to do, as a test. -/
def faceSettled (r : FaceRec) : Bool :=
  (match r.op with
    | none => true
    | some op => !op.complete || (decide (op.kind = .close) && decide (op.phase ≠ some .closing))) &&
  (decide (r.gap.state ≠ .failed) || !r.gapClear) &&
  decide (r.gap.timer.isSome = true ↔ r.gap.state = .running ∧ r.gapClear = true ∧ r.waitingDoors = []) &&
  (decide (r.mode.mode ≠ .auto) || !r.mode.handover || !r.atRest) &&
  (decide (r.link.line ≠ .idle) || (decide (r.link.state ≠ .enumerating) && decide (r.link.state ≠ .sweeping) &&
    (decide (r.link.state ≠ .running) || (!r.link.pollDue && decide (r.link.stopFrame = []) &&
      decide (r.link.moveQ = []) && decide (r.link.resendQ = []) && decide (r.nextCue = none) &&
      decide (r.link.sync = none)))))

theorem faceSettled_sound {r : FaceRec} (h : faceSettled r = true) : r.Settled := by
  simp only [faceSettled, Bool.and_eq_true, Bool.or_eq_true, decide_eq_true_eq, Bool.not_eq_true'] at h
  obtain ⟨⟨⟨⟨h1, h2⟩, h3⟩, h4⟩, h5⟩ := h
  refine ⟨?_, ?_, h3, ?_, ?_⟩
  · intro op hop hc
    simp only [hop, Bool.or_eq_true, Bool.and_eq_true, Bool.not_eq_true', decide_eq_true_eq, hc] at h1
    rcases h1 with h1 | h1
    · simp at h1
    · exact h1
  · intro hf
    rcases h2 with h2 | h2
    · exact absurd hf h2
    · exact h2
  · intro hm hh
    rcases h4 with (h4 | h4) | h4
    · exact absurd hm h4
    · simp [hh] at h4
    · exact h4
  · intro hl
    rcases h5 with h5 | ⟨⟨ha, hb⟩, hc⟩
    · exact absurd hl h5
    · refine ⟨ha, hb, fun hr => ?_⟩
      rcases hc with hc | ⟨⟨⟨⟨⟨h6, h7⟩, h8⟩, h9⟩, h10⟩, h11⟩
      · exact absurd hr hc
      · exact ⟨h6, h7, h8, h9, h10, h11⟩

/-- The state has nothing left to do, as a test. -/
def settled (s : State) : Bool :=
  faceSettled s.part.faceA && faceSettled s.part.faceB &&
  (decide (s.host.reply ≠ none) || decide (s.host.inbound = [] ∨ s.host.resetting = true)) &&
  (decide (s.host.tx ≠ .idle) || (decide (s.host.reply = none) && decide (s.part.reports = [])))

theorem settled_sound {s : State} (h : settled s = true) : s.Settled ∧ ∀ f, (s.part.face f).Settled := by
  simp only [settled, Bool.and_eq_true, Bool.or_eq_true, decide_eq_true_eq] at h
  obtain ⟨⟨⟨ha, hb⟩, hd⟩, ht⟩ := h
  have hf : ∀ f, (s.part.face f).Settled := by
    intro f
    cases f
    · exact faceSettled_sound ha
    · exact faceSettled_sound hb
  refine ⟨⟨hf, ?_, ?_⟩, hf⟩
  · intro hr
    rcases hd with hd | hd
    · exact absurd hr hd
    · exact hd
  · intro hi
    rcases ht with ht | ht
    · exact absurd hi ht
    · exact ht

/-- The state is settled and its host link free, as a test: the common hypotheses of the requests. -/
def free (s : State) : Bool :=
  settled s && decide (s.host.inbound = []) && decide (s.host.reply = none) && !s.host.resetting

theorem free_sound {s : State} (h : free s = true) :
    s.HostFree ∧ s.Settled ∧ ∀ f, (s.part.face f).Settled := by
  simp only [free, Bool.and_eq_true, decide_eq_true_eq, Bool.not_eq_true'] at h
  obtain ⟨⟨⟨hs, hi⟩, hr⟩, hx⟩ := h
  exact ⟨⟨hi, hr, hx⟩, settled_sound hs⟩

/-- A filter accepts a level, as a test. -/
def accepts (x : Filter) (count : Nat) (level : Bool) : Bool :=
  x.primed && decide (x.level ≠ level) && decide (count ≤ x.run + 1)

theorem accepts_iff (x : Filter) (count : Nat) (level : Bool) : accepts x count level = true ↔ x.Accepts count level := by
  simp only [accepts, Bool.and_eq_true, decide_eq_true_eq]
  exact ⟨fun ⟨⟨a, b⟩, c⟩ => ⟨a, b, c⟩, fun ⟨a, b, c⟩ => ⟨⟨a, b⟩, c⟩⟩

/-- No start of the face is queued, as a test. -/
theorem stateOf_queueFree (a : FaceRec) (f : Face) : (stateOf a).part.queueFree f := by
  intro e he
  exact absurd he List.not_mem_nil

/-- No door of the face is in the start machinery. -/
theorem stateOf_outOfMachinery (a : FaceRec) (f : Face) (d : DoorIx) : (stateOf a).part.outOfMachinery f d :=
  ⟨fun _ he => absurd he List.not_mem_nil, List.not_mem_nil⟩

/-- The face while it enumerates. -/
def enumIn (m : FaceMode) : FaceRec :=
  (faceIn m).modLink fun l => { l with state := .chainReset, chainResetTimer := some 10, line := .idle }

/-- The latest report of a door that rests shut. -/
def shut : DoorReport := ⟨0x2D, 0, .idle, true, true, false, .auto, 1, .none, .none⟩

/-- A face with one operation in flight, one target PENDING. -/
def withOp (k : OpKind) (ph : Option OpPhase) (r : FaceRec) : FaceRec :=
  { r with op := some ⟨k, .host, 9, ph, 0, [⟨0, .pending, true⟩]⟩ }

def pendingHandover (r : FaceRec) : FaceRec :=
  (doorIn 0 .opening r).modMode fun m => { m with handover := true }

/-! ### Witnesses: the machine and the host link -/

/-- A state with a command waiting. -/
def waiting (i : Instr) (a : FaceRec) : State := { stateOf a with pending := [i] }

/-- The state while the DONE reply of RESET_PART is sent. -/
def resetting : State :=
  { stateOf (faceIn .auto) with
    host := { HostLink.reset with resetting := true, tx := .reply ⟨0xC4, 7, .done, 0, 0, []⟩ false false } }

theorem witness_StepRunsHead :
    (waiting .hostFrameSent (faceIn .auto)).pending = [.hostFrameSent] ∧ (stateOf (faceIn .auto)).pending = [] := by
  decide

theorem witness_ResetsRestart :
    free (stateOf (faceIn .auto)) = true ∧
      (resetting.host.resetting = true ∧ resetting.host.tx = .reply ⟨0xC4, 7, .done, 0, 0, []⟩ false false) ∧
      (stateOf (faceIn .auto)).host.resetting = false := by decide +kernel

/-- A RESET_PART has been taken while the reply to an earlier request, or its own refusal, is being sent. -/
theorem witness_ResetsRestart_earlier :
    ((⟨0xB1, 7, .done, 0, 0, []⟩ : Reply).kind ≠ 0xC4 ∧ (⟨0xC4, 7, .badLength, 0, 0, []⟩ : Reply).result ≠ .done) ∧
      exec (.requestReset strapsAtReset) { resetting with host :=
        { resetting.host with tx := .reply ⟨0xB1, 7, .done, 0, 0, []⟩ false false } } =
        .next { resetting with host := { resetting.host with tx := .reply ⟨0xB1, 7, .done, 0, 0, []⟩ false false } } :=
  ⟨by decide, rfl⟩

theorem witness_StepKeepsBounds :
    (waiting (.fireCommand 1 []) (faceIn .auto)).Bounded ∧
      ∃ t, step (waiting (.fireCommand 1 []) (faceIn .auto)) = .next t := by
  refine ⟨⟨⟨?_, ?_⟩, ?_, ⟨?_, ?_, ?_, ?_, ?_, ?_, ?_⟩, ?_⟩, ⟨_, rfl⟩⟩
  · exact Nat.zero_le _
  · exact List.nodup_nil
  · exact Nat.zero_le _
  all_goals decide +kernel

theorem witness_StepLeavesSettled :
    settled (waiting (.fireCommand 1 []) (faceIn .auto)) = true ∧
      ∃ t, step (waiting (.fireCommand 1 []) (faceIn .auto)) = .next t :=
  ⟨by decide +kernel, ⟨_, rfl⟩⟩

/-- A part with face B absent. -/
def oneFace (i : Instr) : State :=
  { waiting i (faceIn .auto) with part := { (stateOf (faceIn .auto)).part with straps := ⟨false, 0, false⟩ } }

theorem witness_AbsentFaceStays :
    (oneFace (.fireCommand 1 [])).part.absentIdle ∧ (oneFace (.fireCommand 1 [])).part.straps.twoFaces = false ∧
      ∃ t, step (oneFace (.fireCommand 1 [])) = .next t :=
  ⟨fun _ => ⟨rfl, fun _ h => absurd h List.not_mem_nil, fun _ h => absurd h List.not_mem_nil⟩, rfl, ⟨_, rfl⟩⟩

theorem witness_FireHoldsNoCloseQueued :
    (∀ f, ((waiting .fireResetRisingEdge (faceIn .fire)).part.face f).fireHolds) ∧
      (waiting .fireResetRisingEdge (faceIn .fire)).part.faceA.mode.mode = .fire ∧
      ∃ t, step (waiting .fireResetRisingEdge (faceIn .fire)) = .next t := by
  refine ⟨?_, rfl, ⟨_, rfl⟩⟩
  intro f
  cases f
  · intro _ d _
    revert d
    decide +kernel
  · intro h
    exact absurd h (by decide)

/-- A face whose doors all report shut, with its secured state ASSERTED. -/
def securedFace : FaceRec :=
  { faceIn .auto with
    doors := Vector.replicate 24 { Door.reset with state := .closedLocked, report := some shut }, secured := true }

theorem witness_SecuredOnlyOnProof :
    (waiting (.gapEndBeamChange .A .head true) securedFace).SecuredSafe ∧
      (waiting (.gapEndBeamChange .A .head true) securedFace).part.faceA.secured = true ∧
      ∃ t, step (waiting (.gapEndBeamChange .A .head true) securedFace) = .next t := by
  have hs : ∀ d : DoorIx, (securedFace.doors[d]).state = .closedLocked ∧ (securedFace.doors[d]).report = some shut := by
    decide +kernel
  refine ⟨⟨?_, ?_⟩, rfl, ⟨_, rfl⟩⟩
  · intro f
    cases f
    · intro _
      refine Or.inr ⟨by decide, fun d _ => ⟨?_, shut, ?_, rfl, rfl, rfl⟩, Or.inl rfl⟩
      · intro h
        exact absurd ((hs d).1.symm.trans h) (by decide)
      · exact (hs d).2
    · intro h
      exact absurd h (by decide)
  · intro h
    exact absurd h (by decide)

theorem witness_OutputsFollowRecords :
    (∀ f, ((waiting (.localRequestChange .A false) ((faceIn .localCtl).modMode fun m => { m with localAck := true })).part.face
      f).outputsFollow) ∧
      ∃ t, step (waiting (.localRequestChange .A false) ((faceIn .localCtl).modMode fun m => { m with localAck := true })) =
        .next t := by
  refine ⟨?_, ⟨_, rfl⟩⟩
  intro f
  cases f
  · exact ⟨by decide +kernel, by decide +kernel⟩
  · exact ⟨by decide +kernel, by decide +kernel⟩

/-- A part whose door A00 waits to close and whose door A01 closes, held by a start limit of one. -/
def startsWait (i : Instr) : State :=
  let r := (doorIn 1 .closing (doorIn 0 .closeQueued (faceIn .auto))).modDoor 0 fun x =>
    { x with order := some ⟨.toClose, .ordinary, false⟩ }
  { waiting i r with part := { (stateOf r).part with arb := ⟨[⟨⟨.A, 0⟩, .toClose, .ordinary⟩], [⟨.A, 1⟩]⟩ } }

theorem witness_StepKeepsMachinery :
    (startsWait (.startTimerExpiry .A 1)).part.MachineryOk ∧ ∃ t, step (startsWait (.startTimerExpiry .A 1)) = .next t := by
  refine ⟨⟨by decide +kernel, by decide +kernel, by decide +kernel, ?_, by decide +kernel, ?_⟩, ⟨_, rfl⟩⟩
  · intro e he
    obtain rfl : e = ⟨⟨.A, 0⟩, .toClose, .ordinary⟩ := by simpa [startsWait] using he
    exact ⟨by decide +kernel, by decide +kernel, _, rfl, rfl, rfl⟩
  · have h : ∀ f ∈ [Face.A, Face.B], ∀ d : DoorIx,
        (((startsWait (.startTimerExpiry .A 1)).part.face f).doors[d]).pauseT = none := by decide +kernel
    intro f d hd
    exact absurd (h f (by cases f <;> simp) d) hd

theorem default_params_inRange : FaceParams.default.InRange := by constructor <;> decide

/-- The face with a door at its limits and its axle count at the last value. -/
def atLimits : FaceRec :=
  ((faceIn .auto).modDoor 0 fun x => { x with attempts := 3, gapReopens := 2 }).modBerth fun b => { b with axles := 255 }

theorem witness_StepKeepsDoorCounts :
    (∀ f, ((waiting (.clearBerth 1 [0]) atLimits).part.face f).CountsOk) ∧
      (waiting (.clearBerth 1 [0]) atLimits).part.AxlesOk ∧ ∃ t, step (waiting (.clearBerth 1 [0]) atLimits) = .next t := by
  refine ⟨fun f => ?_, ⟨?_, fun f => ?_⟩, ⟨_, rfl⟩⟩
  · refine ⟨by cases f <;> exact default_params_inRange, ?_, ?_⟩ <;> (cases f <;> decide +kernel)
  · have h : ∀ i : Fin 8, ((waiting (.clearBerth 1 [0]) atLimits).part.profiles[i].all fun x => decide (x.axles ≤ 64)) =
        true := by decide +kernel
    intro i pr e
    have g := h i
    rw [show (waiting (.clearBerth 1 [0]) atLimits).part.profiles[i] = some pr from e] at g
    simpa using g
  · cases f <;> decide +kernel

/-- An EMPTY berth with one detector a sample from occupied. -/
theorem witness_StepKeepsEmptyBerth :
    let r := (faceIn .auto).modBerth fun x => { x with detectors := x.detectors.set 10 (nearly true) }
    (∀ f, ((waiting (.stopDetectorChange .A 10 true) r).part.face f).EmptyOk) ∧ r.berth.state = .empty ∧
      ∃ t, step (waiting (.stopDetectorChange .A 10 true) r) = .next t := by
  refine ⟨?_, rfl, ⟨_, rfl⟩⟩
  intro f
  cases f
  · intro _
    exact ⟨by decide +kernel, by decide +kernel⟩
  · intro _
    exact ⟨by decide +kernel, by decide +kernel⟩

/-- A command that is no reset, no report lost: fire entry with room in the queue. -/
theorem witness_ChangesTold :
    (stateOf (faceIn .auto)).host.sendingReset = false ∧
      (∀ straps, Instr.fireCommand 1 [] ≠ .powerOn straps ∧ Instr.fireCommand 1 [] ≠ .resetPin straps) ∧
      ∃ t, exec (.fireCommand 1 []) (stateOf (faceIn .auto)) = .next t ∧ ¬ t.lossy ∧
        (t.part.faceA.mode.mode ≠ (faceIn .auto).mode.mode) := by
  refine ⟨rfl, fun _ => ⟨by simp, by simp⟩, _, rfl, ?_, by decide +kernel⟩
  rintro (h | ⟨x, h⟩)
  · revert h; decide +kernel
  · have g : ∀ y l, (after (.fireCommand 1 []) (stateOf (faceIn .auto))).host.tx = .report y l → l = false := by
      intro y l e
      have : (match (after (.fireCommand 1 []) (stateOf (faceIn .auto))).host.tx with
        | .report _ l => !l
        | .idle => true
        | .reply _ _ _ => true) = true := by decide +kernel
      rw [e] at this
      simpa using this
    exact absurd (g x true h) (by decide)

/-- The host link in a receiver state. -/
def receiving (rx : Receiver) : State :=
  { stateOf (faceIn .auto) with host := { HostLink.reset with rx := rx, gapTimer := some 5 } }

theorem witness_ReceiverBytes :
    settled (receiving .waiting) = true ∧ (0xC2 : Byte) ≠ 0xC3 ∧
      settled (receiving (.assembling [])) = true ∧ (1 : Byte).toNat < 2 ∧ (243 : Byte).toNat > 242 ∧
      2 ≤ (2 : Byte).toNat ∧ (242 : Byte).toNat ≤ 242 ∧
      settled (receiving (.assembling [2, 0x43, 1])) = true ∧ ([0x43, 1] : List Byte).length + 1 < (2 : Byte).toNat + 2 ∧
      (receiving .waiting).host.gapTimer ≠ none ∧ (stateOf (faceIn .auto)).host.gapTimer = none := by decide +kernel

/-- The bytes after SOF of FIRE_COMMAND's frame with tag 9, but for the last. -/
def fireFrame : List Byte := ((hostFrame 0x43 9 []).drop 1).dropLast

theorem witness_FrameReceived :
    ((List.replicate 240 (0 : Byte)).length ≤ 240 ∧ HostLink.reset.rx = .waiting) ∧
      ([0x43, 9] : List Byte).length = (2 : Byte).toNat ∧ [0, 0] ≠ hostCrc [2, 0x43, 9] ∧
      hostFrame ReqKind.fireCommand.code 9 [] = 0xC3 :: fireFrame ++ [(hostFrame 0x43 9 []).getLast (by decide)] ∧
      (receiving (.assembling fireFrame)).host.rx = .assembling fireFrame := by decide +kernel

/-- The transmitter is sending, with or without a reply pending and a report queued. -/
def sending (reply : Option Reply) (reports : List Report) : State :=
  { stateOf (faceIn .auto) with
    part := { (stateOf (faceIn .auto)).part with reports := reports }
    host := { HostLink.reset with reply := reply, tx := .reply ⟨0x81, 1, .done, 0, 0, []⟩ false false } }

def supplyReport : Report := .supply ⟨.normal, .low, 80, 3, 3, 0, 0⟩

theorem witness_TransmitterOpportunity :
    settled (sending (some ⟨0x81, 2, .done, 0, 0, []⟩) []) = true ∧
      settled (sending none [supplyReport]) = true ∧ settled (sending none []) = true ∧
      (sending (some ⟨0x81, 2, .done, 0, 0, []⟩) []).host.sendingReset = false ∧
      (sending none [supplyReport]).host.sendingReset = false ∧
      (sending none []).host.sendingReset = false := by decide +kernel

/-- A reply is pending and frames wait. -/
def queued (n : Nat) : State :=
  { sending (some ⟨0x81, 2, .done, 0, 0, []⟩) [] with
    host := { (sending (some ⟨0x81, 2, .done, 0, 0, []⟩) []).host with inbound := List.replicate n ⟨0x01, 3, []⟩ } }

theorem witness_RequestServed :
    (free (stateOf (faceIn .auto)) = true ∧ ReqKind.fireCommand ≠ .resetPart) ∧
      (settled (queued 3) = true ∧ (queued 3).host.reply ≠ none ∧ (queued 3).host.inbound.length < 4) ∧
      (settled (queued 4) = true ∧ (queued 4).host.reply ≠ none ∧ 4 ≤ (queued 4).host.inbound.length) ∧
      kindUnknown 0x77 = true := by decide +kernel

theorem witness_DispatchChecks :
    free (stateOf (faceIn .auto)) = true ∧ kindUnknown 0x77 = true ∧ ReqKind.fireCommand.lengthOk [0] = false ∧
      (ReqKind.enquireFace.lengthOk [2] = true ∧ ReqKind.enquireFace.namesFace = true ∧ byteAt [2] 0 ≠ 0 ∧ byteAt [2] 0 ≠ 1) ∧
      (free (oneFace .hostFrameSent) = true ∧ (oneFace .hostFrameSent).part.straps.twoFaces = false ∧ byteAt [1] 0 = 1) ∧
      (ReqKind.announceTrain.lengthOk [0, 2, 1, 2, 0] = true ∧ ReqKind.announceTrain.namesFace = true ∧
        ReqKind.announceTrain.codesOk [0, 2, 1, 2, 0] = false) := by decide +kernel

theorem witness_Enquiries :
    free (stateOf (faceIn .auto)) = true ∧ 8 ≤ (8 : Byte).toNat ∧ (stateOf (faceIn .auto)).part.present .A = true ∧
      ((stateOf (faceIn .auto)).part.face .A).configured 2 = true ∧
      ((stateOf (faceIn .auto)).part.face .A).n ≤ (3 : Byte).toNat := by decide +kernel

/-- R173: a code is the place in the field's own list. The enumeration target AUTO is 0, and absent 0xFF (section 9.1); an
open order taken from CLOSED_LOCKED carries 0 and one from OPEN 1 (section 5.1). -/
theorem test_enquiry_codes :
    ({ ModeRec.reset with toAuto := true }.bytes[2]? = some 0 ∧ ModeRec.reset.bytes[2]? = some 0xFF) ∧
      orderData (some ⟨.toOpen, .ordinary, false⟩) = [0, 0, 0] ∧ orderData (some ⟨.toOpen, .maint, true⟩) = [0, 3, 1] := by
  decide +kernel

/-! ### Witnesses: the configuration store -/

theorem witness_LoadPartValues :
    (stateOf (faceIn .auto)).HostFree ∧ (stateOf (faceIn .fire)).HostFree :=
  ⟨⟨rfl, rfl, rfl⟩, ⟨rfl, rfl, rfl⟩⟩

/-- The clamping of R12 with R13 at both ends: K = 13 is 12 and CRIT_V = 200 is one below LOW_V = 88, two fields, the
first of them field 1; the defaults of the table are taken as they are. -/
theorem test_part_params :
    replyOf (after (.loadPartParams 1 [13, 88, 200, 4, 4, 1, 244, 3]) (stateOf (faceIn .auto))) = some (.clamped, 2, 1) ∧
      (after (.loadPartParams 1 [13, 88, 200, 4, 4, 1, 244, 3]) (stateOf (faceIn .auto))).part.params =
        ⟨12, 88, 87, 4, 4, 500, 3⟩ ∧
      replyOf (after (.loadPartParams 1 [6, 88, 76, 4, 4, 1, 244, 3]) (stateOf (faceIn .auto))) = some (.done, 0, 0) := by
  decide +kernel

/-- The payload of LOAD_PROFILE with one door. -/
def profileBytes (id doors : Byte) (len : Nat) : List Byte :=
  [id] ++ u24 len ++ u16 600 ++ [8, doors] ++ (if doors = 0 then [] else u24 3000 ++ u16 1400)

theorem witness_LoadPartValues_profile :
    (free (stateOf (faceIn .auto)) = true ∧ free (stateOf (announced .aLeads false (faceIn .auto))) = true) ∧
      ReqKind.loadProfile.lengthOk (profileBytes 2 0 40000) = true ∧
      ReqKind.loadProfile.lengthOk (profileBytes 2 1 40000) = true ∧
      (stateOf (announced .aLeads false (faceIn .auto))).part.profileInUse 2 = true ∧
      (stateOf (faceIn .auto)).part.profileInUse 2 = false ∧
      ((stateOf (faceIn .auto)).part.profileInUse 8 = false ∧ 8 ≤ (byteAt (profileBytes 8 0 40000) 0).toNat) ∧
      (readProfile (profileBytes 2 0 40000)).doors = [] ∧ (readProfile (profileBytes 2 1 40000)).doors ≠ [] ∧
      (readProfile (profileBytes 2 1 120001)).len = 120001 := by decide +kernel

/-- The profile of one door passes R8, and with a length over 120,000 it does not. -/
theorem witness_LoadPartValues_profileValid :
    (readProfile (profileBytes 2 1 40000)).Valid ∧ ¬ (readProfile (profileBytes 2 1 120001)).Valid := by
  have h : readProfile (profileBytes 2 1 40000) = ⟨40000, 600, 8, [⟨3000, 1400⟩]⟩ := by decide +kernel
  have g : (readProfile (profileBytes 2 1 120001)).len = 120001 := by decide +kernel
  constructor
  · rw [h]
    refine ⟨by decide, by decide, by decide, by decide, ?_⟩
    intro i t u _ hu
    simp at hu
  · intro v
    have := v.len.2
    omega

/-- The payload of LOAD_FACE_PARAMS with an Omin and a phase mode. -/
def faceParamsWith (oMin : Nat) (phase : Byte) : List Byte :=
  [0, 3, 3] ++ u16 1000 ++ u16 300 ++ u16 700 ++ u16 oMin ++ u16 400 ++ u16 800 ++ u16 1000 ++ u16 1000 ++ [3] ++
    u16 2000 ++ [2] ++ u16 1000 ++ u16 5000 ++ u16 1500 ++ [phase]

/-- The payload of LOAD_CLASSES with one open speed code in its second entry. -/
def classBytes (code : Byte) : List Byte :=
  [0, 4, 3, 3] ++ u16 6000 ++ [code, 3, 3] ++ u16 6000 ++ [4, 3, 3] ++ u16 1999 ++ [4, 3, 3] ++ u16 15001

theorem witness_LoadFaceValues :
    (free (stateOf (enumIn .maint)) = true ∧ (enumIn .maint).enumerating = true) ∧
      (free (stateOf (faceIn .fire)) = true ∧ (faceIn .fire).enumerating = false) ∧
      (free (stateOf (faceIn .maint)) = true ∧ free (stateOf (faceIn .unconfigured)) = true ∧
        (faceIn .maint).enumerating = false) ∧
      ((faceParamsWith 801 0).length = 30 ∧ (readFields faceParamWidths ((faceParamsWith 801 0).drop 1)).getD 5 0 % 2 = 1) ∧
      ((readFields faceParamWidths ((faceParamsWith 800 2).drop 1)).getD 5 0 % 2 = 0 ∧
        (readFields faceParamWidths ((faceParamsWith 800 2).drop 1)).getD 16 0 > 1) ∧
      (readFields faceParamWidths ((faceParamsWith 800 1).drop 1)).getD 16 0 ≤ 1 ∧ byteAt (faceParamsWith 800 1) 0 = faceCode .A ∧
      ((classBytes 8).length = 21 ∧ (readClasses (classBytes 8))[(1 : Fin 4)].codesOk = false ∧
        ∀ j : Fin 4, j < 1 → (readClasses (classBytes 8))[j].codesOk = true) ∧
      (∀ j : Fin 4, (readClasses (classBytes 7))[j].codesOk = true) ∧
      (changedFields (readFields faceParamWidths ((faceParamsWith 599 0).drop 1))
          (nearestParams (readFields faceParamWidths ((faceParamsWith 599 0).drop 1))).fields = [6] ∧
        changedFields (readFields faceParamWidths ((faceParamsWith 600 0).drop 1))
          (nearestParams (readFields faceParamWidths ((faceParamsWith 600 0).drop 1))).fields = []) := by decide +kernel

/-- The payload of LOAD_GEOMETRY with one door of a width. -/
def geometryBytes (w : Nat) : List Byte :=
  [0, 1] ++ u24 1500 ++ u16 100 ++ [11] ++ u24 2000 ++ u24 5100 ++ u16 w ++ [0]

theorem witness_LoadGeometry :
    ReqKind.loadGeometry.lengthOk (geometryBytes 2100) = true ∧ byteAt (geometryBytes 2100) 0 = faceCode .A ∧
      (free (stateOf (enumIn .maint)) = true ∧ (enumIn .maint).enumerating = true) ∧
      (free (stateOf (faceIn .standby)) = true ∧ (faceIn .standby).enumerating = false) ∧
      (free (stateOf (doorIn 0 .closing (faceIn .maint))) = true ∧ (doorIn 0 .closing (faceIn .maint)).atRest = false ∧
        (doorIn 0 .closing (faceIn .maint)).enumerating = false) ∧
      (free (stateOf FaceRec.reset) = true ∧ FaceRec.reset.enumerating = false ∧ FaceRec.reset.mode.mode = .unconfigured) ∧
      (free (stateOf (faceIn .maint)) = true ∧ (faceIn .maint).atRest = true ∧
        ∀ x ∈ (stateOf (faceIn .maint)).part.arb.starting, x.face ≠ .A) := by decide +kernel

/-- One door of 1,200 passes R5, and one of 1,198 does not. -/
theorem witness_LoadGeometry_valid :
    (readGeometry (geometryBytes 1200)).Valid ∧ ¬ (readGeometry (geometryBytes 1198)).Valid := by
  have h : readGeometry (geometryBytes 1200) = ⟨1500, 100, 11, 2000, [⟨5100, 1200, 0⟩]⟩ := by decide +kernel
  have g : readGeometry (geometryBytes 1198) = ⟨1500, 100, 11, 2000, [⟨5100, 1198, 0⟩]⟩ := by decide +kernel
  constructor
  · rw [h]
    refine ⟨by decide, by decide, by decide, by decide, by decide, by decide, ?_⟩
    intro i x y _ hy
    simp at hy
  · rw [g]
    intro v
    have := (v.doors ⟨5100, 1198, 0⟩ (List.mem_singleton.mpr rfl)).2.1
    simp at this

/-! ### Witnesses: the berth and the alignment -/

/-- The face in AUTO with its berth in a state, with or without an announcement. -/
def berthIn (b : BerthState) (a : Bool) : FaceRec :=
  let r := atBerth b .notComputed (faceIn .auto)
  if a then announced .aLeads false r else r

theorem witness_AnnounceTrain :
    (free (stateOf (enumIn .auto)) = true ∧ (enumIn .auto).enumerating = true) ∧
      (free (stateOf (faceIn .maint)) = true ∧ (faceIn .maint).enumerating = false) ∧
      (free (stateOf (berthIn .serving true)) = true ∧ free (stateOf (berthIn .rolling true)) = true ∧
        free (stateOf (berthIn .cleared true)) = true ∧ free (stateOf (berthIn .departing true)) = true) ∧
      (free (stateOf (berthIn .empty false)) = true ∧ free (stateOf (berthIn .announced true)) = true ∧
        free (stateOf (berthIn .arriving false)) = true ∧ free (stateOf (berthIn .stopped false)) = true ∧
        free (stateOf (berthIn .unreckoned false)) = true ∧ (berthIn .empty false).enumerating = false) ∧
      (readUnits (stateOf (berthIn .empty false)).part 0 [(2, 0), (1, 0)] matches .error 1) ∧
      (readUnits (stateOf (berthIn .empty false)).part 0 [(2, 0), (2, 1)] matches
        .ok [⟨2, .aLeads⟩, ⟨2, .bLeads⟩]) ∧
      ((berthIn .stopped false).mode.mode ≠ .standby ∧ (berthIn .stopped false).mode.mode ≠ .fire) ∧
      (1 : Byte).toNat ≤ 1 ∧ ([] : List (Byte × Byte)).length ≠ 1 ∧ (List.replicate 118 ((0 : Byte), (0 : Byte))).length ≤ 118 := by
  decide +kernel

theorem witness_BerthEmptied :
    (free (stateOf (enumIn .auto)) = true ∧ (enumIn .auto).enumerating = true) ∧
      (free (stateOf (faceIn .maint)) = true ∧ (faceIn .maint).enumerating = false) ∧
      (free (stateOf (berthIn .serving true)) = true ∧ free (stateOf (berthIn .departing true)) = true) ∧
      (free (stateOf (berthIn .empty false)) = true ∧ free (stateOf (berthIn .stopped false)) = true ∧
        (berthIn .stopped false).berth.ann = none) ∧
      (free (stateOf (berthIn .announced true)) = true ∧ (berthIn .announced true).op = none) ∧
      (free (stateOf (berthIn .arriving true)) = true ∧ (berthIn .arriving true).berth.ann ≠ none) ∧
      (free (stateOf (berthIn .unreckoned true)) = true ∧ (berthIn .unreckoned true).berth.ann ≠ none) ∧
      (free (stateOf (berthIn .stopped true)) = true ∧ (berthIn .stopped true).berth.ann ≠ none) ∧
      (free (stateOf FaceRec.reset) = true ∧ FaceRec.reset.geom = none) ∧
      (free (stateOf (stopped 10 .aLeads)) = true ∧ (stopped 10 .aLeads).berth.allClear = false) ∧
      (free (stateOf (stopped 11 .aLeads)) = true ∧ (stopped 11 .aLeads).berth.allClear = true ∧
        (stopped 11 .aLeads).geom ≠ none ∧ (stopped 11 .aLeads).berth.state ≠ .empty ∧ (stopped 11 .aLeads).op = none) := by
  decide +kernel

/-- The face with an axle sequence one sample from its end. -/
def axleEnds (s1 s2 : Filter) (b : BerthState) (a : Nat) (out : Bool) : FaceRec :=
  (berthIn b false).modBerth fun x => { x with
    axles := a
    entry := ⟨s1, s2, if out then ⟨.s1, some .s2, false, true⟩ else ⟨.s2, some .s1, false, true⟩⟩ }

theorem witness_AxleSample :
    (settled (stateOf (berthIn .empty false)) = true ∧ (berthIn .empty false).geom ≠ none ∧
        accepts (berthIn .empty false).berth.entry.s1 3 true = false ∧
        accepts (berthIn .empty false).berth.entry.s2 3 false = false) ∧
      (settled (stateOf (axleEnds (.prime false) (nearly false) .arriving 254 false)) = true ∧
        accepts (nearly false) 3 false = true ∧
        (AxleDecoder.move (axlePos false false) ⟨.s2, some .s1, false, true⟩).2.1 = some .inward) ∧
      (settled (stateOf (axleEnds (nearly false) (.prime false) .departing 2 true)) = true ∧
        (AxleDecoder.move (axlePos false false) ⟨.s1, some .s2, false, true⟩).2.1 = some .outward) ∧
      (settled (stateOf (axleEnds (nearly false) (.prime false) .empty 0 true)) = true) ∧
      (settled (stateOf (axleEnds (nearly true) (.prime false) .unreckoned 3 false)) = true ∧
        (axleEnds (nearly true) (.prime false) .unreckoned 3 false).berth.ann = none ∧ accepts (nearly true) 3 true = true) := by
  decide +kernel

/-- The three axle faults: both heads covered at one sample, an inward axle at 255 and an outward one at 0. -/
theorem witness_AxleSample_faults :
    (settled (stateOf ((berthIn .arriving false).modBerth fun x => { x with entry := ⟨nearly true, nearly true, .idle⟩ })) =
        true ∧ (AxleDecoder.move (axlePos true true) .idle).2.2 = true) ∧
      settled (stateOf (axleEnds (.prime false) (nearly false) .arriving 255 false)) = true ∧
      settled (stateOf (axleEnds (nearly false) (.prime false) .departing 0 true)) = true ∧
      settled (stateOf (axleEnds (nearly false) (.prime false) .empty 0 true)) = true := by decide +kernel

/-- An accepted head change that counts no axle in UNRECKONED, and an inward axle at a count no run reaches. -/
theorem witness_AxleSample_uncounted :
    (settled (stateOf (axleEnds (nearly true) (.prime false) .unreckoned 0 false)) = true ∧
        accepts (nearly true) 3 true = true ∧
        (AxleDecoder.move (axlePos true false) ⟨.s2, some .s1, false, true⟩).2.1 = none) ∧
      settled (stateOf (axleEnds (.prime false) (nearly false) .arriving 256 false)) = true := by decide +kernel

/-- The face with its train served, in the states in which movement is tested against the doors, a door in a state. -/
def movesAt (b : BerthState) (d : DoorState) (a : Nat) : FaceRec :=
  (doorIn 0 d (axleEnds (nearly false) (.prime false) b a true)).modBerth fun x => { x with served := true }

/-- The states of AxleSample's movement: an outward axle leaves something in the berth with A = 2 or nothing with A = 1,
the doors shut or one of them open, at the exit sensor too. -/
theorem witness_AxleSample_movement :
    (settled (stateOf (movesAt .stopped .closedLocked 2)) = true ∧ settled (stateOf (movesAt .serving .opened 2)) = true ∧
        settled (stateOf (movesAt .cleared .closedLocked 1)) = true ∧ settled (stateOf (movesAt .rolling .opened 2)) = true ∧
        settled (stateOf (movesAt .departing .closedLocked 1)) = true ∧
        settled (stateOf (axleEnds (nearly false) (.prime false) .stopped 1 true)) = true) ∧
      ((movesAt .serving .opened 2).doors[(0 : DoorIx)].state ≠ .closedLocked ∧ (movesAt .serving .opened 2).configured 0 = true ∧
        ∀ d : DoorIx, (movesAt .cleared .closedLocked 1).doors[d].state = .closedLocked) ∧
      ((movesAt .cleared .closedLocked 1).berth.allClear = true ∧ (movesAt .cleared .closedLocked 1).op = none ∧
        (movesAt .cleared .closedLocked 1).mode.mode ≠ .standby ∧
        (axleEnds (nearly false) (.prime false) .stopped 1 true).berth.served = false) ∧
      (settled (stateOf ((axleEnds (.prime false) (.prime false) .arriving 3 true).modBerth fun x =>
          { x with exit := { x.entry with s1 := nearly false } })) = true) := by decide +kernel

/-- The doors an entry to ROLLING halts: in motion, unlocked or still locked, warned, with the key out, and at rest. -/
theorem witness_movement_halted :
    settled (stateOf (movesAt .serving .opening 2)) = true ∧ settled (stateOf (movesAt .serving .preClose 2)) = true ∧
      settled (stateOf (movesAt .serving .proving 2)) = true ∧
      settled (stateOf ((movesAt .serving .closing 2).modDoor 0 fun x => { x with keyIso := true })) = true ∧
      (settled (stateOf ((movesAt .serving .unlocking 2).modDoor 0 fun x => { x with report := some shut })) = true ∧
        shut.locked = true) ∧
      settled (stateOf ((movesAt .serving .unlocking 2).modDoor 0 fun x =>
        { x with report := some { shut with locked := false } })) = true ∧
      (stateOf (movesAt .serving .opening 2)).part.arb.queue = [] := by decide +kernel

/-- The face with detector 10 one sample from occupied. -/
def detectorNears (b : BerthState) : FaceRec :=
  (berthIn b false).modBerth fun x => { x with detectors := x.detectors.set 10 (nearly true) }

theorem witness_DetectorSample :
    (settled (stateOf (detectorNears .empty)) = true ∧ settled (stateOf (detectorNears .announced)) = true ∧
        settled (stateOf (detectorNears .arriving)) = true) ∧
      (detectorNears .empty).berth.detectors[10]? = some (nearly true) ∧ accepts (nearly true) 3 true = true ∧
      accepts (nearly true) 3 false = false := by decide +kernel

/-- DetectorSample's movement: a served train shut up or with a door open, an unserved one, and one with nothing left
in its berth when its last detector clears. -/
theorem witness_DetectorSample_movement :
    (settled (stateOf (detectorNears .cleared)) = true ∧ settled (stateOf (detectorNears .stopped)) = true ∧
        settled (stateOf (doorIn 0 .opened (detectorNears .serving))) = true ∧
        settled (stateOf (doorIn 0 .opened (detectorNears .rolling))) = true ∧
        settled (stateOf (detectorNears .unreckoned)) = true) ∧
      ((doorIn 0 .opened (detectorNears .serving)).configured 0 = true ∧ (detectorNears .cleared).mode.mode ≠ .standby) ∧
      (
        let r := (berthIn .departing false).modBerth fun x => { x with detectors := x.detectors.set 10 (nearly false) }
        settled (stateOf r) = true ∧ r.berth.detectors[10]? = some (nearly false) ∧ r.berth.axles = 0 ∧ r.op = none ∧
          ∀ x ∈ r.berth.detectors.set 10 (Filter.taken false), x.reads = false) := by decide +kernel

/-- The face after a geometry load. -/
def configuringFace : FaceRec := (faceIn .maint).modBerth fun b => { b with configuring := true }

def trackAt (d : Bool) : TrackSample := ⟨false, false, false, false, Vector.replicate 16 d, false, false⟩

theorem witness_ConfigurationSample :
    (settled (stateOf (faceIn .maint)) = true ∧ (faceIn .maint).berth.configuring = false) ∧
      (settled (stateOf configuringFace) = true ∧ configuringFace.berth.configuring = true ∧ configuringFace.op = none) ∧
      (10 < configuringFace.berth.detectors.length ∧ ((trackAt true).detectors.toList[10]?).getD false = true) ∧
      ∀ i, i < configuringFace.berth.detectors.length → ((trackAt false).detectors.toList[i]?).getD false = false := by
  decide +kernel

theorem witness_SettleStops :
    (settled (stateOf (berthIn .arriving false)) = true ∧ (berthIn .arriving false).berth.settle = none) ∧
      (settled (stateOf (stopped 7 .aLeads)) = true ∧ (stopped 7 .aLeads).berth.settle ≠ none ∧
        (stopped 7 .aLeads).berth.state = .arriving ∧ (stopped 7 .aLeads).berth.ann = some ⟨[⟨2, .aLeads⟩], false, 8⟩) ∧
      (settled (stateOf ((stopped 7 .aLeads).modBerth fun b => { b with ann := none })) = true) := by decide +kernel

/-- The settle timer runs, with some detectors occupied or none, in a berth state. -/
def settling (b : BerthState) (k a : Nat) (ann : Bool) : FaceRec :=
  (berthIn b ann).modBerth fun x => { x with detectors := pattern k 11, axles := a, settle := some 1000 }

/-- The expiry in ROLLING, with the train and without it, and in UNRECKONED, gone or not, announced or not. -/
theorem witness_SettleStops_others :
    (settled (stateOf (settling .rolling 7 0 true)) = true ∧ (settling .rolling 7 0 true).berth.allClear = false ∧
        settled (stateOf (settling .rolling 11 8 true)) = true) ∧
      (settled (stateOf (settling .rolling 11 0 true)) = true ∧ (settling .rolling 11 0 true).berth.allClear = true ∧
        (settling .rolling 11 0 true).op = none ∧ (settling .rolling 11 0 true).mode.mode ≠ .standby) ∧
      (settled (stateOf (settling .unreckoned 11 0 false)) = true ∧ settled (stateOf (settling .unreckoned 11 8 true)) = true ∧
        (settling .unreckoned 11 0 false).berth.entry.dec.pos = .none ∧
        (settling .unreckoned 11 0 false).berth.exit.dec.pos = .none) ∧
      (settled (stateOf (settling .unreckoned 7 0 true)) = true ∧ settled (stateOf (settling .unreckoned 7 0 false)) = true ∧
        (settling .unreckoned 7 0 false).berth.allClear = false) := by decide +kernel

theorem witness_NosePlaced :
    (monotone [false, false, true] = true ∧ monotone [false, true, false] = false) ∧
      (stateOf (stopped 7 .aLeads)).part.faceA.geom = some geo ∧
      ((stopped 7 .aLeads).modBerth fun b => { b with overrun := true }).berth.overrun = true ∧
      monotone ((stopped 6 .aLeads).modBerth fun b =>
        { b with detectors := b.detectors.set 7 (.prime false) }).berth.pattern = false ∧
      (monotone (stopped 0 .aLeads).berth.pattern = true ∧ clearCount (stopped 0 .aLeads).berth.pattern = 0) ∧
      (monotone (stopped 11 .aLeads).berth.pattern = true ∧ clearCount (stopped 11 .aLeads).berth.pattern = 11) ∧
      (monotone (stopped 1 .aLeads).berth.pattern = true ∧ clearCount (stopped 1 .aLeads).berth.pattern = 1 ∧
        clearCount (stopped 10 .aLeads).berth.pattern = 10 ∧ (stopped 10 .aLeads).berth.pattern.length = 11) := by
  decide +kernel

theorem witness_OverlapExact :
    (⟨4050, 6150⟩ : Interval).lo ≤ (⟨4050, 6150⟩ : Interval).hi ∧ (⟨5150, 6550⟩ : Interval).lo ≤ 6550 ∧
      (-((50 : Nat) : Int) ≤ 50 ∧ (50 : Int) ≤ (50 : Nat)) ∧
      worstOverlap 50 ⟨4050, 6150⟩ ⟨5150, 6550⟩ = 950 := by decide +kernel

theorem witness_DoorVerdicts :
    0 < (800 : Nat) ∧ 0 < (doorEntry 800 50 (placeTrain (stateOf (faceIn .auto)).part [⟨2, .aLeads⟩] 2150)
        ⟨5100, 2100, 0⟩).ov ∧
      (doorEntry 800 50 (placeTrain (stateOf (faceIn .auto)).part [⟨2, .aLeads⟩] 2150) ⟨200000, 2100, 0⟩).ov = 0 := by
  decide +kernel

theorem witness_TrainDoorsPlaced :
    ((stateOf (faceIn .auto)).part.profileOf ⟨2, .bLeads⟩).doors[5]? = some ⟨35200, 1400⟩ ∧
      ∀ u ∈ ([⟨2, .aLeads⟩, ⟨2, .bLeads⟩] : List UnitEntry),
        ((stateOf (faceIn .auto)).part.profileOf u).doors.length ≤ 40 := by decide +kernel

theorem witness_DecoderResults :
    (AxlePos.s1 ≠ (AxleDecoder.idle).pos ∧ (⟨.s2, some .s1, false, true⟩ : AxleDecoder).pos ≠ .none) ∧
      ((⟨.outer, some .inner, false⟩ : CrossDecoder).pos ≠ .none ∧ CrossPos.both ≠ .none ∧
        CrossDecoder.idle.pos = .none ∧ (⟨.outer, some .inner, true⟩ : CrossDecoder).entry = some .inner) := by decide

/-! ### Witnesses: the door link -/

/-- The face in MAINT with its link in a state and its timers running. -/
def linkIn (st : LinkState) : FaceRec := (faceIn .maint).modLink fun l =>
  { l with state := st, chainResetTimer := some 10, chainSettleTimer := some 20, standbyTimer := some 1000,
           flashTimer := some 125, g := 255, flashPhase := 7 }

theorem witness_LinkEvents :
    (settled (stateOf (faceIn .maint)) = true ∧ (faceIn .maint).link.chainResetTimer = none ∧
        (faceIn .maint).link.chainSettleTimer = none ∧ (faceIn .maint).link.standbyTimer = none ∧
        (faceIn .maint).link.flashTimer = none) ∧
      (settled (stateOf (linkIn .chainReset)) = true ∧ (linkIn .chainReset).link.chainResetTimer ≠ none) ∧
      (settled (stateOf (linkIn .chainSettle)) = true ∧ (linkIn .chainSettle).link.chainSettleTimer ≠ none) ∧
      (settled (stateOf (linkIn .running)) = true ∧ (linkIn .running).link.standbyTimer ≠ none ∧
        (linkIn .running).link.flashTimer ≠ none) := by decide +kernel

theorem witness_LinkEvents_frames :
    (settled (stateOf (faceIn .auto)) = true ∧ (faceIn .auto).link.line = .sending (.poll 5 0 false)) ∧
      (settled (stateOf ((faceIn .auto).modLink fun l => { l with line := .sending (.sync 5 1 .common) })) = true) ∧
      settled (stateOf (polling (faceIn .auto))) = true ∧
      (polling (faceIn .auto)).link.line = .awaiting 1 false false := by decide +kernel

/-- A free line while RUNNING, with a non-poll run and pending frames. -/
def freeLine (run : Nat) (stop : List DoorIx) (moves : List MoveFrame) (again : List Resend) (sync : Option (Nat × PhaseMode)) :
    FaceRec := (faceIn .auto).modLink fun l =>
  { l with line := .idle, nonPoll := run, stopFrame := stop, moveQ := moves, resendQ := again, sync := sync }

theorem witness_FramePriority :
    (faceIn .auto).link.line ≠ .idle ∧
      ((freeLine 4 [2] [] [] none).link.line = .idle ∧ (freeLine 4 [2] [] [] none).link.state = .running ∧
        (freeLine 4 [2] [] [] none).link.pollDue = true ∧ 4 ≤ (freeLine 4 [2] [] [] none).link.nonPoll) ∧
      ((freeLine 3 [2] [] [] none).link.nonPoll < 4 ∧ (freeLine 3 [2] [] [] none).link.stopFrame ≠ []) ∧
      ((freeLine 0 [] [⟨.unlockOpen, [⟨0, 4, 0⟩]⟩] [] none).link.moveQ = [⟨.unlockOpen, [⟨0, 4, 0⟩]⟩]) ∧
      ((freeLine 0 [] [] [⟨0, .stop, 3, 0, 0⟩] none).link.moveQ = [] ∧
        (freeLine 0 [] [] [⟨0, .stop, 3, 0, 0⟩] none).link.resendQ = [⟨0, .stop, 3, 0, 0⟩]) ∧
      ((freeLine 0 [] [] [] none).modHealth 2 (fun h => { h with pendingCue := some .closing })).nextCue = some .closing ∧
      ((freeLine 0 [] [] [] (some (7, .common))).nextCue = none ∧
        (freeLine 0 [] [] [] (some (7, .common))).link.sync = some (7, .common)) ∧
      ((freeLine 0 [] [] [] none).nextCue = none ∧ (freeLine 0 [] [] [] none).link.sync = none) ∧
      ((freeLine 0 [] [] [] none).modLink fun l => { l with pace := .standby }).link.pollDue = false := by decide +kernel

/-- A health entry that awaits id 3, which a frame has carried since the last judgement. -/
def awaiting (action : LinkAction) (resends : Nat) (confirm : Bool) : Health :=
  { Health.reset with health := .ok, lastId := 3, awaited := some ⟨action, 3, 4, 0, true⟩, resends := resends, confirm := confirm }

theorem witness_CommandIds :
    ((freeLine 0 [0, 2] [] [] none).link.stopFrame.Nodup ∧ (2 : DoorIx) ∈ (freeLine 0 [0, 2] [] [] none).link.stopFrame ∧
        (1 : DoorIx) ∉ (freeLine 0 [0, 2] [] [] none).link.stopFrame) ∧
      (([⟨0, 4, 0⟩, ⟨2, 4, 0⟩] : List MoveTarget).map MoveTarget.door).Nodup ∧
      Health.reset.awaited = none ∧ (awaiting .unlockOpen 0 false).awaited = some ⟨.unlockOpen, 3, 4, 0, true⟩ ∧
      (awaiting .unlockOpen 0 false).confirm = false ∧ (awaiting .unlockOpen 1 true).confirm = true ∧
      (2 ≠ 3 ∧ (awaiting .unlockOpen 1 true).resends < 2 ∧ 2 ≤ (awaiting .unlockOpen 2 true).resends) := by decide

/-- A poll that begins at a door that awaits a command, with a resend of another door waiting. -/
theorem witness_CommandIds_poll :
    let r := (freeLine 4 [] [] [⟨2, .stop, 3, 0, 0⟩] none).modHealth 0 fun _ => awaiting .unlockOpen 0 false
    r.link.line = .idle ∧ r.link.state = .running ∧
      (linkPump r).link.line = .sending (.poll r.link.g r.link.pollPos false) ∧ r.link.pollPos = 0 ∧
      r.health[(0 : DoorIx)].awaited ≠ none := by decide +kernel

/-- R67 and section 4.9: a command judged WAITING is judged again only after a frame that carries its id, so a poll that
follows the drop of its resend sets no mark. -/
theorem test_unsent_resend_is_not_judged :
    let h := (confirmReply false 0 2 (awaiting .unlockOpen 0 true)).2.1
    h.resends = 1 ∧ h.polled.confirm = false ∧ (h.resent 4).polled.confirm = false ∧
      (h.resent 3).polled.confirm = true ∧ (h.sent .stop 0 0).polled.confirm = true := by decide

/-- The same door polled with its resend dropped, and a resend of the awaited id about to begin. -/
theorem witness_CommandIds_resend :
    let r := (freeLine 4 [] [] [] none).modHealth 0 fun _ =>
      (confirmReply false 0 2 (awaiting .unlockOpen 0 true)).2.1
    (linkPump r).link.line = .sending (.poll r.link.g r.link.pollPos false) ∧ r.link.pollPos = 0 ∧
      (r.health[(0 : DoorIx)].awaited.map fun a => (a.id, a.due)) = some (3, false) ∧
      (linkPump r).health[(0 : DoorIx)].confirm = false := by decide +kernel

theorem witness_StatusRoundTrip :
    255 ≤ 255 ∧ 31 ≤ 31 ∧ 1000 ≤ 1000 ∧ 15 ≤ 15 ∧ (254 : Nat) ≠ 255 ∧ (30 : Nat) ≠ 31 ∧
      ([0, 0] : List Byte) ≠ linkCrc (10 :: 0x80 :: byteOf 255 :: (u8 31 ++ [0x2D] ++ u16 1000 ++ u8 0 ++ [0] ++ u8 0 ++ u8 0)) := by
  decide +kernel

/-- The part polls a door that is RELEASED, its latch set. -/
def releasedPolled : FaceRec := polling ((faceIn .auto).modDoor 1 fun x => { x with state := .released, latch := true })

theorem witness_ReplyTaken :
    (settled (stateOf (faceIn .auto)) = true ∧ (faceIn .auto).link.line = .sending (.poll 5 0 false)) ∧
      (settled (stateOf releasedPolled) = true ∧ releasedPolled.link.state = .running ∧
        releasedPolled.link.pace = .normal ∧ releasedPolled.link.line = .awaiting (1 : DoorIx).val false false ∧
        releasedPolled.configured 1 = true ∧ releasedPolled.doors[(1 : DoorIx)].state = .released ∧
        releasedPolled.doors[(1 : DoorIx)].latch = true) ∧
      ((statusOf 1 0 0 3 0 0).length = 14 ∧ (statusOf 1 0 0 3 0 0).head? = some 0xA5 ∧
        (statusOf 1 0 0 3 0 0)[1]? = some 10 ∧ (judgeReply 5 1 (statusOf 1 0 0 3 0 0)).isSome = true) ∧
      (settled (stateOf (polling (faceIn .auto))) = true ∧ (polling (faceIn .auto)).doors[(1 : DoorIx)].state ≠ .released ∧
        (polling (faceIn .auto)).doors[(1 : DoorIx)].latch = false) ∧
      ((judgeReply 5 1 (statusOf 1 0 0 7 0 0)).map fun st => (st.report.unitType, st.report.pulled)) = some (0x2D, true) := by
  decide +kernel

/-- A standby round polls door A01, whose latest report the reply repeats or not. -/
def standbyPolled (rep : DoorReport) : FaceRec :=
  (polling ((faceIn .standby).modDoor 1 fun x => { x with report := some rep })).modLink fun l =>
    { l with pace := .standby, standbyTimer := some 1000, round := true }

theorem witness_ReplyTaken_standby :
    (settled (stateOf (standbyPolled shut)) = true ∧ (standbyPolled shut).mode.mode = .standby ∧
        (standbyPolled shut).link.pace = .standby ∧ (standbyPolled shut).configured 1 = true ∧
        (standbyPolled shut).op = none ∧ (standbyPolled shut).doors[(1 : DoorIx)].report = some shut) ∧
      (judgeReply 5 1 (statusOf 1 0 0 3 0 0x10)).map StatusReply.report = some shut ∧
      (judgeReply 5 1 (statusOf 1 0 0 7 0 0x10)).map StatusReply.report = some { shut with pulled := true } := by
  decide +kernel

/-- A reply that is not accepted, or of another unit type, while RUNNING, at a door OK, LATE and LOST; a bad LEN; and
bytes that follow one. -/
theorem witness_ReplyTaken_refused :
    let other := linkEnvelope 0x80 5 (u8 1 ++ [0x11] ++ u16 0 ++ [0, 3, 0, 0])
    let late := (polling (faceIn .auto)).modHealth 1 fun h => { h with health := .late, miss := 1 }
    (other.length = 14 ∧ other.head? = some 0xA5 ∧ other[1]? = some 10 ∧
        ((judgeReply 5 1 other).map fun st => st.report.unitType) = some 0x11) ∧
      ((statusOf 2 0 0 3 0 0).length = 14 ∧ judgeReply 5 1 (statusOf 2 0 0 3 0 0) = none) ∧
      (settled (stateOf (polling (faceIn .auto))) = true ∧ settled (stateOf late) = true ∧
        settled (stateOf ((doorIn 1 .lost late).modHealth 1 fun h => { h with health := .lost, reason := some .noAnswer })) =
          true) ∧
      settled { stateOf late with
        host := { HostLink.reset with tx := .reply ⟨0x81, 1, .done, 0, 0, []⟩ false false } } = true ∧
      settled (stateOf ((polling (faceIn .auto)).modLink fun l => { l with line := .awaiting 1 false true })) = true ∧
      ([0xA5, 9] : List Byte).head? = some 0xA5 ∧ (9 : Byte) ≠ 10 := by decide +kernel

/-- A face that enumerates polls a door, the last one or another, or sweeps a position past its doors. -/
def enumPolls (pos : Nat) (sweep : Bool) (m : FaceMode) : FaceRec :=
  (faceIn m).modLink fun l => { l with state := if sweep then .sweeping else .enumerating, pollPos := pos + 1,
                                       line := .awaiting pos sweep false, replyTimer := some 400 }

/-- An enumeration's reply: accepted for the last door and for another, of the unit type and of another, and a sweep's. -/
theorem witness_ReplyTaken_enumeration :
    (settled (stateOf (doorIn 1 .unknown (enumPolls 1 false .maint))) = true ∧
        settled (stateOf (enumPolls 2 false .maint)) = true ∧ (enumPolls 2 false .maint).n = 3 ∧
        (enumPolls 1 false .maint).configured 1 = true ∧ (stateOf (enumPolls 1 false .maint)).part.arb.queue = []) ∧
      ((judgeReply 5 1 (statusOf 1 0 0 3 0 0)).map fun st => (st.report.unitType, st.outer)) = some (0x2D, false) ∧
      (
        let other := linkEnvelope 0x80 5 (u8 1 ++ [0x11] ++ u16 0 ++ [0, 3, 0, 0])
        other.length = 14 ∧ other.head? = some 0xA5 ∧ other[1]? = some 10 ∧
          ((judgeReply 5 1 other).map fun st => st.report.unitType) = some 0x11) ∧
      (settled (stateOf (enumPolls 30 true .maint)) = true ∧ (judgeReply 5 30 (statusOf 30 0 0 3 0 0)).isSome = true) := by
  decide +kernel

/-- Door A01 in a state is polled while RUNNING. -/
def judged (x : DoorState) : FaceRec := polling (doorIn 1 x (faceIn .auto))

/-- The hypotheses of ReportJudged, with a report for each line of the judgement: a door known, UNKNOWN and LOST, a
handle pulled, a unit fault, a key out and returned, a confirmation failed, and a leaf at rest, full, stalled, moving. -/
theorem witness_ReportJudged :
    (settled (stateOf (judged .closedLocked)) = true ∧ settled (stateOf (judged .unknown)) = true ∧
        settled (stateOf (judged .lost)) = true ∧ settled (stateOf (judged .closing)) = true ∧
        settled (stateOf (judged .discrepant)) = true ∧
        settled (stateOf ((judged .opened).modDoor 1 fun x => { x with keyIso := true })) = true) ∧
      ((judged .closing).configured 1 = true ∧ (judged .closing).link.state = .running ∧ (judged .closing).link.pace = .normal ∧
        (judged .closing).link.line = .awaiting (1 : DoorIx).val false false ∧ (judged .closing).mode.mode ≠ .fire ∧
        (stateOf (judged .closing)).part.arb.queue = []) ∧
      ([statusOf 1 0 0 3 0 0, statusOf 1 980 0 0 0 0, statusOf 1 979 3 0 0 0, statusOf 1 100 1 0 0 0, statusOf 1 900 2 0 0 0,
          statusOf 1 0 0 7 0 0, statusOf 1 0 0 3 1 0, statusOf 1 0 0 3 0 1].all fun b =>
        decide (b.length = 14) && decide (b.head? = some 0xA5) && decide (b[1]? = some 10) &&
          ((judgeReply 5 1 b).any fun st => decide (st.report.unitType = 0x2D) && !st.outer)) = true ∧
      (settled (stateOf ((judged .opening).modHealth 1 fun _ => awaiting .unlockOpen 2 true)) = true ∧
        (confirmReply false 1 5 (awaiting .unlockOpen 2 true)).1 = .failed) := by decide +kernel

theorem witness_PollMissed :
    (settled (stateOf (faceIn .auto)) = true ∧ (faceIn .auto).link.replyTimer = none) ∧
      (settled (stateOf (polling (faceIn .auto))) = true ∧ (polling (faceIn .auto)).link.replyTimer ≠ none ∧
        (polling (faceIn .auto)).link.line = .awaiting (1 : DoorIx).val false false ∧
        (polling (faceIn .auto)).health[(1 : DoorIx)].health = .ok) ∧
      (settled (stateOf ((polling (faceIn .auto)).modHealth 1 fun h => { h with health := .late, miss := 1 })) = true) := by
  decide +kernel

/-- A poll missed in a wake round, with polls left and the last one, a notice held or not; while enumerating; in the
sweep before its last position and at it, the face to enter AUTO, or FIRE, or to stay. -/
theorem witness_PollMissed_others :
    (
      let woken (n : Nat) (held : Bool) : FaceRec := ((polling (faceIn .auto)).modLink fun l => { l with pace := .wake, wakeCount := n }).modMode
        fun m => { m with wakeRound := true, heldNotice := held }
      settled (stateOf (woken 2 true)) = true ∧ settled (stateOf (woken 1 true)) = true ∧
        settled (stateOf (woken 1 false)) = true) ∧
      (settled (stateOf (enumPolls 2 false .maint)) = true ∧ settled (stateOf (enumPolls 1 false .maint)) = true) ∧
      (settled (stateOf (enumPolls 30 true .maint)) = true ∧ settled (stateOf (enumPolls 31 true .maint)) = true ∧
        settled { stateOf (enumPolls 31 true .maint) with
          host := { HostLink.reset with tx := .reply ⟨0x81, 1, .done, 0, 0, []⟩ false false } } = true) ∧
      (
        let entering : FaceRec := (enumPolls 31 true .unconfigured).modMode fun m => { m with toAuto := true }
        settled (stateOf entering) = true ∧ entering.localReq = false ∧ entering.mode.handover = false ∧
          settled { stateOf entering with
            part := { (stateOf entering).part with fire := ⟨some .fireIn, .prime true, .prime false⟩ } } = true) := by
  decide +kernel

/-! ### Witnesses: the doors and the operations -/

/-- A train stands ALIGNED. -/
def served (m : FaceMode) (a : AlignStatus) : FaceRec := atBerth .stopped a (faceIn m)

theorem served_readyToOpen (m : FaceMode) (a : AlignStatus) : (served m a).ReadyToOpen :=
  ⟨rfl, rfl, Or.inl rfl⟩

/-- The face in LOCAL with P_OPEN, P_CLOSE one sample from a rising edge. -/
def atPanel (all : Bool) (r : FaceRec) : FaceRec := r.modMode fun m =>
  { m with localAck := true, panel := { m.panel with pOpen := nearly true, pClose := nearly true, pAll := .prime all } }

/-- A face that was handed the automatic-opening notice of its stop. -/
def noticed (served : Bool) : FaceRec :=
  let r := announced .aLeads true (atBerth .stopped .aligned (faceIn .auto))
  { r with
    berth := { r.berth with served := served }
    align := { r.align with cause := .stopped, axleCheck := .agrees }
    notice := true }

theorem witness_OpeningTaken :
    (free (stateOf (served .auto .aligned)) = true ∧ (served .auto .aligned).ReadyToOpen ∧
        (stateOf (served .auto .aligned)).part.queueFree .A ∧ (0 : Byte).getLsbD 1 = false ∧
        (served .auto .aligned).mode.handover = false) ∧
      (free (stateOf (served .auto .marginal)) = true ∧ (served .auto .marginal).ReadyToOpen ∧ (1 : Byte).getLsbD 0 = true ∧
        (1 : Byte).getLsbD 1 = false) ∧
      ((2 : Byte).getLsbD 1 = true ∧ (served .auto .aligned).byVerdict 2 = true ∧
        (65536 * (0 : Byte).toNat + 256 * (0 : Byte).toNat + (4 : Byte).toNat).testBit 2 = true ∧
        ∀ d : DoorIx, (served .auto .aligned).doors[d].verdict = .vMatch) ∧
      (settled (stateOf (atPanel false (served .localCtl .marginal))) = true ∧
        (atPanel false (served .localCtl .marginal)).mode.panel.pAll.reads = false ∧
        (nearly true).Accepts FaceParams.default.fPanel true) ∧
      (settled (stateOf (atPanel true (served .localCtl .notComputed))) = true ∧
        (atPanel true (served .localCtl .notComputed)).mode.panel.pAll.reads = true) :=
  ⟨⟨by decide +kernel, served_readyToOpen _ _, stateOf_queueFree _ _, by decide, rfl⟩,
    ⟨by decide +kernel, served_readyToOpen _ _, by decide, by decide⟩, by decide +kernel,
    ⟨by decide +kernel, by decide, (accepts_iff _ _ _).mp (by decide)⟩, ⟨by decide +kernel, by decide⟩⟩

/-- The notice: none handed on, one taken, and one whose train has since been served. -/
theorem witness_OpeningTaken_notice :
    (settled (stateOf (faceIn .auto)) = true ∧ (faceIn .auto).notice = false) ∧
      (settled (stateOf (noticed false)) = true ∧ (noticed false).OpensItself (noticed false).align ∧
        (noticed false).ReadyToOpen ∧ (noticed false).mode.handover = false) ∧
      (settled (stateOf (noticed true)) = true ∧ ¬ (noticed true).OpensItself (noticed true).align) :=
  ⟨by decide +kernel, ⟨by decide +kernel, ⟨Or.inl rfl, rfl, rfl, rfl, rfl, rfl⟩,
    ⟨rfl, rfl, Or.inl rfl⟩, rfl⟩, by decide +kernel, fun h => absurd h.2.1 (by decide)⟩

/-- The ready face in LOCAL keeps ready under the panel's buttons. -/
theorem witness_OpeningTaken_panel :
    (atPanel false (served .localCtl .marginal)).ReadyToOpen ∧ (atPanel true (served .localCtl .notComputed)).ReadyToOpen :=
  ⟨⟨rfl, rfl, Or.inl rfl⟩, ⟨rfl, rfl, Or.inl rfl⟩⟩

/-- A train stands ALIGNED at a face without a MATCH door: an OPEN selects no door, while P_OPEN with P_ALL selects all. -/
def unmatched (m : FaceMode) : FaceRec :=
  { served m .aligned with doors := Vector.replicate 24 { Door.reset with state := .closedLocked, verdict := .vNone } }

theorem witness_OpeningTaken_empty :
    (free (stateOf (unmatched .auto)) = true ∧ (unmatched .auto).ReadyToOpen ∧
        (∀ d, (unmatched .auto).byVerdict d = false) ∧ (stateOf (unmatched .auto)).part.queueFree .A) ∧
      (settled (stateOf (atPanel true (unmatched .localCtl))) = true ∧ (atPanel true (unmatched .localCtl)).ReadyToOpen ∧
        (atPanel true (unmatched .localCtl)).configured 2 = true ∧
        (atPanel true (unmatched .localCtl)).doors[(2 : DoorIx)].iso = .none) :=
  ⟨⟨by decide +kernel, ⟨rfl, rfl, Or.inl rfl⟩, by decide +kernel, stateOf_queueFree _ _⟩,
    by decide +kernel, ⟨rfl, rfl, Or.inl rfl⟩, by decide +kernel⟩

/-- A CLOSE in flight in SERVING with A00 in a state, for an OPEN to overtake. -/
def closesAt (x : DoorState) : FaceRec := withOp .close (some .closing) (doorIn 0 x (atBerth .serving .aligned (faceIn .auto)))

/-- An OPEN finds a CLOSE in flight: A00, its target, warned, held, reopening with its reversal complete or not, or on
the way shut, with verdict MATCH or another; A02 is closed and will be opened. -/
theorem witness_OpeningTaken_overtaking :
    (free (stateOf (closesAt .preClose)) = true ∧ free (stateOf (closesAt .held)) = true ∧
        free (stateOf (closesAt .reopening)) = true ∧
        free (stateOf ((closesAt .reopening).modDoor 0 fun x => { x with pauseT := some 500 })) = true ∧
        free (stateOf (closesAt .closing)) = true ∧
        free (stateOf ((closesAt .proving).modDoor 0 fun x => { x with verdict := .vPartial })) = true) ∧
      ((closesAt .closing).op = some ⟨.close, .host, 9, some .closing, 0, [⟨0, .pending, true⟩]⟩ ∧
        (closesAt .closing).berth.state = .serving ∧ (closesAt .closing).align.status = .aligned ∧
        (closesAt .closing).enumerating = false ∧ (closesAt .closing).mode.handover = false ∧
        (closesAt .closing).byVerdict 2 = true) := by decide +kernel

theorem witness_OpeningRefused :
    (free (stateOf (enumIn .auto)) = true ∧ (enumIn .auto).enumerating = true) ∧
      free (stateOf (faceIn .standby)) = true ∧ free (stateOf (faceIn .localCtl)) = true ∧
      free (stateOf (faceIn .fire)) = true ∧
      (free (stateOf (pendingHandover (faceIn .auto))) = true ∧ (pendingHandover (faceIn .auto)).mode.handover = true) ∧
      (free (stateOf (withOp .opn none (served .auto .aligned))) = true ∧
        (withOp .opn none (served .auto .aligned)).op = some ⟨.opn, .host, 9, none, 0, [⟨0, .pending, true⟩]⟩) ∧
      (free (stateOf (withOp .close (some .warning) (served .auto .aligned))) = true ∧
        (served .auto .aligned).berth.state ≠ .serving) ∧
      (free (stateOf (berthIn .empty false)) = true ∧ (berthIn .empty false).op = none ∧
        free (stateOf (berthIn .departing true)) = true) ∧
      (free (stateOf (served .auto .marginal)) = true ∧ (0 : Byte).getLsbD 0 = false ∧
        free (stateOf (berthIn .rolling true)) = true ∧ (berthIn .rolling true).align.status = .notComputed) ∧
      (free (stateOf (served .auto .aligned)) = true ∧ (2 : Byte).getLsbD 1 = true ∧
        (∀ d : DoorIx, (served .auto .aligned).configured d = true →
          (65536 * (0 : Byte).toNat + 256 * (0 : Byte).toNat + (8 : Byte).toNat).testBit d.val = false)) ∧
      (
        let r := (served .auto .aligned).modDoor 2 fun x => { x with verdict := .vPartial }
        free (stateOf r) = true ∧ r.configured 2 = true ∧ r.doors[(2 : DoorIx)].verdict ≠ .vMatch ∧
          (65536 * (0 : Byte).toNat + 256 * (0 : Byte).toNat + (4 : Byte).toNat).testBit 2 = true) := by
  decide +kernel

/-- A face with door A00 standing open. -/
def open0 (m : FaceMode) : FaceRec := doorIn 0 .opened (atBerth .serving .aligned (faceIn m))

theorem witness_ClosingTaken :
    (free (stateOf (open0 .auto)) = true ∧ (open0 .auto).ReadyToClose ∧ (stateOf (open0 .auto)).part.queueFree .A ∧
        (open0 .auto).mode.handover = false) ∧
      (free (stateOf (enumIn .auto)) = true ∧ free (stateOf (faceIn .unconfigured)) = true ∧
        free (stateOf (faceIn .localCtl)) = true ∧ free (stateOf (faceIn .fire)) = true ∧
        free (stateOf (pendingHandover (faceIn .auto))) = true ∧
        free (stateOf (withOp .close (some .warning) (open0 .auto))) = true) ∧
      (settled (stateOf (atPanel false (open0 .localCtl))) = true ∧ (atPanel false (open0 .localCtl)).ReadyToClose ∧
        (atPanel false (open0 .localCtl)).mode.panel.pClose.Accepts FaceParams.default.fPanel true ∧
        (atPanel false (open0 .localCtl)).mode.panel.pAll.reads = false) :=
  ⟨⟨by decide +kernel, ⟨rfl, rfl, ⟨0, by decide, by decide, by decide⟩⟩, stateOf_queueFree _ _, rfl⟩,
    by decide +kernel,
    ⟨by decide +kernel, ⟨rfl, rfl, ⟨0, by decide, by decide, by decide⟩⟩, (accepts_iff _ _ _).mp (by decide), by decide⟩⟩

/-- An OPEN in flight with A00 opening, standing open, or queued to open. -/
def opensAt (x : DoorState) : FaceRec := withOp .opn none (doorIn 0 x (atBerth .serving .aligned (faceIn .auto)))

theorem witness_ClosingTaken_overtaking :
    (free (stateOf (opensAt .opening)) = true ∧ free (stateOf (opensAt .unlocking)) = true ∧
        free (stateOf (opensAt .opened)) = true ∧ (opensAt .opening).doors[(0 : DoorIx)].iso = .none) ∧
      (free (stateOf (opensAt .openQueued)) = true ∧ (opensAt .openQueued).doors[(0 : DoorIx)].order = none ∧
        (stateOf (opensAt .openQueued)).part.arb.starting = [] ∧
        (opensAt .openQueued).op = some ⟨.opn, .host, 9, none, 0, [⟨0, .pending, true⟩]⟩ ∧
        (opensAt .openQueued).mode.mode = .auto ∧ (opensAt .openQueued).mode.handover = false) := by decide +kernel

/-- A RELEASED door that its report shows shut, at P_CLOSE with P_ALL, in LOCAL and in FIRE under a local request, there
with a verdict that the fire opening takes and with one that it does not. -/
def resetAt (m : FaceMode) (v : Verdict) : FaceRec :=
  (atPanel true (atBerth .stopped .aligned ((faceIn m).modDoor 0 fun x =>
    { x with state := .released, latch := true, report := some shut, verdict := v }))).modMode fun m =>
    { m with panel := { m.panel with localReq := .prime true } }

theorem witness_ClosingTaken_doorReset :
    (settled (stateOf (resetAt .localCtl .vMatch)) = true ∧ (resetAt .localCtl .vMatch).mode.panel.pAll.reads = true ∧
        (resetAt .localCtl .vMatch).mode.panel.pClose.Accepts FaceParams.default.fPanel true) ∧
      (settled (stateOf (resetAt .fire .vMatch)) = true ∧ (resetAt .fire .vMatch).localReq = true ∧
        (resetAt .fire .vMatch).mayFire 0 = true ∧ (resetAt .fire .vMatch).op = none ∧
        (stateOf (resetAt .fire .vMatch)).part.arb.queue = []) ∧
      (settled (stateOf (resetAt .fire .vNone)) = true ∧ (resetAt .fire .vNone).mayFire 0 = false) ∧
      (resetAt .fire .vMatch).doors[(1 : DoorIx)].state = .closedLocked :=
  ⟨⟨by decide +kernel, by decide, (accepts_iff _ _ _).mp (by decide)⟩, by decide +kernel, by decide +kernel, by decide⟩

/-- Door A00 in a state with a latest report. -/
def reported (s : DoorState) (rep : DoorReport) (m : FaceMode) : FaceRec :=
  (faceIn m).modDoor 0 fun x => { x with state := s, report := some rep }

theorem witness_DoorRequests :
    (free (stateOf (faceIn .auto)) = true ∧ (faceIn .auto).configured 3 = false ∧ (faceIn .auto).configured 2 = true) ∧
      (free (stateOf (reported .released shut .auto)) = true ∧ shut.pulled = false ∧ shut.closed = true ∧ shut.locked = true) ∧
      (free (stateOf (reported .released { shut with pulled := true } .auto)) = true) ∧
      (free (stateOf (doorIn 0 .released (faceIn .auto))) = true ∧
        (doorIn 0 .released (faceIn .auto)).doors[(0 : DoorIx)].report = none) ∧
      (free (stateOf (reported .discrepant { shut with fault := .sensor } .auto)) = true) ∧
      (free (stateOf ((reported .discrepant shut .auto).modDoor 0 fun x => { x with keyIso := true })) = true) ∧
      (free (stateOf (reported .discrepant shut .localCtl)) = true ∧ shut.fault = .none ∧ shut.motion = .idle) ∧
      (free (stateOf (reported .discrepant { shut with locked := false } .maint)) = true) ∧
      (free (stateOf (doorIn 0 .obstructed (faceIn .auto))) = true ∧ (faceIn .auto).mode.handover = false ∧
        (stateOf (doorIn 0 .obstructed (faceIn .auto))).part.arb.queue = []) ∧
      (free (stateOf (doorIn 0 .opened (faceIn .auto))) = true) := by decide +kernel

/-- The refusals of DOOR_RESTORE for a door it would move: enumeration, and the mode and isolation checks of the
single-door close attempt, OBSTRUCTED and DISCREPANT. -/
theorem witness_DoorRequests_refused :
    (free (stateOf (doorIn 0 .obstructed (enumIn .maint))) = true ∧ (enumIn .maint).enumerating = true ∧
        (enumIn .maint).configured 0 = true) ∧
      (free (stateOf (doorIn 0 .obstructed (faceIn .fire))) = true ∧ (faceIn .fire).enumerating = false) ∧
      (free (stateOf (reported .discrepant { shut with closed := false } .fire)) = true ∧
        (reported .discrepant { shut with closed := false } .fire).doors[(0 : DoorIx)].keyIso = false) ∧
      (
        let r := doorIn 2 .obstructed (pendingHandover (faceIn .auto))
        free (stateOf r) = true ∧ r.mode.handover = true ∧ r.configured 2 = true) ∧
      free (stateOf (doorIn 0 .obstructed (faceIn .localCtl))) = true ∧
      free (stateOf (doorIn 0 .obstructed (faceIn .standby))) = true ∧
      (
        let r := (doorIn 0 .obstructed (faceIn .maint)).modDoor 0 fun x => { x with hostIso := true }
        free (stateOf r) = true ∧ r.doors[(0 : DoorIx)].hostIso = true ∧ r.mode.handover = false) := by decide +kernel

theorem witness_DoorRequests_isolation :
    ((faceIn .auto).configured 3 = false ∧ (faceIn .auto).configured 2 = true) ∧
      (free (stateOf (enumIn .maint)) = true ∧ (enumIn .maint).configured 0 = true) ∧
      (free (stateOf (doorIn 2 .opened (faceIn .auto))) = true ∧ free (stateOf (doorIn 2 .discrepant (faceIn .auto))) = true) ∧
      free (stateOf (doorIn 2 .closing (faceIn .auto))) = true ∧
      free (stateOf ((faceIn .auto).modDoor 2 fun x => { x with hostIso := true })) = true := by decide +kernel

theorem witness_MaintMove :
    (free (stateOf (faceIn .fire)) = true ∧ free (stateOf (faceIn .localCtl)) = true ∧
        free (stateOf (pendingHandover (faceIn .auto))) = true ∧ free (stateOf (faceIn .standby)) = true ∧
        (faceIn .fire).configured 2 = true) ∧
      (free (stateOf (linkIn .idle)) = true ∧ (linkIn .idle).link.state ≠ .running ∧ (linkIn .idle).enumerating = false) ∧
      free (stateOf (doorIn 2 .obstructed (faceIn .maint))) = true ∧
      (free (stateOf (doorIn 2 .proving (faceIn .maint))) = true ∧ DoorState.proving.busy = true) ∧
      (free (stateOf (faceIn .maint)) = true ∧ (faceIn .maint).doors[(2 : DoorIx)].state = .closedLocked ∧
        (faceIn .maint).mode.handover = false ∧ (faceIn .maint).link.state = .running) ∧
      (free (stateOf (doorIn 2 .opened (faceIn .maint))) = true ∧
        (doorIn 2 .opened (faceIn .maint)).doors[(2 : DoorIx)].partialOpen = false ∧
        (doorIn 2 .opened (faceIn .maint)).doors[(2 : DoorIx)].forced = false) ∧
      free (stateOf ((doorIn 2 .opened (faceIn .maint)).modDoor 2 fun x => { x with partialOpen := true })) = true := by
  decide +kernel

/-- Door A02 in a state with every timer running. -/
def timed (s : DoorState) (m : FaceMode) : FaceRec := (faceIn m).modDoor 2 fun x =>
  { x with state := s, unlockT := some 800, motionT := some 6000, lockProofT := some 1000, pauseT := some 1000, startT := some 500 }

theorem witness_DoorTimers :
    (settled (stateOf (faceIn .auto)) = true ∧ (faceIn .auto).doors[(2 : DoorIx)].unlockT = none ∧
        (faceIn .auto).doors[(2 : DoorIx)].motionT = none ∧ (faceIn .auto).doors[(2 : DoorIx)].lockProofT = none ∧
        (faceIn .auto).doors[(2 : DoorIx)].pauseT = none ∧ (faceIn .auto).doors[(2 : DoorIx)].startT = none) ∧
      (settled (stateOf (timed .unlocking .auto)) = true ∧ (timed .unlocking .auto).doors[(2 : DoorIx)].unlockT ≠ none) ∧
      (settled (stateOf (timed .reopening .auto)) = true ∧ settled (stateOf (timed .opening .auto)) = true ∧
        settled (stateOf (timed .closing .auto)) = true ∧ (timed .reopening .auto).doors[(2 : DoorIx)].motionT ≠ none) ∧
      (settled (stateOf (timed .proving .auto)) = true ∧ (timed .proving .auto).doors[(2 : DoorIx)].lockProofT ≠ none) ∧
      (settled (stateOf (timed .reopening .fire)) = true ∧ (stateOf (timed .reopening .fire)).part.arb.queue = []) ∧
      (settled { stateOf (timed .closing .auto) with
        part := { (stateOf (timed .closing .auto)).part with arb := ⟨[], [⟨.A, 2⟩]⟩ } } = true) := by decide +kernel

/-- A02 in a state with its warning, quiet and hold timers running, its outer beam clear or blocked. -/
def warned (s : DoorState) (blocked : Bool) : FaceRec :=
  { (doorIn 2 s (faceIn .auto)).modSense 2 fun x =>
      { x with outer := .prime blocked, quietT := some 1000, holdT := some 5000 } with warning := some 2000 }

theorem witness_TimersThatClose :
    (settled (stateOf (faceIn .auto)) = true ∧ (faceIn .auto).warning = none ∧
        (faceIn .auto).sense[(2 : DoorIx)].quietT = none ∧ (faceIn .auto).sense[(2 : DoorIx)].holdT = none) ∧
      (settled (stateOf (warned .preClose false)) = true ∧ (warned .preClose false).warning ≠ none ∧
        (warned .preClose false).params.tHoldMax ≠ 0 ∧ (warned .preClose false).sense[(2 : DoorIx)].quiet = true ∧
        (warned .preClose false).doors[(2 : DoorIx)].iso = .none ∧ (warned .preClose false).configured 2 = true) ∧
      (settled (stateOf (warned .preClose true)) = true ∧ (warned .preClose true).sense[(2 : DoorIx)].quiet = false) ∧
      (settled (stateOf (warned .held false)) = true ∧ (warned .held false).sense[(2 : DoorIx)].quietT ≠ none ∧
        (warned .held false).sense[(2 : DoorIx)].quiet = true) ∧
      (settled (stateOf (warned .held true)) = true ∧ (warned .held true).sense[(2 : DoorIx)].holdT ≠ none ∧
        (warned .held true).doors[(2 : DoorIx)].keyIso = false) ∧
      (faceIn .auto).configured 3 = false := by decide +kernel

/-- With T_hold_max at 0 the hold limit is reached at the entry to HELD itself. -/
theorem witness_TimersThatClose_noHold :
    let r : FaceRec := { warned .preClose true with params := { FaceParams.default with tHoldMax := 0 } }
    settled (stateOf r) = true ∧ r.params.tHoldMax = 0 ∧ r.doors[(2 : DoorIx)].keyIso = false ∧
      r.sense[(2 : DoorIx)].quiet = false ∧ r.configured 2 = true ∧ r.warning ≠ none := by decide +kernel

/-- A door that stands OPEN within a reopen cycle, quiet or not, and one outside a cycle. -/
theorem witness_TimersThatClose_reopened :
    let r := (warned .opened false).modSense 2 fun x => { x with inCycle := true }
    (settled (stateOf r) = true ∧ r.sense[(2 : DoorIx)].quietT ≠ none ∧ r.sense[(2 : DoorIx)].quiet = true ∧
        r.doors[(2 : DoorIx)].state = .opened ∧ r.sense[(2 : DoorIx)].inCycle = true ∧
        r.doors[(2 : DoorIx)].keyIso = false ∧ r.mode.mode ≠ .fire ∧ r.op = none) ∧
      (settled (stateOf (warned .opened true)) = true ∧ (warned .opened true).sense[(2 : DoorIx)].quiet = false) ∧
      (settled (stateOf (warned .opened false)) = true ∧ (warned .opened false).sense[(2 : DoorIx)].inCycle = false) := by
  decide +kernel

/-- A part with starts queued and starting. -/
def starts (n : Nat) (level : SupplyLevel) : Part :=
  { (stateOf (faceIn .auto)).part with
    supply := ⟨level, 0, 0, 90⟩
    arb := ⟨[⟨⟨.A, 0⟩, .toClose, .ordinary⟩], List.replicate n ⟨.A, 1⟩⟩ }

theorem witness_GrantEvent :
    (starts 0 .normal).supply.level = .normal ∧ (starts 0 .low).supply.level = .low ∧
      (starts 0 .critical).supply.level = .critical ∧
      (candidate (starts 5 .normal).arb.queue = some ⟨⟨.A, 0⟩, .toClose, .ordinary⟩ ∧
        (starts 5 .normal).arb.starting.length < (starts 5 .normal).limitFor .ordinary) ∧
      (candidate (grantEvent (starts 6 .normal)).arb.queue = some ⟨⟨.A, 0⟩, .toClose, .ordinary⟩ ∧
        (starts 6 .normal).arb.starting.length ≤ (starts 6 .normal).limitFor .fire ∧ 1 ≤ (starts 6 .normal).params.k) := by
  decide +kernel

/-- Two starts that one grant event grants: A00 to close, forced, and A02 to open in fire; A01 is not granted. -/
theorem witness_GrantEvent_granted :
    let p : Part := { starts 0 .normal with arb := ⟨[⟨⟨.A, 0⟩, .toClose, .forced⟩, ⟨⟨.A, 2⟩, .toOpen, .fire⟩], []⟩ }
    (p.granted .A 0 ∧ p.granted .A 2 ∧ ¬ p.granted .A 1) ∧ (p.face .A).link.state ≠ .idle ∧
      (p.face .A).configured 0 = true ∧ p.arb.queuedOnce ⟨⟨.A, 0⟩, .toClose, .forced⟩ := by
  unfold Part.granted Arbiter.queuedOnce
  decide +kernel

/-- A part whose door A02 waits to open at a train, with the gap state as it stands. -/
def opensFirst (gap : GapState) : Part :=
  { (stateOf (doorIn 2 .openQueued { atBerth .serving .aligned (faceIn .auto) with
      gap := { (faceIn .auto).gap with state := gap } })).part with arb := ⟨[⟨⟨.A, 2⟩, .toOpen, .ordinary⟩], []⟩ }

theorem witness_GrantEvent_opens :
    ∀ gap ∈ [GapState.notRequired, .passed, .running, .failed, .pending],
      let p := opensFirst gap
      let r := p.face .A
      p.granted .A 2 ∧ r.watched 2 = true ∧ r.sense[(2 : DoorIx)].inCycle = false ∧
        r.doors[(2 : DoorIx)].state ≠ .unlocking ∧ p.arb.queuedOnce ⟨⟨.A, 2⟩, .toOpen, .ordinary⟩ ∧
        r.berth.state ≠ .empty ∧ r.berth.state ≠ .announced ∧ r.gap.state = gap := by
  unfold Part.granted Arbiter.queuedOnce
  decide +kernel

/-- The state at a supply level with its counts. -/
def supplied (level : SupplyLevel) (fall rise : Nat) : State :=
  { stateOf (faceIn .auto) with part := { (stateOf (faceIn .auto)).part with supply := ⟨level, fall, rise, 90⟩ } }

theorem witness_SupplySample :
    (settled (supplied .normal 2 0) = true ∧ (87 : Byte).toNat < PartParams.default.lowV ∧ 2 + 1 < PartParams.default.fSup) ∧
      (settled (supplied .low 3 0) = true ∧ (75 : Byte).toNat < PartParams.default.critV ∧ PartParams.default.fSup ≤ 3 + 1) ∧
      (settled (supplied .low 0 2) = true ∧ PartParams.default.lowV + PartParams.default.h ≤ (92 : Byte).toNat) ∧
      (settled (supplied .critical 0 3) = true ∧ PartParams.default.critV + PartParams.default.h ≤ (80 : Byte).toNat) ∧
      (¬ (88 : Byte).toNat < PartParams.default.lowV ∧ ¬ PartParams.default.critV + PartParams.default.h ≤ (79 : Byte).toNat) := by
  decide +kernel

/-! ### Witnesses: passengers, the gap, fire, the modes and the outputs -/

/-- A02 with a crossing in progress, the counting flag set, and counts. -/
def crossing (inner outer : Filter) (e : CrossPos) (d : CrossPos) (c : Counts) : FaceRec :=
  (((faceIn .auto).modSense 2 fun x => { x with inner := inner, outer := outer, dec := ⟨d, some e, false⟩ }).modDoor 2
    fun x => { x with counts := c }).modGap fun g => { g with counting := true }

theorem witness_BeamsTaken :
    (settled (stateOf (faceIn .auto)) = true ∧ (faceIn .auto).configured 3 = false ∧ (faceIn .auto).configured 2 = true) ∧
      (settled (stateOf ((faceIn .auto).modSense 2 fun _ => Sense.reset)) = true ∧ Sense.reset.inner.primed = false) ∧
      (settled (stateOf (crossing (.prime false) ⟨true, 1, true⟩ .inner .outer ⟨65534, 0, 0, false⟩)) = true ∧
        (CrossDecoder.move (crossPos false false) ⟨.outer, some .inner, false⟩).2 = some .board) ∧
      (settled (stateOf (crossing ⟨true, 1, true⟩ (.prime false) .outer .inner ⟨0, 65535, 0, false⟩)) = true ∧
        (CrossDecoder.move (crossPos false false) ⟨.inner, some .outer, false⟩).2 = some .alight) ∧
      (settled (stateOf (crossing ⟨true, 1, true⟩ (.prime false) .both .inner ⟨0, 0, 65535, true⟩)) = true ∧
        (CrossDecoder.move (crossPos false false) ⟨.inner, some .both, false⟩).2 = some .undirected) := by decide +kernel

/-- A02 in a state while the gap check runs, its outer beam one sample from BLOCKED, with a number of gap reopens. -/
def gapRuns (x : DoorState) (reopens : Nat) : FaceRec :=
  let r := ((doorIn 2 x (faceIn .auto)).modSense 2 fun z => { z with outer := ⟨false, 1, true⟩ }).modDoor 2
    fun y => { y with gapReopens := reopens }
  { r with gap := { r.gap with state := .running, timer := if r.waitingDoors = [] then some 1500 else none } }

/-- An outer beam newly BLOCKED: a door that closes, waits, has closed, or reopens, with a reopen left; one with none
left, one closed without MATCH; and one not watched, in a cycle, or outside RUNNING. -/
theorem witness_BeamsTaken_outer :
    (settled (stateOf (gapRuns .closing 1)) = true ∧ settled (stateOf (gapRuns .preClose 0)) = true ∧
        settled (stateOf (gapRuns .closedLocked 1)) = true ∧ settled (stateOf (gapRuns .reopening 1)) = true ∧
        settled (stateOf ((gapRuns .reopening 1).modDoor 2 fun y => { y with pauseT := some 500 })) = true) ∧
      ((gapRuns .closing 1).configured 2 = true ∧ (gapRuns .closing 1).sense[(2 : DoorIx)].outer.level = false ∧
        (gapRuns .closing 1).params.fBeam ≤ (gapRuns .closing 1).sense[(2 : DoorIx)].outer.run + 1 ∧
        (gapRuns .closing 1).sense[(2 : DoorIx)].inCycle = false ∧ (gapRuns .closing 1).doors[(2 : DoorIx)].iso = .none ∧
        (gapRuns .closedLocked 1).doors[(2 : DoorIx)].verdict = .vMatch ∧ (gapRuns .closing 1).gap.state = .running) ∧
      (settled (stateOf (gapRuns .closing 2)) = true ∧
        settled (stateOf ((gapRuns .closedLocked 0).modDoor 2 fun y => { y with verdict := .vPartial })) = true) ∧
      (settled (stateOf (gapRuns .opened 0)) = true ∧
        settled (stateOf ((faceIn .auto).modSense 2 fun z => { z with outer := ⟨false, 1, true⟩ })) = true) := by
  decide +kernel

/-- A CLOSE waiting in GAP_WAIT with the gap timer running, and an end beam filter. -/
def gapWaiting (head : Filter) : FaceRec :=
  { atBerth .serving .aligned (faceIn .auto) with
    op := some ⟨.close, .host, 30, some .gapWait, 0, [⟨1, .closed, true⟩]⟩
    gap := { (faceIn .auto).gap with state := .running, timer := some 1500, headBeam := head } }

theorem witness_GapCheck :
    (settled (stateOf FaceRec.reset) = true ∧ FaceRec.reset.geom = none ∧ FaceRec.reset.gap.timer = none) ∧
      (settled (stateOf (gapWaiting (nearly true))) = true ∧ (gapWaiting (nearly true)).geom ≠ none ∧
        accepts (nearly true) 3 true = true ∧ (gapWaiting (nearly true)).gap.state = .running ∧
        (gapWaiting (nearly true)).gap.timer ≠ none) ∧
      (settled (stateOf (gapWaiting (.prime false))) = true ∧ accepts (.prime false) 3 true = false) := by decide +kernel

/-- A gap check in a state with its end beams. -/
def gapAt (st : GapState) (head tail : Filter) : FaceRec :=
  { faceIn .auto with gap := { (faceIn .auto).gap with state := st, headBeam := head, tailBeam := tail } }

/-- An accepted end beam sample while no check runs, while one runs with a beam clearing, and in FAILED with another beam
still blocked and with none. -/
theorem witness_GapCheck_others :
    (settled (stateOf (gapAt .notRequired (nearly true) (.prime false))) = true ∧
        settled (stateOf (gapAt .pending (nearly false) (.prime false))) = true ∧
        settled (stateOf (gapAt .passed (nearly true) (.prime true))) = true) ∧
      (settled (stateOf (gapAt .running (nearly false) (.prime false))) = true ∧ accepts (nearly false) 3 false = true) ∧
      (settled (stateOf (gapAt .failed (nearly false) (.prime true))) = true ∧
        (gapAt .failed (.taken false) (.prime true)).gapClear = false) ∧
      (settled (stateOf (gapAt .failed (nearly false) (.prime false))) = true ∧
        (gapAt .failed (.taken false) (.prime false)).gapClear = true ∧
        (gapAt .failed (.taken false) (.prime false)).waitingDoors = []) := by decide +kernel

/-- A complete CLOSE in CLOSING, with the gap bypass off and on, in every gap state. -/
def closeDone (gap : GapState) (bypass : Bool) : FaceRec :=
  let r := (gapAt gap (.prime false) (.prime false)).modMode fun m =>
    { m with panel := { m.panel with gapBypass := .prime bypass } }
  { r with op := some ⟨.close, .host, 30, some .closing, 0, [⟨1, .closed, true⟩]⟩ }

theorem witness_GapCheck_complete :
    ∀ gap ∈ [GapState.notRequired, .pending, .running, .passed, .failed], ∀ bypass : Bool,
      let r := closeDone gap bypass
      r.gap.state = gap ∧ r.gapBypass = bypass ∧ r.op = some ⟨.close, .host, 30, some .closing, 0, [⟨1, .closed, true⟩]⟩ ∧
        ∀ x ∈ ([⟨1, .closed, true⟩] : List Target), x.outcome ≠ .pending := by decide +kernel

/-- A face in AUTO with its doors shut and no operation, in gap states that a settled face may have. -/
theorem witness_GapCheck_closeFace :
    (∀ gap ∈ [GapState.notRequired, .pending, .passed], ∀ bypass : Bool,
        let r := { closeDone gap bypass with op := none }
        free (stateOf r) = true ∧ r.op = none ∧ r.enumerating = false ∧ r.mode.mode = .auto ∧
          r.mode.handover = false ∧ r.gapClear = true ∧
          ∀ d : DoorIx, r.configured d = true → r.doors[d].state = .closedLocked) ∧
      free (stateOf (gapAt .running (.prime true) (.prime false))) = true ∧
      free (stateOf (gapAt .failed (.prime true) (.prime false))) = true := by decide +kernel

/-- The state with a fire cause and fire input filters. -/
def fireAt (c : Option FireCause) (a b : Filter) (r : FaceRec) : State :=
  { stateOf r with part := { (stateOf r).part with fire := ⟨c, a, b⟩ } }

theorem witness_FireEntry :
    (free (stateOf (faceIn .standby)) = true ∧ (stateOf (faceIn .standby)).part.fire.cause = none ∧
        (stateOf (faceIn .standby)).part.present .B = true ∧ (stateOf (faceIn .standby)).part.faceB.mode.mode = .unconfigured) ∧
      (free (fireAt (some .fireIn) (.prime true) (.prime false) (faceIn .fire)) = true) ∧
      (free (fireAt none (nearly true) (.prime false) (faceIn .maint)) = true ∧ accepts (nearly true) 3 true = true) ∧
      (free (fireAt (some .fireCommand) (nearly true) (.prime false) (faceIn .fire)) = true) ∧
      accepts (.prime false) 3 true = false := by decide +kernel

/-- A face with a CLOSE in flight whose doors the fire entry turns: A00 opened, A01 reversed or halted, A02 freed. -/
def burning (x : DoorState) (v : Verdict) : FaceRec :=
  withOp .close (some .closing) ((doorIn 2 .held (doorIn 1 x (atBerth .serving .aligned (faceIn .auto)))).modDoor 1
    fun y => { y with verdict := v })

theorem witness_FireEntry_doors :
    (free (stateOf (burning .closing .vMatch)) = true ∧ (burning .closing .vMatch).fireTurns 1 = (.reopening, false) ∧
        (burning .closing .vMatch).fireTurns 2 = (.opened, false) ∧ (burning .closing .vMatch).fireSet 0 = true ∧
        (burning .closing .vMatch).doors[(1 : DoorIx)].keyIso = false ∧ (burning .closing .vMatch).mode.mode = .auto) ∧
      (free (stateOf (burning .closing .vNone)) = true ∧ (burning .closing .vNone).fireTurns 1 = (.opened, true) ∧
        (burning .closing .vNone).fireSet 1 = false) ∧
      (free (stateOf (burning .openQueued .vNone)) = true ∧ (burning .openQueued .vNone).fireTurns 1 = (.closedLocked, false)) ∧
      (free (stateOf (faceIn .auto)) = true ∧ ∀ d, (faceIn .auto).fireSet d = false) ∧
      (∀ e ∈ (stateOf (burning .closing .vMatch)).part.arb.queue, e.ref.face ≠ .B) := by decide +kernel

theorem witness_FireExit :
    (settled (fireAt (some .fireIn) (.prime false) (.prime false) (faceIn .fire)) = true) ∧
      (settled (fireAt (some .fireIn) (.prime true) (nearly true) (faceIn .fire)) = true ∧ (Filter.prime true).reads = true) ∧
      (settled (fireAt (some .fireIn) (.prime false) (nearly true) (faceIn .fire)) = true ∧ (Filter.prime false).reads = false ∧
        (faceIn .fire).mode.handover = false ∧ (faceIn .fire).link.state ≠ .idle ∧ (faceIn .fire).localReq = false) ∧
      (settled (fireAt (some .fireIn) (.prime false) (nearly true)
        ((faceIn .fire).modLink fun l => { l with state := .idle })) = true) ∧
      (settled (fireAt (some .fireIn) (.prime false) (nearly true)
        ((faceIn .fire).modMode fun m => { m with panel := { m.panel with localReq := .prime true } })) = true) := by
  decide +kernel

theorem witness_FirstSampleAfterReset :
    (settled (stateOf (faceIn .auto)) = true ∧ (stateOf (faceIn .auto)).part.fire.fireIn.primed = true) ∧
      (settled (fireAt none .reset .reset FaceRec.reset) = true ∧
        (fireAt none .reset .reset FaceRec.reset).part.fire.fireIn.primed = false) ∧
      (settled (fireAt (some .fireCommand) .reset .reset FaceRec.reset) = true) := by decide +kernel

/-- The first sample of faces whose modes answer a local request in different ways, and of one whose CLOSE waits for the
gap check; no fire input reads ACTIVE. -/
theorem witness_FirstSampleAfterReset_active :
    (∀ m ∈ [FaceMode.unconfigured, .auto, .localCtl, .maint, .standby],
        settled (fireAt none .reset .reset (faceIn m)) = true ∧
          (fireAt none .reset .reset (faceIn m)).part.fire.fireIn.primed = false ∧
          (fireAt none .reset .reset (faceIn m)).part.arb.queue = [] ∧ (faceIn m).mode.mode = m) ∧
      (settled (fireAt (some .fireIn) .reset .reset (faceIn .fire)) = true ∧ (faceIn .fire).mode.mode = .fire) ∧
      ((faceIn .auto).atRest = true ∧ (faceIn .auto).enumerating = false) ∧
      (settled (fireAt none .reset .reset (doorIn 0 .opening (faceIn .auto))) = true ∧
        (doorIn 0 .opening (faceIn .auto)).atRest = false) ∧
      (settled (fireAt none .reset .reset (gapWaiting (.prime false))) = true ∧
        (gapWaiting (.prime false)).gapWaiting = true) := by decide +kernel

theorem witness_ModeRequests :
    2 < (3 : Byte).toNat ∧ (2 : Byte).toNat ≤ 2 ∧
      (free (stateOf (enumIn .maint)) = true ∧ (enumIn .maint).enumerating = true) ∧
      (free (stateOf (faceIn .unconfigured)) = true ∧ (faceIn .unconfigured).geom ≠ none ∧
        free (stateOf FaceRec.reset) = true ∧ FaceRec.reset.geom = none) ∧
      (free (stateOf (faceIn .auto)) = true ∧ (faceIn .auto).berth.state = .empty ∧ (faceIn .auto).atRest = true ∧
        (faceIn .auto).closedForStandby = true ∧ (faceIn .auto).mode.handover = false) ∧
      free (stateOf (pendingHandover (faceIn .auto))) = true ∧ free (stateOf (berthIn .stopped false)) = true ∧
      (free (stateOf (doorIn 1 .opened (faceIn .auto))) = true ∧ (doorIn 1 .opened (faceIn .auto)).closedForStandby = false) ∧
      free (stateOf (faceIn .localCtl)) = true ∧ free (stateOf (faceIn .maint)) = true ∧
      free (stateOf (faceIn .standby)) = true ∧ free (stateOf (faceIn .fire)) = true := by decide +kernel

/-- The face with its local request one sample from a level. -/
def keyTurns (level : Bool) (r : FaceRec) : FaceRec := r.modMode fun m => { m with panel := { m.panel with localReq := nearly level } }

theorem witness_PanelInputs :
    (settled (stateOf (faceIn .auto)) = true ∧ accepts (.prime false) 3 true = false) ∧
      accepts (nearly true) 3 true = true ∧ accepts (nearly false) 3 false = true ∧
      (settled (stateOf (keyTurns true (faceIn .auto))) = true ∧ (keyTurns true (faceIn .auto)).atRest = true) ∧
      (settled (stateOf (keyTurns true (doorIn 0 .opening (faceIn .auto)))) = true ∧
        (keyTurns true (doorIn 0 .opening (faceIn .auto))).atRest = false) ∧
      settled (stateOf (keyTurns true (faceIn .fire))) = true ∧ settled (stateOf (keyTurns true (enumIn .maint))) = true ∧
      settled (stateOf (keyTurns true (faceIn .maint))) = true ∧ settled (stateOf (keyTurns true (faceIn .standby))) = true ∧
      settled (stateOf (keyTurns false (faceIn .localCtl))) = true ∧
      settled (stateOf (keyTurns false (pendingHandover (faceIn .auto)))) = true := by decide +kernel

/-- An automatic-opening notice that waits when the panel takes the face, or when fire leaves force, opens nothing
afterwards (R147, R157). -/
theorem test_notice_ends :
    (faceAfter (.localRequestChange .A true) (stateOf (keyTurns true (noticed false)))).notice = false ∧
      (faceAfter (.localRequestChange .A true) (stateOf (keyTurns true (noticed false)))).mode.mode = .localCtl ∧
      (faceAfter .fireInRisingEdge (fireAt none (nearly true) (.prime false) (noticed false))).notice = false := by
  decide +kernel

theorem witness_PanelInputs_buttons :
    settled (stateOf (faceIn .localCtl)) = true ∧ accepts (.prime false) 3 true = false ∧
      (settled (stateOf (atPanel false (faceIn .fire))) = true ∧ (faceIn .fire).mode.mode ≠ .localCtl) ∧
      settled (stateOf (atPanel false (faceIn .auto))) = true := by decide +kernel

/-- The face with both bypasses one sample from ACTIVE. -/
def bypassNears (r : FaceRec) : FaceRec := r.modMode fun m =>
  { m with panel := { m.panel with proofBypass := nearly true, gapBypass := nearly true } }

theorem witness_SecuredOutput :
    settled (stateOf (faceIn .auto)) = true ∧ accepts (.prime false) 3 true = false ∧
      (settled (stateOf (bypassNears (faceIn .auto))) = true ∧ accepts (nearly true) 3 true = true ∧
        (bypassNears (faceIn .auto)).gapWaiting = false) ∧
      (settled (stateOf (bypassNears (gapWaiting (.prime false)))) = true ∧
        (bypassNears (gapWaiting (.prime false))).gapWaiting = true) := by decide +kernel

theorem witness_CuesChosen :
    (faceIn .auto).configured 2 = true ∧ (faceIn .auto).configured 3 = false ∧
      (served .auto .aligned).berth.state = .stopped ∧ (faceIn .auto).berth.state = .empty := by decide +kernel

/-- The full queue of section 10.6, in small: 63 reports leave room for one, 64 for none. -/
theorem witness_ReportQueued :
    let p (n : Nat) : Part := { (stateOf (faceIn .auto)).part with reports := List.replicate n supplyReport }
    let kept (n : Nat) := (p n).reports.filter fun y => decide (y.doorKey = none)
    (kept 63).length < 64 ∧ 64 ≤ (kept 64).length ∧
      (Report.counts .A 0 []).cls.ctorIdx < supplyReport.cls.ctorIdx := by decide +kernel

end Sys2Proof.Tests
end

/-! An absent face keeps its reset record (R1): the steps of a fire entry keep every closed predicate. -/

namespace Sys2Proof.Machine

section
variable {F : Face → Prop} {I : Part → Prop} (C : Closed F I) (f : Face) (hf : F f) {p : Part} (h : I p)
include C hf h

theorem fireAct_closed (d : DoorIx) : I (fireAct f d p) := by
  unfold fireAct; simp only
  split
  · exact returnToOpen_closed C f hf h d
  · exact returnToOpen_closed C f hf h d
  · split
    · exact reverseOrder_closed C f hf h d _
    · exact haltingStop_closed C f hf h d
  · split
    · exact reverseOrder_closed C f hf h d _
    · exact h
  · exact reverseOrder_closed C f hf h d _
  · exact h

theorem fireTable_closed (pick : FaceRec → List DoorState → List DoorIx) : I (fireTable f pick p) := by
  unfold fireTable
  have queued := forDoors_closed (I := I) (withdrawDoor f) (fun d q hq => withdrawDoor_closed C f hf hq d)
    (pick (p.face f) [.openQueued, .closeQueued]) h
  exact forDoors_closed (I := I) (fireAct f) (fun d q hq => fireAct_closed C f hf hq d) _ queued

theorem fireSteps_closed : I (fireSteps f p) := by
  have ended : I (endOpEarly f .fire (fireTable f FaceRec.targetsIn (leaveQueueAll f p))) :=
    endOpEarly_inv C.stillInv f hf _ (fireTable_closed C f hf (leaveQueueAll_closed C f h) _)
  have warned := rec_closed C f hf ended (fun r => { r with warning := none }) fun _ => ⟨rfl, rfl, rfl⟩
  have tabled := fireTable_closed C f hf warned FaceRec.doorsIn
  exact fireOpenTest_closed C f hf (abandonGap_closed C f hf (rec_closed C f hf tabled dropCloseFrames
    fun _ => ⟨rfl, rfl, rfl⟩)) _

omit h in
/-- A closed predicate that survives whatever becomes of an allowed face survives the face's entry to FIRE. -/
theorem enterFire_closed (any : ∀ g, I (p.modFace f g)) (c : ModeCause) : I (enterFire f c p) := by
  unfold enterFire
  exact fireSteps_closed C f hf (queueModeReport_closed C f (any _) _ _)

end

/-! ### The absent face -/

/-- Both faces are present; the strap is set at a reset alone. -/
theorem twoFaces_sentClosed : SentClosed (fun _ => True) fun p => p.straps.twoFaces = true := by
  have base : Closed (fun _ => True) fun p => p.straps.twoFaces = true :=
    { report := fun r p h => by obtain ⟨q, l, e⟩ := queueReport_eq r p; rw [e]; exact h
      mod := fun f g p _ _ h => by rw [Part.modFace_straps]; exact h
      shrink := fun _ _ _ _ _ h => h
      join := fun _ _ _ h => h
      start := fun _ _ _ _ h => h
      queued := fun _ _ _ _ => trivial
      supply := fun _ _ h => h
      fire := fun _ _ h => h
      profiles := fun _ _ h => h
      params := fun _ _ _ h => h
      present := fun _ _ _ _ => trivial
      away := fun _ _ _ n => absurd trivial n }
  exact
    { base with
      enterFire := fun f c p hf h => enterFire_closed base f hf (fun g => by rw [Part.modFace_straps]; exact h) c
      sent := fun _ _ _ _ h => h }

/-- Face B is absent and idle. -/
structure Part.WithoutB (p : Part) : Prop where
  strap : p.straps.twoFaces = false
  record : p.faceB = FaceRec.reset
  queue : ∀ e ∈ p.arb.queue, e.ref.face = .A
  starting : ∀ x ∈ p.arb.starting, x.face = .A

theorem Part.WithoutB.modA {p : Part} (h : p.WithoutB) {f : Face} (hf : f = .A) (g : FaceRec → FaceRec) :
    (p.modFace f g).WithoutB := by
  subst hf; exact ⟨h.strap, h.record, h.queue, h.starting⟩

/-- No command but a reset brings an absent face B to life: only face A is ever changed, queued or granted. -/
theorem withoutB_sentClosed : SentClosed (· = .A) Part.WithoutB := by
  have base : Closed (· = .A) Part.WithoutB :=
    { report := fun r p h => by
        obtain ⟨q, l, e⟩ := queueReport_eq r p
        rw [e]; exact ⟨h.strap, h.record, h.queue, h.starting⟩
      mod := fun f g p hf _ h => h.modA hf g
      shrink := fun q s p hq hs h =>
        ⟨h.strap, h.record, fun e he => h.queue e (hq.subset he), fun x hx => h.starting x (hs.subset hx)⟩
      join := fun e p hf h => ⟨h.strap, h.record, fun x hx => by
        rcases List.mem_append.mp hx with hx | hx
        · exact h.queue x hx
        · rw [List.mem_singleton.mp hx]; exact hf, h.starting⟩
      start := fun e p hf _ h => ⟨h.strap, h.record, fun x hx => h.queue x (List.mem_of_mem_filter hx), fun x hx => by
        rcases List.mem_append.mp hx with hx | hx
        · exact h.starting x hx
        · rw [List.mem_singleton.mp hx]; exact hf⟩
      queued := fun _ h e he => h.queue e he
      supply := fun _ _ h => ⟨h.strap, h.record, h.queue, h.starting⟩
      fire := fun _ _ h => ⟨h.strap, h.record, h.queue, h.starting⟩
      profiles := fun _ _ h => ⟨h.strap, h.record, h.queue, h.starting⟩
      params := fun _ _ _ h => ⟨h.strap, h.record, h.queue, h.starting⟩
      present := fun p f h hp => by
        cases f with
        | A => rfl
        | B => exact absurd (h.strap.symm.trans hp) nofun
      away := fun p f h hf => by
        cases f with
        | A => exact absurd rfl hf
        | B => exact h.record }
  exact
    { base with
      enterFire := fun f c p hf h => enterFire_closed base f hf (fun g => h.modA hf g) c
      sent := fun _ _ _ _ h => ⟨h.strap, h.record, h.queue, h.starting⟩ }

theorem Part.absentIdle_reset (straps : Straps) : (Part.reset straps).absentIdle :=
  fun _ => ⟨rfl, fun _ h => absurd h List.not_mem_nil, fun _ h => absurd h List.not_mem_nil⟩

theorem exec_absentIdle {s t : State} (c : Instr) (h : s.part.absentIdle) (e : exec c s = .next t) :
    t.part.absentIdle := by
  cases two : s.part.straps.twoFaces with
  | true =>
    rcases exec_closed_or twoFaces_sentClosed two c t e with kept | ⟨straps, reset⟩
    · exact fun off => absurd (kept.symm.trans off) nofun
    · rw [reset]; exact Part.absentIdle_reset straps
  | false =>
    obtain ⟨record, queue, starting⟩ := h two
    rcases exec_closed_or withoutB_sentClosed ⟨two, record, queue, starting⟩ c t e with kept | ⟨straps, reset⟩
    · exact fun _ => ⟨kept.record, kept.queue, kept.starting⟩
    · rw [reset]; exact Part.absentIdle_reset straps

/-- A step changes nothing or runs a command on the state with the rest of the queue. -/
theorem step_cases {s t : State} (e : step s = .next t) :
    t = s ∨ ∃ c rest, exec c { s with pending := rest } = .next t := by
  unfold step at e
  split at e
  · injection e with e; exact .inl e.symm
  · exact .inr ⟨_, _, e⟩

end Sys2Proof.Machine

namespace Sys2Proof.Proofs

open Sys2Proof.Machine

/-- Settles O7: a part without face B is closed under every operation on face A, and a part with both faces keeps its
strap. -/
theorem absentFaceStays : Obligations.AbsentFaceStays := by
  intro s t h e
  rcases step_cases e with rfl | ⟨c, rest, e⟩
  · exact h
  · exact exec_absentIdle (s := { s with pending := rest }) c h e

end Sys2Proof.Proofs

/-! The ledger: the parameters, attempts, gap reopens and axle counts of the faces, and the part-wide store (R8, R10 to
R12, R21, R91, R92). Nearly every operation leaves it as it stands; this file says so, one lemma for each. -/

namespace Sys2Proof.Machine

/-! ### The ledger -/

/-- The obstruction attempts and the gap reopens of a door. -/
def Door.tally (x : Door) : Nat × Nat := (x.attempts, x.gapReopens)

@[simp] theorem Door.tally_eq (x : Door) : x.tally = (x.attempts, x.gapReopens) := (rfl)

/-- The entries of a face: its parameters, its axle count and its doors' tallies. -/
structure FaceTally where
  params : FaceParams
  axles : Nat
  doors : DoorIx → Nat × Nat

/-- The entries of a face record. -/
def FaceRec.tally (r : FaceRec) : FaceTally := ⟨r.params, r.berth.axles, fun d => r.doors[d].tally⟩

/-- The entries of both faces, the profiles, the part parameters and the supply monitor. -/
structure Ledger where
  faces : Face → FaceTally
  profiles : Vector (Option Profile) 8
  params : PartParams
  supply : Supply

/-- The ledger of a part. -/
def Part.ledger (p : Part) : Ledger := ⟨fun f => (p.face f).tally, p.profiles, p.params, p.supply⟩

theorem Part.ite_ledger (c : Prop) [Decidable c] (a b : Part) :
    (if c then a else b).ledger = if c then a.ledger else b.ledger := apply_ite Part.ledger c a b

/-! ### Changes of a face record -/

/-- A face rebuilt with the parameters, berth and doors of `r` has the entries of `r`, whatever its other fields. -/
@[simp] theorem FaceRec.tally_mk (r : FaceRec) (g : Option Geometry) (c : Vector MotionClass 4) (a : AlignRec) (l : Link)
    (h : Vector Health 24) (s : Vector Sense 24) (o : Option Op) (w : Timer) (n : Bool) (gp : GapRec) (m : ModeRec)
    (se : Bool) : FaceRec.tally ⟨g, c, r.params, r.berth, a, l, h, r.doors, s, o, w, n, gp, m, se⟩ = r.tally := (rfl)

@[simp] theorem FaceRec.modLink_tally (r : FaceRec) (g : Link → Link) : (r.modLink g).tally = r.tally := (rfl)
@[simp] theorem FaceRec.modGap_tally (r : FaceRec) (g : GapRec → GapRec) : (r.modGap g).tally = r.tally := (rfl)
@[simp] theorem FaceRec.modMode_tally (r : FaceRec) (g : ModeRec → ModeRec) : (r.modMode g).tally = r.tally := (rfl)
@[simp] theorem FaceRec.modHealth_tally (r : FaceRec) (d : DoorIx) (g : Health → Health) :
    (r.modHealth d g).tally = r.tally := (rfl)
@[simp] theorem FaceRec.modSense_tally (r : FaceRec) (d : DoorIx) (g : Sense → Sense) :
    (r.modSense d g).tally = r.tally := (rfl)
@[simp] theorem FaceRec.dropNotice_tally (r : FaceRec) : r.dropNotice.tally = r.tally := (rfl)

@[simp] theorem FaceRec.modBerth_tally (r : FaceRec) (g : Berth → Berth) (h : (g r.berth).axles = r.berth.axles) :
    (r.modBerth g).tally = r.tally := by simp only [FaceRec.tally, modBerth_params, modBerth_berth, modBerth_doors, h]

@[simp] theorem FaceRec.modDoor_tally (r : FaceRec) (d : DoorIx) (g : Door → Door)
    (h : (g r.doors[d.val]).tally = r.doors[d.val].tally) : (r.modDoor d g).tally = r.tally := by
  have each : ∀ e : DoorIx, (r.modDoor d g).doors[e.val].tally = r.doors[e.val].tally := fun e => by
    rw [FaceRec.modDoor_doors]
    split
    · next q => subst q; exact h
    · rfl
  simp only [FaceRec.tally, Fin.getElem_fin, each, modDoor_params, modDoor_berth]

/-- What the end of an event leaves still holds the entries of the face. -/
theorem FaceRec.tally_of_still {r q : FaceRec} (h : q.still = r.still) : q.tally = r.tally := by
  simp only [FaceRec.still, FaceRec.config, Prod.mk.injEq] at h
  obtain ⟨⟨_, _, params⟩, _, doors, _, berth, _⟩ := h
  have axles : q.berth.axles = r.berth.axles := (congrArg Berth.axles berth :)
  have tallies : (fun d : DoorIx => q.doors[d].tally) = fun d : DoorIx => r.doors[d].tally :=
    funext fun d => (congrArg Door.tally (congrFun doors d) :)
  simp only [FaceRec.tally, params, axles, tallies]

@[simp] theorem chooseCue_tally (d : DoorIx) (r : FaceRec) : (chooseCue d r).tally = r.tally :=
  FaceRec.tally_of_still (chooseCue_still d r)

@[simp] theorem handCue_tally (d : DoorIx) (c : Cue) (r : FaceRec) : (handCue d c r).tally = r.tally :=
  FaceRec.tally_of_still (handCue_still d c r)

theorem FaceRec.ite_tally (c : Prop) [Decidable c] (a b : FaceRec) :
    (if c then a else b).tally = if c then a.tally else b.tally := apply_ite FaceRec.tally c a b

theorem foldl_tally {α : Type} (g : FaceRec → α → FaceRec) (h : ∀ r a, (g r a).tally = r.tally) (xs : List α)
    (r : FaceRec) : (xs.foldl g r).tally = r.tally := foldl_keeps FaceRec.tally g h xs r

@[simp] theorem placeMove_tally (a : LinkAction) (ts : List MoveTarget) (r : FaceRec) :
    (r.placeMove a ts).tally = r.tally := by simp [FaceRec.placeMove, FaceRec.ite_tally]

@[simp] theorem placeStop_tally (d : DoorIx) (r : FaceRec) : (r.placeStop d).tally = r.tally := by
  simp [FaceRec.placeStop, FaceRec.ite_tally]

@[simp] theorem endCycles_tally (r : FaceRec) : (endCycles r).tally = r.tally := (rfl)
@[simp] theorem leaveOp_tally (d : DoorIx) (o : DoorOutcome) (r : FaceRec) : (leaveOp d o r).tally = r.tally := (rfl)
@[simp] theorem sequencerNotice_tally (d : DoorIx) (x : Door) (r : FaceRec) :
    (sequencerNotice d x r).tally = r.tally := (rfl)
@[simp] theorem wakeLink_tally (r : FaceRec) : (wakeLink r).tally = r.tally := (rfl)
@[simp] theorem standbyLink_tally (r : FaceRec) : (standbyLink r).tally = r.tally := (rfl)
@[simp] theorem restartSettle_tally (r : FaceRec) : (restartSettle r).tally = r.tally := (rfl)
@[simp] theorem resetHealth_tally (r : FaceRec) : (resetHealth r).tally = r.tally := (rfl)
@[simp] theorem modPanel_tally (g : Panel → Panel) (r : FaceRec) : (modPanel g r).tally = r.tally := (rfl)
@[simp] theorem dropCloseFrames_tally (r : FaceRec) : (dropCloseFrames r).tally = r.tally := (rfl)
@[simp] theorem openingTest_tally (r : FaceRec) : (openingTest r).tally = r.tally := (rfl)
@[simp] theorem primeTrack_tally (s : TrackSample) (r : FaceRec) : (primeTrack s r).tally = r.tally := (rfl)

@[simp] theorem noticeTest_tally (r : FaceRec) : (noticeTest r).tally = r.tally := by
  unfold noticeTest; split <;> rfl

@[simp] theorem dropCloseResends_tally (r : FaceRec) : (dropCloseResends r).tally = r.tally :=
  foldl_tally _ (fun r d => r.modHealth_tally d _) _ r

@[simp] theorem enterRunning_tally (r : FaceRec) : (enterRunning r).tally = r.tally :=
  foldl_tally _ (fun r d => handCue_tally d _ r) _ _

@[simp] theorem handVerdict_tally (a : AlignRec) (d : DoorIx) (r : FaceRec) : (handVerdict a d r).tally = r.tally := by
  simp [handVerdict]

/-! ### Door records -/

@[simp] theorem Door.closeLocked_tally (x : Door) : x.closeLocked.tally = x.tally := (rfl)
@[simp] theorem Door.standOpen_tally (b : Bool) (x : Door) : (x.standOpen b).tally = x.tally := (rfl)
@[simp] theorem Door.granted_tally (a : Action) (s t : Nat) (x : Door) : (x.granted a s t).tally = x.tally := (rfl)
@[simp] theorem Door.enumerated_tally (x : Door) : x.enumerated.tally = x.tally := (rfl)
@[simp] theorem Door.reconfigured_tally (x : Door) : x.reconfigured.tally = x.tally := (rfl)

@[simp] theorem Door.withdrawn_tally (x : Door) : x.withdrawn.tally = x.tally := by
  unfold Door.withdrawn; repeat' split
  all_goals rfl

@[simp] theorem Door.keyFollow_tally (rep : DoorReport) (x : Door) : (x.keyFollow rep).tally = x.tally := by
  unfold Door.keyFollow; repeat' split
  all_goals rfl

/-! ### Changes of a part -/

/-- A part rebuilt with the faces, profiles, parameters and supply monitor of `p` has the ledger of `p`. -/
@[simp] theorem Part.ledger_mk (p : Part) (st : Straps) (ar : Arbiter) (fi : Fire) (re : List Report) (lo : Bool) :
    Part.ledger ⟨p.faceA, p.faceB, st, p.profiles, p.params, ar, p.supply, fi, re, lo⟩ = p.ledger := by
  simp [Part.ledger]

@[simp] theorem Part.modFace_ledger (p : Part) (f : Face) (g : FaceRec → FaceRec)
    (h : (g (p.face f)).tally = (p.face f).tally) : (p.modFace f g).ledger = p.ledger := by
  have each : ∀ f', ((p.modFace f g).face f').tally = (p.face f').tally := fun f' => by
    rw [Part.modFace_face]
    split
    · next q => subst q; exact h
    · rfl
  simp only [Part.ledger, each, Part.modFace_profiles, Part.modFace_params, Part.modFace_supply]

@[simp] theorem queueReport_ledger (r : Report) (p : Part) : (queueReport r p).ledger = p.ledger := by
  obtain ⟨q, l, h⟩ := queueReport_eq r p
  rw [h, Part.ledger_mk]

theorem forDoors_ledger (op : DoorIx → Part → Part) (h : ∀ d p, (op d p).ledger = p.ledger) (ds : List DoorIx)
    (p : Part) : (forDoors ds op p).ledger = p.ledger := foldl_keeps Part.ledger _ (fun p d => h d p) ds p

/-- A ledger is kept by whatever leaves the faces still. -/
theorem ledger_stillInv (l : Ledger) : StillInv (fun _ => True) fun p => p.ledger = l where
  report r p h := (queueReport_ledger r p).trans h
  mod f g p _ calm h := (p.modFace_ledger f g (FaceRec.tally_of_still (calm _).1)).trans h

/-! ### The notices -/

section
variable (f : Face) (p : Part)

@[simp] theorem recomputeSecured_ledger (c : SecuredCause) (b : Bool) : (recomputeSecured f c b p).ledger = p.ledger :=
  recomputeSecured_inv (ledger_stillInv _) f trivial c b rfl

@[simp] theorem queueGapReport_ledger (a : GapState) (c : GapCause) (d : Option DoorIx) :
    (queueGapReport f a c d p).ledger = p.ledger := queueGapReport_inv (ledger_stillInv _) f trivial a c d rfl

@[simp] theorem gapTo_ledger (new : GapState) (c : GapCause) (d : Option DoorIx) :
    (gapTo f new c d p).ledger = p.ledger := gapTo_inv (ledger_stillInv _) f trivial new c d rfl

@[simp] theorem gapPending_ledger (c : GapCause) (d : Option DoorIx) : (gapPending f c d p).ledger = p.ledger :=
  gapPending_inv (ledger_stillInv _) f trivial c d rfl

@[simp] theorem queueModeReport_ledger (m : FaceMode) (c : ModeCause) : (queueModeReport f m c p).ledger = p.ledger :=
  queueModeReport_inv (ledger_stillInv _) f trivial m c rfl

@[simp] theorem takeLocalRequest_ledger : (takeLocalRequest f p).ledger = p.ledger :=
  takeLocalRequest_inv (ledger_stillInv _) f trivial rfl

@[simp] theorem enterAuto_ledger (c : ModeCause) : (enterAuto f c p).ledger = p.ledger :=
  enterAuto_inv (ledger_stillInv _) f trivial c rfl

@[simp] theorem wakeFace_ledger : (wakeFace f p).ledger = p.ledger := wakeFace_inv (ledger_stillInv _) f trivial rfl

@[simp] theorem enterBerth_ledger (new : BerthState) (c : BerthCause) : (enterBerth f new c p).ledger = p.ledger :=
  enterBerth_inv (ledger_stillInv _) f trivial new c rfl

@[simp] theorem endOpEarly_ledger (c : EndCause) : (endOpEarly f c p).ledger = p.ledger :=
  endOpEarly_inv (ledger_stillInv _) f trivial c rfl

@[simp] theorem concludeGap_ledger (g : GapOutcome) : (concludeGap f g p).ledger = p.ledger :=
  concludeGap_inv (ledger_stillInv _) f trivial g rfl

@[simp] theorem seqCheck_ledger : (seqCheck f p).ledger = p.ledger := seqCheck_inv (ledger_stillInv _) f trivial rfl

omit f in
@[simp] theorem settle_ledger : (settle p).ledger = p.ledger :=
  settle_inv (ledger_stillInv _) (fun _ => trivial) rfl

@[simp] theorem doorGap_ledger (d : DoorIx) (new : DoorState) : (doorGap f d new p).ledger = p.ledger := by
  unfold doorGap; simp only
  repeat' split
  all_goals simp

/-- A change of a door writes to the ledger what it makes of the door's record. -/
theorem changeDoor_ledger_eq (d : DoorIx) (c : DoorCause) (g : Door → Door) :
    (changeDoor f d c g p).ledger = (p.modFace f fun r => r.modDoor d fun _ => g (p.face f).doors[d.val]).ledger := by
  simp [changeDoor, Part.ite_ledger]

@[simp] theorem changeDoor_ledger (d : DoorIx) (c : DoorCause) (g : Door → Door) (h : ∀ x, (g x).tally = x.tally) :
    (changeDoor f d c g p).ledger = p.ledger := by
  rw [changeDoor_ledger_eq]
  exact p.modFace_ledger f _ (FaceRec.modDoor_tally _ _ _ (h _))

/-! ### The start arbiter -/

@[simp] theorem onDoor_ledger (d : DoorIx) (g : Door → Door) (h : ∀ x, (g x).tally = x.tally) :
    (onDoor f d g p).ledger = p.ledger := p.modFace_ledger f _ (FaceRec.modDoor_tally _ _ _ (h _))

omit f in
@[simp] theorem joinQueue_ledger (e : QEntry) : (joinQueue e p).ledger = p.ledger := p.ledger_mk ..

omit f in
@[simp] theorem grantDoor_ledger (e : QEntry) (c : Codes) : (grantDoor e c p).ledger = p.ledger := by
  simp [grantDoor, -Door.tally_eq]

omit f p in
theorem grantLoop_ledger (n : Nat) (gs : List Grant) (p : Part) : (grantLoop n gs p).1.ledger = p.ledger := by
  induction n generalizing gs p with
  | zero => rfl
  | succ n ih =>
    unfold grantLoop
    repeat' split
    · rfl
    · rw [ih, grantDoor_ledger]
    · rfl

omit f in
@[simp] theorem issueGrants_ledger (gs : List Grant) : (issueGrants gs p).ledger = p.ledger := by
  unfold issueGrants
  exact foldl_keeps Part.ledger _ (fun p k => Part.modFace_ledger _ _ _ (placeMove_tally _ _ _)) _ p

omit f in
@[simp] theorem grantEvent_ledger : (grantEvent p).ledger = p.ledger := by
  simp [grantEvent, grantLoop_ledger]

@[simp] theorem endStart_ledger (d : DoorIx) : (endStart f d p).ledger = p.ledger := by
  simp [endStart, Part.ite_ledger]

@[simp] theorem leaveMachinery_ledger (d : DoorIx) : (leaveMachinery f d p).ledger = p.ledger := by
  simp [leaveMachinery]

@[simp] theorem leaveQueueAll_ledger : (leaveQueueAll f p).ledger = p.ledger := p.ledger_mk ..

@[simp] theorem leaveMachineryAll_ledger : (leaveMachineryAll f p).ledger = p.ledger := by
  simp [leaveMachineryAll, forDoors_ledger]

/-! ### The door table -/

@[simp] theorem leaveOperation_ledger (d : DoorIx) (o : DoorOutcome) : (leaveOperation f d o p).ledger = p.ledger := by
  simp [leaveOperation]

@[simp] theorem issueStop_ledger (d : DoorIx) : (issueStop f d p).ledger = p.ledger := by
  simp [issueStop, Part.ite_ledger]

@[simp] theorem issueReverse_ledger (d : DoorIx) : (issueReverse f d p).ledger = p.ledger := by
  simp [issueReverse]

@[simp] theorem enterDiscrepant_ledger (d : DoorIx) (w : DiscCause) (t : DoorCause) (s : Bool) :
    (enterDiscrepant f d w t s p).ledger = p.ledger := by
  simp [enterDiscrepant, Part.ite_ledger]

@[simp] theorem releaseDoor_ledger (d : DoorIx) (t : DoorCause) : (releaseDoor f d t p).ledger = p.ledger := by
  simp [releaseDoor, Part.ite_ledger]

@[simp] theorem clearLatch_ledger (d : DoorIx) (c : ClearCause) (t : DoorCause) :
    (clearLatch f d c t p).ledger = p.ledger := by
  simp [clearLatch, Door.closeLocked]

@[simp] theorem openOrder_ledger (d : DoorIx) (k : OrderKind) (t : DoorCause) :
    (openOrder f d k t p).ledger = p.ledger := by
  simp [openOrder, Part.ite_ledger]

@[simp] theorem withdrawDoor_ledger (d : DoorIx) : (withdrawDoor f d p).ledger = p.ledger := by
  unfold withdrawDoor
  split <;> simp [-Door.tally_eq]

@[simp] theorem beginWarning_ledger (d : DoorIx) : (beginWarning f d p).ledger = p.ledger := by
  simp [beginWarning, Part.ite_ledger]

@[simp] theorem queueClose_ledger (d : DoorIx) (k : OrderKind) (t : DoorCause) :
    (queueClose f d k t p).ledger = p.ledger := by
  simp [queueClose]

@[simp] theorem closeOrder_ledger (d : DoorIx) (k : OrderKind) (t : DoorCause) :
    (closeOrder f d k t p).ledger = p.ledger := by
  simp [closeOrder, Part.ite_ledger]

@[simp] theorem holdOrder_ledger (d : DoorIx) : (holdOrder f d p).ledger = p.ledger := by
  simp [holdOrder, Part.ite_ledger]

@[simp] theorem returnToOpen_ledger (d : DoorIx) : (returnToOpen f d p).ledger = p.ledger := by
  unfold returnToOpen
  split <;> simp [Door.standOpen]

@[simp] theorem enterReopening_ledger (d : DoorIx) (w : ReopenCause) (t : DoorCause) :
    (enterReopening f d w t p).ledger = p.ledger := by
  simp [enterReopening]

@[simp] theorem reverseOrder_ledger (d : DoorIx) (w : ReopenCause) : (reverseOrder f d w p).ledger = p.ledger := by
  unfold reverseOrder; simp only
  repeat' split
  all_goals simp [Door.standOpen]

@[simp] theorem haltingStop_ledger (d : DoorIx) : (haltingStop f d p).ledger = p.ledger := by
  unfold haltingStop; simp only
  repeat' split
  all_goals simp [Door.standOpen]

@[simp] theorem takeoverStop_ledger (d : DoorIx) : (takeoverStop f d p).ledger = p.ledger := by
  unfold takeoverStop; simp only
  repeat' split
  all_goals simp

@[simp] theorem enterLost_ledger (d : DoorIx) : (enterLost f d p).ledger = p.ledger := by
  simp [enterLost]

@[simp] theorem setLate_ledger (d : DoorIx) (b : Bool) : (setLate f d b p).ledger = p.ledger := by
  simp [setLate]

@[simp] theorem doorsEnumerated_ledger : (doorsEnumerated f p).ledger = p.ledger := by
  simp [doorsEnumerated, forDoors_ledger, -Door.tally_eq]

@[simp] theorem unlockExpiry_ledger (d : DoorIx) : (unlockExpiry f d p).ledger = p.ledger := by
  simp [unlockExpiry, Part.ite_ledger]

@[simp] theorem motionExpiry_ledger (d : DoorIx) : (motionExpiry f d p).ledger = p.ledger := by
  unfold motionExpiry; simp only
  repeat' split
  all_goals simp

@[simp] theorem lockProofExpiry_ledger (d : DoorIx) : (lockProofExpiry f d p).ledger = p.ledger := by
  simp [lockProofExpiry, Part.ite_ledger]

@[simp] theorem pauseExpiry_ledger (d : DoorIx) : (pauseExpiry f d p).ledger = p.ledger := by
  simp [pauseExpiry, Part.ite_ledger, Door.standOpen]

@[simp] theorem startExpiry_ledger (d : DoorIx) : (startExpiry f d p).ledger = p.ledger := by
  simp [startExpiry, Part.ite_ledger]

end

end Sys2Proof.Machine

/-! The ledger under the face sequencer, the passenger sensing unit, the alignment unit, the door table's reports, the
door link and the face modes. -/

namespace Sys2Proof.Machine

section
variable (f : Face) (p : Part)

/-! ### The face sequencer -/

@[simp] theorem berthOpenNotice_ledger : (berthOpenNotice f p).ledger = p.ledger := by
  unfold berthOpenNotice; simp only
  split <;> simp

@[simp] theorem abandonGap_ledger : (abandonGap f p).ledger = p.ledger := by
  unfold abandonGap; simp only
  split <;> simp

@[simp] theorem overtakeClose_ledger (q : OpenReq) : (overtakeClose f q p).1.ledger = p.ledger := by
  unfold overtakeClose
  repeat' split
  all_goals simp [forDoors_ledger]

@[simp] theorem takeOpen_ledger (q : OpenReq) : (takeOpen f q p).ledger = p.ledger := by
  simp [takeOpen, forDoors_ledger]

@[simp] theorem overtakeOpen_ledger : (overtakeOpen f p).ledger = p.ledger := by
  simp [overtakeOpen, Part.ite_ledger, forDoors_ledger]

@[simp] theorem leadToClose_ledger (d : DoorIx) : (leadToClose f d p).ledger = p.ledger := by
  unfold leadToClose
  split <;> simp

@[simp] theorem takeClose_ledger (s : OpSource) (tag : Byte) : (takeClose f s tag p).ledger = p.ledger := by
  simp [takeClose, forDoors_ledger]

@[simp] theorem afterWarning_ledger (d : DoorIx) : (afterWarning f d p).ledger = p.ledger := by
  simp [afterWarning, Part.ite_ledger]

@[simp] theorem warningExpiry_ledger : (warningExpiry f p).ledger = p.ledger := by
  simp [warningExpiry, Part.ite_ledger, forDoors_ledger]

@[simp] theorem rewarn_ledger (d : DoorIx) : (rewarn f d p).ledger = p.ledger := by
  simp [rewarn]

@[simp] theorem sequencerRolling_ledger : (sequencerRolling f p).ledger = p.ledger := by
  simp [sequencerRolling, forDoors_ledger]

@[simp] theorem sequencerEmpty_ledger : (sequencerEmpty f p).ledger = p.ledger := by
  unfold sequencerEmpty
  repeat' split
  all_goals simp [forDoors_ledger]

@[simp] theorem fireOrders_ledger (ds : List DoorIx) : (fireOrders f ds p).ledger = p.ledger := by
  simp [fireOrders, forDoors_ledger]

@[simp] theorem fireOpenTest_ledger (ds : List DoorIx) : (fireOpenTest f ds p).ledger = p.ledger := by
  unfold fireOpenTest; simp only
  repeat' split
  all_goals simp

/-! ### The passenger sensing unit -/

@[simp] theorem gapFails_ledger (c : GapCause) (d : Option DoorIx) : (gapFails f c d p).ledger = p.ledger := by
  simp [gapFails]

@[simp] theorem settleHeld_ledger (d : DoorIx) : (settleHeld f d p).ledger = p.ledger := by
  simp [settleHeld]

@[simp] theorem quietExpiry_ledger (d : DoorIx) : (quietExpiry f d p).ledger = p.ledger := by
  simp [quietExpiry, Part.ite_ledger]

@[simp] theorem holdExpiry_ledger (d : DoorIx) : (holdExpiry f d p).ledger = p.ledger := by
  simp [holdExpiry, Part.ite_ledger]

@[simp] theorem endBeamSample_ledger (b : EndBeam) (x : Bool) : (endBeamSample f b x p).ledger = p.ledger := by
  simp [endBeamSample, Part.ite_ledger]

@[simp] theorem gapExpiry_ledger : (gapExpiry f p).ledger = p.ledger := by
  simp [gapExpiry, Part.ite_ledger]

@[simp] theorem endGapCheck_ledger (c : GapCause) : (endGapCheck f c p).ledger = p.ledger := by
  simp [endGapCheck]

@[simp] theorem queueCounts_ledger : (queueCounts f p).ledger = p.ledger := by
  simp [queueCounts]

/-! ### The alignment unit -/

@[simp] theorem writeAlign_ledger (a : AlignRec) : (writeAlign f a p).ledger = p.ledger :=
  p.modFace_ledger f _ (foldl_tally _ (fun r d => handVerdict_tally a d r) _ _)

@[simp] theorem noticeArrives_ledger : (noticeArrives f p).ledger = p.ledger := by
  unfold noticeArrives takeNotice; simp only
  repeat' split
  all_goals simp

@[simp] theorem computeAlign_ledger (c : AlignCause) : (computeAlign f c p).ledger = p.ledger := by
  simp [computeAlign]

@[simp] theorem clearAlign_ledger (c : AlignCause) : (clearAlign f c p).ledger = p.ledger := by
  simp [clearAlign]

@[simp] theorem moveAlign_ledger (c : AlignCause) : (moveAlign f c p).ledger = p.ledger := by
  simp [moveAlign]

/-! ### The berth monitor, where it leaves the axle count alone -/

@[simp] theorem enterStopped_ledger (c : BerthCause) : (enterStopped f c p).ledger = p.ledger := by
  simp [enterStopped]

@[simp] theorem enterRolling_ledger : (enterRolling f p).ledger = p.ledger := by
  simp [enterRolling]

@[simp] theorem enterDeparting_ledger : (enterDeparting f p).ledger = p.ledger := by
  simp [enterDeparting]

@[simp] theorem queueAxleFault_ledger (s : AxleSensor) (x : AxleFault) (m : Option (AxlePos × AxlePos)) :
    (queueAxleFault f s x m p).ledger = p.ledger := by
  simp [queueAxleFault]

/-! ### Reports and requests at the door table -/

@[simp] theorem beginKey_ledger (d : DoorIx) : (beginKey f d p).ledger = p.ledger := by
  simp [beginKey]

@[simp] theorem classify_ledger (d : DoorIx) (rep : DoorReport) : (classify f d rep p).ledger = p.ledger := by
  simp [classify, Part.ite_ledger, -Door.tally_eq]

@[simp] theorem uncommanded_ledger (d : DoorIx) (rep : DoorReport) : (uncommanded f d rep p).ledger = p.ledger := by
  simp [uncommanded, Part.ite_ledger]

@[simp] theorem opensTo_ledger (d : DoorIx) (b : Bool) : (opensTo f d b p).ledger = p.ledger := by
  simp [opensTo, -Door.tally_eq]

@[simp] theorem judgeUnlocking_ledger (d : DoorIx) (rep : DoorReport) :
    (judgeUnlocking f d rep p).ledger = p.ledger := by
  simp [judgeUnlocking, Part.ite_ledger]

@[simp] theorem judgeOpening_ledger (d : DoorIx) (rep : DoorReport) : (judgeOpening f d rep p).ledger = p.ledger := by
  simp [judgeOpening, Part.ite_ledger]

@[simp] theorem judgeProving_ledger (d : DoorIx) (rep : DoorReport) : (judgeProving f d rep p).ledger = p.ledger := by
  simp [judgeProving, Part.ite_ledger, -Door.tally_eq]

@[simp] theorem judgeReopening_ledger (d : DoorIx) (rep : DoorReport) :
    (judgeReopening f d rep p).ledger = p.ledger := by
  simp [judgeReopening, Part.ite_ledger]

@[simp] theorem judgeStart_ledger (d : DoorIx) (rep : DoorReport) : (judgeStart f d rep p).ledger = p.ledger := by
  simp [judgeStart, Part.ite_ledger]

@[simp] theorem fireDoorTest_ledger (d : DoorIx) (x : Door) : (fireDoorTest f d x p).ledger = p.ledger := by
  simp [fireDoorTest, Part.ite_ledger]

@[simp] theorem storeReport_ledger (d : DoorIx) (rep : DoorReport) : (storeReport f d rep p).ledger = p.ledger := by
  simp [storeReport]

@[simp] theorem setHostIso_ledger (d : DoorIx) (b : Bool) : (setHostIso f d b p).ledger = p.ledger := by
  simp [setHostIso]

@[simp] theorem doorIsolate_ledger (d : Byte) : (doorIsolate f d p).2.ledger = p.ledger := by
  unfold doorIsolate
  repeat' split
  all_goals simp

@[simp] theorem doorReadmit_ledger (d : Byte) : (doorReadmit f d p).2.ledger = p.ledger := by
  unfold doorReadmit
  split <;> simp

@[simp] theorem panelDoorReset_ledger : (panelDoorReset f p).ledger = p.ledger := by
  simp [panelDoorReset, forDoors_ledger]

/-! ### The door link -/

@[simp] theorem startEnumeration_ledger (tag : Byte) (b : Bool) : (startEnumeration f tag b p).ledger = p.ledger := by
  simp [startEnumeration]

@[simp] theorem chainResetExpiry_ledger : (chainResetExpiry f p).ledger = p.ledger := by
  simp [chainResetExpiry, Part.ite_ledger]

@[simp] theorem chainSettleExpiry_ledger : (chainSettleExpiry f p).ledger = p.ledger := by
  simp [chainSettleExpiry, Part.ite_ledger, foldl_tally]

@[simp] theorem standbyExpiry_ledger : (standbyExpiry f p).ledger = p.ledger := by
  simp [standbyExpiry, Part.ite_ledger]

@[simp] theorem flashExpiry_ledger : (flashExpiry f p).ledger = p.ledger := by
  simp [flashExpiry, Part.ite_ledger]

@[simp] theorem frameSent_ledger : (frameSent f p).ledger = p.ledger := by
  simp [frameSent]

@[simp] theorem setFaceMode_ledger (m tag : Byte) : (setFaceMode f m tag p).2.ledger = p.ledger := by
  unfold setFaceMode; simp only
  repeat' split
  all_goals simp [modeByRequest, enterStandby]

@[simp] theorem enumerateFace_ledger (tag : Byte) : (enumerateFace f tag p).2.ledger = p.ledger := by
  unfold enumerateFace; simp only
  repeat' split
  all_goals simp

/-! ### Fire -/

@[simp] theorem fireAct_ledger (d : DoorIx) : (fireAct f d p).ledger = p.ledger := by
  unfold fireAct; simp only
  repeat' split
  all_goals simp

@[simp] theorem fireTable_ledger (pick : FaceRec → List DoorState → List DoorIx) :
    (fireTable f pick p).ledger = p.ledger := by
  simp [fireTable, forDoors_ledger]

@[simp] theorem fireSteps_ledger : (fireSteps f p).ledger = p.ledger := by
  simp [fireSteps]

@[simp] theorem enterFire_ledger (c : ModeCause) : (enterFire f c p).ledger = p.ledger := by
  simp [enterFire, FaceRec.ite_tally]

@[simp] theorem faceFireEntry_ledger (c : ModeCause) : (faceFireEntry c f p).ledger = p.ledger := by
  unfold faceFireEntry
  repeat' split
  all_goals simp

omit f in
@[simp] theorem fireEntry_ledger (c : FireCause) : (fireEntry c p).ledger = p.ledger := by
  simp [fireEntry, Part.ite_ledger]

@[simp] theorem faceFireExit_ledger : (faceFireExit f p).ledger = p.ledger := by
  simp [faceFireExit, Part.ite_ledger]

omit f in
@[simp] theorem fireExit_ledger : (fireExit p).ledger = p.ledger := by
  simp [fireExit]

omit f in
@[simp] theorem fireInSample_ledger (b : Bool) : (fireInSample b p).ledger = p.ledger := by
  simp [fireInSample, Part.ite_ledger]

omit f in
@[simp] theorem fireResetSample_ledger (b : Bool) : (fireResetSample b p).ledger = p.ledger := by
  simp [fireResetSample, Part.ite_ledger]

omit f in
@[simp] theorem fireFall_ledger (i : FireInput) : (fireFall i p).ledger = p.ledger := by
  cases i <;> simp [fireFall]

/-! ### Modes and the panel -/

@[simp] theorem enumerationCompleted_ledger : (enumerationCompleted f p).ledger = p.ledger := by
  unfold enumerationCompleted; simp only
  repeat' split
  all_goals simp

@[simp] theorem wakeRoundEnded_ledger : (wakeRoundEnded f p).ledger = p.ledger := by
  simp [wakeRoundEnded, FaceRec.ite_tally]

@[simp] theorem maintMove_ledger (d : Byte) (b : Bool) : (maintMove f d b p).2.ledger = p.ledger := by
  unfold maintMove; simp only
  repeat' split
  all_goals simp

@[simp] theorem localActive_ledger : (localActive f p).ledger = p.ledger := by
  unfold localActive; simp only
  split <;> simp [Part.ite_ledger]

@[simp] theorem localDropped_ledger : (localDropped f p).ledger = p.ledger := by
  simp [localDropped, Part.ite_ledger]

@[simp] theorem localSample_ledger (b : Bool) : (localSample f b p).ledger = p.ledger := by
  simp [localSample, Part.ite_ledger]

@[simp] theorem panelOpen_ledger (s : OpSource) : (panelOpen f s p).ledger = p.ledger := by
  unfold panelOpen; simp only
  split <;> simp

@[simp] theorem panelClose_ledger : (panelClose f p).ledger = p.ledger := by
  unfold panelClose
  split <;> simp

@[simp] theorem openButtonSample_ledger (b : Bool) : (openButtonSample f b p).ledger = p.ledger := by
  simp [openButtonSample, openEdge, Part.ite_ledger]

@[simp] theorem closeButtonSample_ledger (b : Bool) : (closeButtonSample f b p).ledger = p.ledger := by
  simp [closeButtonSample, closeEdge, Part.ite_ledger]

@[simp] theorem allButtonSample_ledger (b : Bool) : (allButtonSample f b p).ledger = p.ledger := by
  simp [allButtonSample]

@[simp] theorem proofBypassChanged_ledger : (proofBypassChanged f p).ledger = p.ledger := by
  simp [proofBypassChanged]

@[simp] theorem gapBypassChanged_ledger : (gapBypassChanged f p).ledger = p.ledger := by
  simp [gapBypassChanged, Part.ite_ledger]

@[simp] theorem proofBypassSample_ledger (b : Bool) : (proofBypassSample f b p).ledger = p.ledger := by
  simp [proofBypassSample, Part.ite_ledger]

@[simp] theorem gapBypassSample_ledger (b : Bool) : (gapBypassSample f b p).ledger = p.ledger := by
  simp [gapBypassSample, Part.ite_ledger]

@[simp] theorem primePanel_ledger (s : PanelLevels) : (primePanel f s p).ledger = p.ledger := by
  simp [primePanel, Part.ite_ledger]

omit f in
@[simp] theorem resetSample_ledger (s : ResetSample) : (resetSample s p).ledger = p.ledger := by
  simp [resetSample, Part.ite_ledger]

/-! ### The poll cycle, where it hands no report over -/

@[simp] theorem sweepPollEnd_ledger (pos : Nat) (o : PollOutcome) : (sweepPollEnd f pos o p).ledger = p.ledger := by
  cases o <;> simp [sweepPollEnd, sweepDone, Part.ite_ledger]

@[simp] theorem runMissed_ledger (d : DoorIx) (x : LostReason) : (runMissed f d x p).ledger = p.ledger := by
  unfold runMissed runLost
  split <;> simp

@[simp] theorem roundStep_ledger (x : Pace) (pos : Nat) : (roundStep f x pos p).ledger = p.ledger := by
  unfold roundStep; simp only
  split <;> simp [Part.ite_ledger]

/-! ### Opening and closing requests, and the motion classes -/

@[simp] theorem serveOpen_ledger (tag : Byte) (pl : List Byte) : (serveOpen f tag pl p).part.ledger = p.ledger := by
  unfold serveOpen; simp only
  split <;> simp [Served.refused]

@[simp] theorem serveClose_ledger (tag : Byte) : (serveClose f tag p).part.ledger = p.ledger := by
  unfold serveClose
  split <;> simp [Served.refused]

@[simp] theorem loadClasses_ledger (cs : Vector MotionClass 4) : (loadClasses f cs p).2.ledger = p.ledger := by
  unfold loadClasses
  repeat' split
  all_goals simp

end

end Sys2Proof.Machine

/-! The limits of the ledger (R8, R10, R11, R21, R91, R92): the operations that write to it keep them, and so does every
command. -/

namespace Sys2Proof.Machine

/-! ### The limits -/

/-- The parameters stand within their ranges, the attempts within N_obst and the gap reopens within 2 (R10, R11, R91). -/
structure FaceTally.Counted (t : FaceTally) : Prop where
  params : t.params.InRange
  doors : ∀ d, (t.doors d).1 ≤ t.params.nObst ∧ (t.doors d).2 ≤ 2

/-- The limits that stand after an operation where they stood before it. -/
structure Ledger.Keeps (l m : Ledger) : Prop where
  counts : (∀ f, (l.faces f).Counted) → ∀ f, (m.faces f).Counted
  profiles : (∀ i : Fin 8, ∀ pr, l.profiles[i] = some pr → pr.axles ≤ 64) →
    ∀ i : Fin 8, ∀ pr, m.profiles[i] = some pr → pr.axles ≤ 64
  axles : (∀ i : Fin 8, ∀ pr, l.profiles[i] = some pr → pr.axles ≤ 64) → (∀ f, (l.faces f).axles ≤ 255) →
    ∀ f, (m.faces f).axles ≤ 255

@[simp] theorem Ledger.Keeps.rfl' (l : Ledger) : l.Keeps l := ⟨id, id, fun _ => id⟩

theorem FaceRec.countsOk_iff (r : FaceRec) : r.CountsOk ↔ r.tally.Counted :=
  ⟨fun h => ⟨h.params, fun d => ⟨h.attempts d, h.reopens d⟩⟩,
   fun h => ⟨h.params, fun d => (h.doors d).1, fun d => (h.doors d).2⟩⟩

theorem Ledger.Keeps.countsOk {p q : Part} (h : p.ledger.Keeps q.ledger) (k : ∀ f, (p.face f).CountsOk) (f : Face) :
    (q.face f).CountsOk :=
  (q.face f).countsOk_iff.mpr (h.counts (fun f => (p.face f).countsOk_iff.mp (k f)) f)

theorem Ledger.Keeps.axlesOk {p q : Part} (h : p.ledger.Keeps q.ledger) (k : p.AxlesOk) : q.AxlesOk :=
  ⟨h.profiles k.profiles, h.axles k.profiles k.counts⟩

/-! ### Writing to the ledger -/

section
variable {l : Ledger} {p : Part} (h : l.Keeps p.ledger)
include h

/-- A change of one face that keeps its limits. -/
theorem Ledger.Keeps.face (f : Face) (g : FaceRec → FaceRec)
    (counted : (p.face f).tally.Counted → (g (p.face f)).tally.Counted)
    (axles : (∀ i : Fin 8, ∀ pr, p.profiles[i] = some pr → pr.axles ≤ 64) →
      (p.face f).berth.axles ≤ 255 → (g (p.face f)).berth.axles ≤ 255) : l.Keeps (p.modFace f g).ledger where
  counts k f' := by
    show ((p.modFace f g).face f').tally.Counted
    rw [Part.modFace_face]
    split
    · next e => subst e; exact counted (h.counts k _)
    · exact h.counts k f'
  profiles k := by
    show ∀ i : Fin 8, ∀ pr, (p.modFace f g).profiles[i] = some pr → pr.axles ≤ 64
    rw [Part.modFace_profiles]
    exact h.profiles k
  axles k a f' := by
    show ((p.modFace f g).face f').berth.axles ≤ 255
    rw [Part.modFace_face]
    split
    · next e => subst e; exact axles (h.profiles k) (h.axles k a _)
    · exact h.axles k a f'

/-- A change of the berth that leaves the axle count within its limit (R21). -/
theorem Ledger.Keeps.berth (f : Face) (g : Berth → Berth)
    (axles : (∀ i : Fin 8, ∀ pr, p.profiles[i] = some pr → pr.axles ≤ 64) →
      (p.face f).berth.axles ≤ 255 → (g (p.face f).berth).axles ≤ 255) :
    l.Keeps (p.modFace f fun r => r.modBerth g).ledger := h.face f _ (fun k => ⟨k.params, k.doors⟩) axles

/-- A change of a door that leaves its attempts and gap reopens within their limits (R91, R92). -/
theorem Ledger.Keeps.door (f : Face) (d : DoorIx) (g : Door → Door)
    (attempts : (p.face f).doors[d].attempts ≤ (p.face f).params.nObst →
      (g (p.face f).doors[d]).attempts ≤ (p.face f).params.nObst)
    (reopens : (p.face f).doors[d].gapReopens ≤ 2 → (g (p.face f).doors[d]).gapReopens ≤ 2) :
    l.Keeps (p.modFace f fun r => r.modDoor d g).ledger := by
  refine h.face f _ (fun k => ⟨k.params, fun e => ?_⟩) fun _ => id
  show ((p.face f).modDoor d g).doors[e.val].attempts ≤ _ ∧ ((p.face f).modDoor d g).doors[e.val].gapReopens ≤ 2
  rw [FaceRec.modDoor_doors]
  split
  · next q => subst q; exact ⟨attempts (k.doors d).1, reopens (k.doors d).2⟩
  · exact k.doors e

/-- A change of every door that leaves attempts and gap reopens within their limits. -/
theorem Ledger.Keeps.doors (f : Face) (g : Door → Door)
    (attempts : ∀ x, (g x).attempts ≤ x.attempts) (reopens : ∀ x, (g x).gapReopens ≤ x.gapReopens) :
    l.Keeps (p.modFace f fun r => { r with doors := mapVec g r.doors }).ledger := by
  refine h.face f _ (fun k => ⟨k.params, fun e => ?_⟩) fun _ => id
  show (mapVec g (p.face f).doors)[e.val].attempts ≤ _ ∧ (mapVec g (p.face f).doors)[e.val].gapReopens ≤ 2
  rw [mapVec_get]
  exact ⟨(attempts _).trans (k.doors e).1, (reopens _).trans (k.doors e).2⟩

/-- The gap record counts nothing here. -/
theorem Ledger.Keeps.gap (f : Face) (g : GapRec → GapRec) : l.Keeps (p.modFace f fun r => r.modGap g).ledger := by
  simpa using h

/-- A profile stored or erased (R8, R9). -/
theorem Ledger.Keeps.profile (i : Nat) (hi : i < 8) (pr : Option Profile) (hp : ∀ x, pr = some x → x.axles ≤ 64) :
    l.Keeps (Part.ledger { p with profiles := p.profiles.set i pr }) where
  counts k f := by
    have := h.counts k f
    simpa [Part.ledger] using this
  profiles k j x hx := by
    change (p.profiles.set i pr)[j.val] = some x at hx
    rw [Vector.getElem_set] at hx
    split at hx
    · exact hp x hx
    · exact h.profiles k j x hx
  axles k a f := by
    have := h.axles k a f
    simpa [Part.ledger] using this

/-- The part parameters and the supply monitor have no limit here. -/
theorem Ledger.Keeps.wide (x : PartParams) (s : Supply) : l.Keeps (Part.ledger { p with params := x, supply := s }) where
  counts k f := by
    have := h.counts k f
    simpa [Part.ledger] using this
  profiles := h.profiles
  axles k a f := by
    have := h.axles k a f
    simpa [Part.ledger] using this

/-! ### Gap reopens (R92, R129) -/

theorem gapReopenOrder_keeps (f : Face) (d : DoorIx) (few : (p.face f).doors[d].gapReopens < 2) :
    l.Keeps (gapReopenOrder f d p).ledger := by
  have counted := h.door f d (fun x => { x with gapReopens := x.gapReopens + 1 }) id fun _ => few
  unfold gapReopenOrder onDoor; simp only
  split <;> simpa using counted

theorem gapReopen_keeps (f : Face) (d : DoorIx) (few : (p.face f).doors[d].gapReopens < 2) :
    l.Keeps (gapReopen f d p).ledger := by
  have cycle : l.Keeps (p.modFace f fun r => r.modSense d fun x => { x with inCycle := true }).ledger := by simpa using h
  have order := gapReopenOrder_keeps cycle f d (by simpa using few)
  simpa [gapReopen] using order

theorem judgeBlocked_keeps (f : Face) (d : DoorIx) : l.Keeps (judgeBlocked f d p).ledger := by
  have judged : l.Keeps (if (p.face f).doors[d].gapReopens < 2 then
      if (p.face f).doors[d].takesGapReopen then gapReopen f d p else gapFails f .reopenRefused (some d) p
      else gapFails f .reopensSpent (some d) p).ledger := by
    split
    · next few =>
      split
      · exact gapReopen_keeps h f d few
      · simpa using h
    · simpa using h
  unfold judgeBlocked; simp only
  split
  · split <;> first | exact judged | exact h
  · exact h

theorem beamHandover_keeps (f : Face) (d : DoorIx) (i o : Bool) : l.Keeps (beamHandover f d i o p).ledger := by
  unfold beamHandover; simp only
  split
  · split
    · refine judgeBlocked_keeps ?_ f d
      split
      · simpa using h
      · split <;> simpa using h
    · split
      · simpa using h
      · split <;> simpa using h
  · exact h

/-! ### Obstruction attempts (R91, R95) -/

theorem obstruction_keeps (f : Face) (d : DoorIx) : l.Keeps (obstruction f d p).ledger := by
  unfold obstruction; simp only
  split
  · next few =>
    have counted := h.door f d (fun x => { x with attempts := x.attempts + 1 }) (fun _ => few) id
    simpa [onDoor] using counted
  · have spent := h.door f d (fun _ => { (p.face f).doors[d.val].stopTimers.enter .obstructed with
      order := none, attempts := (p.face f).params.nObst }) (fun _ => le_refl _) id
    simpa [changeDoor_ledger_eq] using spent

theorem judgeClosing_keeps (f : Face) (d : DoorIx) (rep : DoorReport) : l.Keeps (judgeClosing f d rep p).ledger := by
  unfold judgeClosing; simp only
  repeat' split
  · simpa [Door.closeLocked] using h
  · simpa using h
  · exact obstruction_keeps h f d
  · simpa using h
  · exact h

theorem judgeState_keeps (f : Face) (d : DoorIx) (rep : DoorReport) : l.Keeps (judgeState f d rep p).ledger := by
  have judged : ∀ c : Bool, l.Keeps (if c = true then uncommanded f d rep p else p).ledger := fun c => by
    split <;> simpa using h
  have other : ∀ c : Bool, l.Keeps (if c = true then p else uncommanded f d rep p).ledger := fun c => by
    split <;> simpa using h
  unfold judgeState; simp only
  split
  · exact other _
  · split
    · exact judged _
    · exact other _
  all_goals first | exact judged _ | exact judgeClosing_keeps h f d rep | simpa using h

theorem judgeLines_keeps (f : Face) (d : DoorIx) (k : Bool) (rep : DoorReport) :
    l.Keeps (judgeLines f d k rep p).ledger := by
  unfold judgeLines; simp only
  repeat' split
  all_goals first
    | exact judgeState_keeps h f d rep
    | simpa [-Door.tally_eq] using h

theorem applyReport_keeps (f : Face) (d : DoorIx) (rep : DoorReport) : l.Keeps (applyReport f d rep p).ledger := by
  have stored : l.Keeps (storeReport f d rep (if reportWakes (p.face f).doors[d] rep then wakeFace f p else p)).ledger := by
    simpa [Part.ite_ledger] using h
  unfold applyReport; simp only [fireDoorTest_ledger, judgeStart_ledger]
  split
  · simpa using stored
  · simpa using stored
  · exact judgeLines_keeps (by simpa using stored) f d _ rep

theorem handOver_keeps (f : Face) (d : DoorIx) (st : StatusReply) (c : Confirm) :
    l.Keeps (handOver f d st c p).ledger := by
  unfold handOver
  exact beamHandover_keeps (by simpa using applyReport_keeps h f d _) f d _ _

theorem closeAttempt_keeps (f : Face) (d : DoorIx) : l.Keeps (closeAttempt f d p).2.ledger := by
  unfold closeAttempt
  split
  · exact h
  · simp only [grantEvent_ledger, closeOrder_ledger]
    split
    · have zeroed := h.door f d (fun x => { x with attempts := 0 }) (fun _ => Nat.zero_le _) id
      have left : l.Keeps (leaveOperation f d .obstructed (p.modFace f fun r =>
          r.modDoor d fun x => { x with attempts := 0 })).ledger := by simpa using zeroed
      rwa [leaveOperation, Part.modFace_modFace] at left
    · exact h

theorem doorRestore_keeps (f : Face) (d : Byte) : l.Keeps (doorRestore f d p).2.ledger := by
  unfold doorRestore; simp only
  repeat' split
  all_goals first
    | exact closeAttempt_keeps h f _
    | simpa [-Door.tally_eq] using h

/-! ### The axle count (R21, R33 to R38) -/

theorem enterEmpty_keeps (f : Face) (c : BerthCause) : l.Keeps (enterEmpty f c p).ledger := by
  have vacated := h.berth f (fun b =>
    { b with ann := none, axles := 0, overrun := false, unannounced := false, unchecked := false, served := false })
    fun _ _ => Nat.zero_le _
  have entered : l.Keeps (queueCounts f (clearAlign f .empty (enterBerth f .empty c (p.modFace f fun r => r.modBerth fun b =>
    { b with ann := none, axles := 0, overrun := false, unannounced := false, unchecked := false, served := false })))).ledger := by
    simpa using vacated
  have cleared := entered.doors f (fun x => { x with counts := .zero, attempts := 0, gapReopens := 0 })
    (fun _ => Nat.zero_le _) fun _ => Nat.zero_le _
  have stopped := cleared.gap f fun g => { g with counting := false }
  rw [Part.modFace_modFace] at stopped
  unfold enterEmpty
  simp only [sequencerEmpty_ledger, endGapCheck_ledger]
  exact stopped

theorem emptyIfVacant_keeps (f : Face) : l.Keeps (emptyIfVacant f p).ledger := by
  unfold emptyIfVacant; simp only
  split
  · exact enterEmpty_keeps h f _
  · exact h

theorem movement_keeps (f : Face) (b : Bool) : l.Keeps (movement f b p).ledger := by
  unfold movement; simp only
  refine emptyIfVacant_keeps ?_ f
  repeat' split
  all_goals simpa using h

theorem countAxle_keeps (f : Face) (s : AxleSensor) (d : AxleDir) : l.Keeps (countAxle f s d p).ledger := by
  unfold countAxle; simp only
  split
  · exact h
  · cases d with
    | inward =>
      simp only
      split
      · simpa using h
      · next room => exact h.berth f _ fun _ _ => (by omega : (p.face f).berth.axles + 1 ≤ 255)
    | outward =>
      simp only
      split
      · simpa using h
      · exact h.berth f _ fun _ a => (Nat.sub_le _ _).trans a

omit h in
@[simp] theorem overrunAt_axles (s : AxleSensor) (d : AxleDir) (b : Berth) : (overrunAt s d b).axles = b.axles := by
  unfold overrunAt; split <;> rfl

omit h in
@[simp] theorem Berth.setAxleUnit_axles (s : AxleSensor) (u : AxleUnit) (b : Berth) :
    (b.setAxleUnit s u).axles = b.axles := by cases s <;> rfl

theorem axleCounted_keeps (f : Face) (s : AxleSensor) (d : AxleDir) : l.Keeps (axleCounted f s d p).ledger := by
  have woken : l.Keeps (if s = .entry ∧ d = .inward then wakeFace f p else p).ledger := by
    simpa [Part.ite_ledger] using h
  unfold axleCounted; simp only
  refine movement_keeps ?_ f _
  simpa using countAxle_keeps woken f s d

theorem axleSample_keeps (f : Face) (s : AxleSensor) (x y : Bool) : l.Keeps (axleSample f s x y p).ledger := by
  unfold axleSample; simp only
  repeat' split
  all_goals first
    | exact axleCounted_keeps (by simpa using h) f s _
    | simpa using h

theorem detectorSample_keeps (f : Face) (i : Fin 16) (o : Bool) : l.Keeps (detectorSample f i o p).ledger := by
  unfold detectorSample; simp only
  repeat' split
  · exact h
  · exact movement_keeps (by simpa using h) f o
  · simpa using h

theorem settleUnreckoned_keeps (f : Face) : l.Keeps (settleUnreckoned f p).ledger := by
  have vacated := h.berth f (fun b => { b with axles := 0, unchecked := false }) fun _ _ => Nat.zero_le _
  unfold settleUnreckoned; simp only
  repeat' split
  · simpa using vacated
  · exact enterEmpty_keeps vacated f _
  · simpa using h
  · exact h

theorem settleExpiry_keeps (f : Face) : l.Keeps (settleExpiry f p).ledger := by
  have stopped : l.Keeps (p.modFace f fun r => r.modBerth fun b => { b with settle := none }).ledger := by simpa using h
  unfold settleExpiry; simp only
  repeat' split
  all_goals first
    | exact settleUnreckoned_keeps stopped f
    | exact enterEmpty_keeps stopped f _
    | simpa using h

theorem firstSample_keeps (f : Face) (s : TrackSample) : l.Keeps (firstSample f s p).ledger := by
  unfold firstSample; simp only
  repeat' split
  all_goals first
    | exact enterEmpty_keeps (by simpa using h) f _
    | simpa using h

end

/-! ### The announcements (R8, R36) -/

theorem readUnits_length {p : Part} {i : Nat} {units : List (Byte × Byte)} {us : List UnitEntry}
    (e : readUnits p i units = .ok us) : us.length = units.length := by
  induction units generalizing i us with
  | nil => simp only [readUnits, Except.ok.injEq] at e; subst e; rfl
  | cons u rest ih =>
    obtain ⟨id, o⟩ := u
    unfold readUnits at e
    split at e
    · split at e
      · cases e
      · split at e
        · cases e
        · next us' e' => injection e with e; subst e; simp [ih e']
    · cases e

/-- A stored profile of at most 64 axles, or an absent one. -/
theorem profileOf_axles {p : Part} (k : ∀ i : Fin 8, ∀ pr, p.profiles[i] = some pr → pr.axles ≤ 64) (u : UnitEntry) :
    (p.profileOf u).axles ≤ 64 := by
  unfold Part.profileOf
  cases e : p.profiles[u.profile] with
  | none => exact Nat.zero_le _
  | some pr => exact k _ pr e

theorem expectedAxles_le {p : Part} (k : ∀ i : Fin 8, ∀ pr, p.profiles[i] = some pr → pr.axles ≤ 64)
    (us : List UnitEntry) : expectedAxles p us ≤ 64 * us.length := by
  unfold expectedAxles
  induction us with
  | nil => exact le_refl _
  | cons u us ih =>
    have := profileOf_axles k u
    simp only [List.map_cons, List.sum_cons, List.length_cons]
    omega

section
variable {l : Ledger} {p : Part} (h : l.Keeps p.ledger)
include h

theorem takeAnnouncement_keeps (f : Face) (a : Announcement)
    (few : (∀ i : Fin 8, ∀ pr, p.profiles[i] = some pr → pr.axles ≤ 64) → a.expected ≤ 255) :
    l.Keeps (takeAnnouncement f a p).ledger := by
  have same : (wakeFace f p).profiles = p.profiles := congrArg Ledger.profiles (wakeFace_ledger f p)
  have held : l.Keeps ((wakeFace f p).modFace f fun r => r.modBerth fun b => { b with ann := some a }).ledger := by
    simpa using h
  unfold takeAnnouncement; simp only
  have reckoned : l.Keeps (((wakeFace f p).modFace f fun r => r.modBerth fun b => { b with ann := some a }).modFace f
      fun r => restartSettle (r.modBerth fun b => { b with unchecked := true, axles := a.expected })).ledger := by
    refine held.face f _ (fun k => ⟨k.params, k.doors⟩) fun k _ => few ?_
    rw [Part.modFace_profiles, same] at k
    exact k
  split
  all_goals first
    | exact reckoned
    | exact held.berth f _ fun _ => id
    | simpa using h
    | simpa using held.berth f (fun b => { b with unannounced := false }) fun _ => id

theorem announceTrain_keeps (f : Face) (auto : Bool) (units : List (Byte × Byte)) :
    l.Keeps (announceTrain f auto units p).2.ledger := by
  unfold announceTrain; simp only
  repeat' split
  all_goals try exact h
  next one us e =>
    refine takeAnnouncement_keeps h f _ fun k => ?_
    have := expectedAxles_le k us
    have := readUnits_length e
    show expectedAxles p us ≤ 255
    omega

theorem withdrawTrain_keeps (f : Face) : l.Keeps (withdrawTrain f p).2.ledger := by
  unfold withdrawTrain; simp only
  have forgotten : l.Keeps (p.modFace f fun r =>
      restartSettle (r.modBerth fun b => { b with ann := none, unchecked := false, axles := 0 })).ledger :=
    h.face f _ (fun k => ⟨k.params, k.doors⟩) fun _ _ => Nat.zero_le _
  repeat' split
  all_goals first
    | exact enterEmpty_keeps h f _
    | exact forgotten
    | exact h
    | exact h.berth f _ fun _ => id
    | simpa using h.berth f dropAnnouncement fun _ => id

theorem clearBerth_keeps (f : Face) : l.Keeps (clearBerth f p).2.ledger := by
  unfold clearBerth; simp only
  repeat' split
  · exact h
  · exact h
  · exact h
  · exact enterEmpty_keeps (h.berth f _ fun _ _ => Nat.zero_le _) f _

/-! ### The configuration store (R6 to R13) -/

theorem takeGeometry_keeps (f : Face) (g : Geometry) : l.Keeps (takeGeometry f g p).ledger := by
  have left : l.Keeps (leaveMachineryAll f p).ledger := by simpa using h
  have configured : l.Keeps ((leaveMachineryAll f p).modFace f (FaceRec.configure g)).ledger := by
    refine left.face f _ (fun k => ⟨k.params, fun d => ?_⟩) fun _ _ => Nat.zero_le _
    have := k.doors d
    simpa [FaceRec.tally, FaceRec.configure] using this
  unfold takeGeometry; simp only
  simpa [forDoors_ledger, -Door.tally_eq] using configured

theorem loadGeometry_keeps (f : Face) (g : Geometry) : l.Keeps (loadGeometry f g p).2.ledger := by
  unfold loadGeometry; simp only
  repeat' split
  · exact h
  · exact h
  · exact takeGeometry_keeps h f g

theorem loadProfile_keeps (id : Nat) (pr : Profile) : l.Keeps (loadProfile id pr p).2.ledger := by
  unfold loadProfile
  repeat' split
  all_goals try exact h
  · exact h.profile _ _ _ nofun
  · next ok _ _ =>
    refine h.profile _ _ _ fun x e => ?_
    injection e with e
    subst e
    simp only [Profile.headOk, Bool.not_eq_true', Bool.not_eq_false, Bool.and_eq_true, decide_eq_true_eq] at ok
    exact ok.2

omit h in
theorem clampTo_mem {lo hi : Nat} (h : lo ≤ hi) (v : Nat) : lo ≤ clampTo lo hi v ∧ clampTo lo hi v ≤ hi := by
  unfold clampTo; omega

omit h in
theorem clampFaceParams_inRange (sent : List Nat) : (clampFaceParams sent).InRange := by
  unfold clampFaceParams
  split
  · constructor <;> simp only [clampTo] <;> omega
  · constructor <;> decide

theorem loadFaceParams_keeps (f : Face) (sent : List Nat) : l.Keeps (loadFaceParams f sent p).2.ledger := by
  unfold loadFaceParams; simp only
  repeat' split
  · exact h
  · exact h
  · exact h
  · refine h.face f _ (fun k => ⟨clampFaceParams_inRange sent, fun d => ?_⟩) fun _ => id
    have := (k.doors d).2
    simpa [FaceRec.tally, lowerAttempts] using this

theorem loadPartParams_keeps (sent : List Nat) : l.Keeps (loadPartParams sent p).2.ledger := by
  simp only [loadPartParams, grantEvent_ledger]
  exact h.wide _ _

theorem takeSupplySample_keeps (code : Byte) : l.Keeps (takeSupplySample code p).ledger := by
  have sampled := h.wide p.params (p.supply.sample p.params code)
  unfold takeSupplySample supplyChanged; simp only
  split <;> simpa using sampled

/-! ### The poll cycle -/

theorem enumPollEnd_keeps (f : Face) (d : DoorIx) (o : PollOutcome) : l.Keeps (enumPollEnd f d o p).ledger := by
  unfold enumPollEnd enumLost
  split
  · exact handOver_keeps (by simpa using h) f d _ _
  all_goals simpa using h

theorem runAccepted_keeps (f : Face) (d : DoorIx) (st : StatusReply) : l.Keeps (runAccepted f d st p).ledger := by
  unfold runAccepted; simp only
  exact handOver_keeps (by simpa [Part.ite_ledger, FaceRec.ite_tally] using h) f d st _

theorem runPollEnd_keeps (f : Face) (d : DoorIx) (o : PollOutcome) : l.Keeps (runPollEnd f d o p).ledger := by
  unfold runPollEnd
  split
  · exact runAccepted_keeps h f d _
  all_goals simpa using h

theorem pollEnd_keeps (f : Face) (pos : Nat) (o : PollOutcome) : l.Keeps (pollEnd f pos o p).ledger := by
  have freed : l.Keeps (p.modFace f fun r => r.modLink fun l => { l with line := .idle, replyTimer := none }).ledger := by
    simpa using h
  unfold pollEnd; simp only
  split
  · split
    · simpa [enumAdvance] using enumPollEnd_keeps freed f _ o
    · exact freed
  · simpa using h
  · split
    · simpa using runPollEnd_keeps freed f _ o
    · exact freed
  all_goals exact freed

theorem replyReceived_keeps (f : Face) (bs : List Byte) : l.Keeps (replyReceived f bs p).ledger := by
  unfold replyReceived; simp only
  repeat' split
  all_goals first
    | exact pollEnd_keeps h f _ _
    | simpa using h

theorem replyExpiry_keeps (f : Face) : l.Keeps (replyExpiry f p).ledger := by
  unfold replyExpiry
  repeat' split
  all_goals first
    | exact pollEnd_keeps h f _ _
    | exact h

/-! ### Requests, the host link and the commands -/

theorem serveFace_keeps (k : ReqKind) (f : Face) (tag : Byte) (pl : List Byte) :
    l.Keeps (serveFace k f tag pl p).part.ledger := by
  cases k <;> simp only [serveFace, Served.of, Served.enquiry, Served.refused]
  case loadGeometry => exact loadGeometry_keeps h f _
  case loadFaceParams => exact loadFaceParams_keeps h f _
  case announceTrain => exact announceTrain_keeps h f _ _
  case withdrawTrain => exact withdrawTrain_keeps h f
  case doorRestore => exact doorRestore_keeps h f _
  case clearBerth => exact clearBerth_keeps h f
  case enquireDoor =>
    unfold serveDoor Served.enquiry Served.refused
    repeat' split
    all_goals exact h
  all_goals simpa using h

theorem servePartWide_keeps (k : ReqKind) (pl : List Byte) : l.Keeps (servePartWide k pl p).part.ledger := by
  cases k <;> simp only [servePartWide, Served.of, Served.refused]
  case loadProfile => exact loadProfile_keeps h _ _
  case loadPartParams => exact loadPartParams_keeps h _
  case enquirePart =>
    unfold servePart Served.enquiry Served.refused
    repeat' split
    all_goals exact h
  all_goals simpa using h

theorem serve_keeps (k : ReqKind) (tag : Byte) (pl : List Byte) : l.Keeps (serve k tag pl p).part.ledger := by
  unfold serve Served.refused
  repeat' split
  · exact h
  · exact h
  · exact h
  · exact serveFace_keeps h k _ tag pl
  · exact servePartWide_keeps h k pl

end

theorem dispatch_keeps {l : Ledger} {s : State} (h : l.Keeps s.part.ledger) : l.Keeps (dispatch s).part.ledger := by
  unfold dispatch dispatchFrame
  repeat' split
  all_goals first
    | exact h
    | simpa using serve_keeps h _ _ _

theorem transmit_ledger (s : State) : (transmit s).part.ledger = s.part.ledger := by
  unfold transmit
  split <;> simp

theorem hostPump_keeps {l : Ledger} {s : State} (h : l.Keeps s.part.ledger) : l.Keeps (hostPump s).part.ledger := by
  have sent : l.Keeps (transmit (dispatch s)).part.ledger := by
    rw [transmit_ledger]; exact dispatch_keeps h
  exact dispatch_keeps sent

theorem event_keeps {s : State} {g : Part → Part} (h : s.part.ledger.Keeps (g s.part).ledger) :
    s.part.ledger.Keeps (event g s).part.ledger :=
  hostPump_keeps (s := { s with part := settle (g s.part) }) (by simpa using h)

theorem faceEvent_keeps {s : State} {f : Face} {g : Part → Part} (h : s.part.ledger.Keeps (g s.part).ledger) :
    s.part.ledger.Keeps (faceEvent f g s).part.ledger := by
  refine event_keeps ?_
  split
  · exact h
  · exact .rfl' _

theorem frameArrives_keeps (s : State) (fr : Frame) : s.part.ledger.Keeps (frameArrives fr s).part.ledger :=
  hostPump_keeps (s := { s with host := offerFrame fr s.host }) (.rfl' _)

theorem default_inRange : FaceParams.default.InRange := by constructor <;> decide

/-- The limits stand in the store and the records of every reset. -/
theorem reset_keeps (l : Ledger) (straps : Straps) : l.Keeps (Part.reset straps).ledger where
  counts _ f := by cases f <;> exact ⟨default_inRange, by simp [Part.ledger, Part.face, Part.reset, FaceRec.tally, FaceRec.reset, Door.reset]⟩
  profiles _ i pr e := by
    have none' : (Part.reset straps).profiles[i] = none := by simp [Part.reset]
    exact absurd (none'.symm.trans e) nofun
  axles _ _ f := by cases f <;> exact Nat.zero_le _

/-- The limits stand after a reset asked for, whether or not one follows (R168, R172). -/
theorem requestedReset_keeps (straps : Straps) (s : State) : s.part.ledger.Keeps (requestedReset straps s).part.ledger := by
  unfold requestedReset
  split
  · exact reset_keeps _ straps
  · exact .rfl' _

theorem hostSent_keeps (s : State) : s.part.ledger.Keeps (hostSent s).part.ledger := by
  unfold hostSent
  split
  · exact reset_keeps _ _
  · exact hostPump_keeps (.rfl' _)

theorem exec_keeps {c : Instr} {s t : State} (e : exec c s = .next t) : s.part.ledger.Keeps t.part.ledger := by
  have same := Ledger.Keeps.rfl' s.part.ledger
  cases c <;> (injection e with e; subst e)
  case powerOn | resetPin => exact reset_keeps _ _
  case requestReset => exact requestedReset_keeps _ s
  case hostFrameSent => exact hostSent_keeps s
  case hostByteReceived => exact hostPump_keeps same
  case byteGapTimerExpiry => exact same
  case firstSampleAfterReset | fireInRisingEdge | fireResetRisingEdge | fireInputFall =>
    refine event_keeps ?_
    simp
  case supplyLevelChange => exact event_keeps (takeSupplySample_keeps same _)
  case statusReplyReceived => exact faceEvent_keeps (replyReceived_keeps same _ _)
  case replyTimerExpiry => exact faceEvent_keeps (replyExpiry_keeps same _)
  case axleHeadChange => exact faceEvent_keeps (axleSample_keeps same _ _ _ _)
  case stopDetectorChange => exact faceEvent_keeps (detectorSample_keeps same _ _ _)
  case configurationFirstSample => exact faceEvent_keeps (firstSample_keeps same _ _)
  case settleTimerExpiry => exact faceEvent_keeps (settleExpiry_keeps same _)
  case beamChange => exact faceEvent_keeps (beamHandover_keeps same _ _ _ _)
  case chainResetTimerExpiry | chainSettleTimerExpiry | doorLinkFrameSent | standbyRoundTimerExpiry | flashTimerExpiry
      | automaticOpeningNotice | unlockTimerExpiry | motionTimerExpiry | lockProofTimerExpiry | obstructionPauseTimerExpiry
      | startTimerExpiry | warningTimerExpiry | quietTimerExpiry | holdTimerExpiry | gapEndBeamChange | gapTimerExpiry
      | localRequestChange | pOpenEdge | pCloseEdge | pAllChange | proofBypassChange | gapBypassChange =>
    exact faceEvent_keeps (by simp)
  all_goals exact frameArrives_keeps s _

end Sys2Proof.Machine

namespace Sys2Proof.Proofs

open Sys2Proof.Machine

/-- Settles O12: what a command writes to the ledger keeps its limits. -/
theorem stepKeepsDoorCounts : Obligations.StepKeepsDoorCounts := by
  intro s t e
  rcases step_cases e with rfl | ⟨c, rest, e⟩
  · exact ⟨id, id⟩
  · have kept := exec_keeps (s := { s with pending := rest }) e
    exact ⟨kept.countsOk, kept.axlesOk⟩

end Sys2Proof.Proofs

/-! A request that dispatch takes at once (R165, R166, R168): the state after it is its answer made ready on the part as the
request leaves it. Resets (R168, R172), the checks of dispatch and the enquiries follow. -/

namespace Sys2Proof.Machine

/-! ### Dispatch of a frame that arrives on a free link -/

theorem ofCode_code (k : ReqKind) : ReqKind.ofCode k.code = some k := by cases k <;> decide

theorem exec_requestOf (k : ReqKind) (tag : Byte) (pl : List Byte) (s : State) :
    exec (requestOf k tag pl) s = .next (frameArrives ⟨k.code, tag, pl⟩ s) := by cases k <;> rfl

/-- Whether dispatch is closed by a RESET_PART taken (R168). -/
def State.closing (b : Bool) (s : State) : State := { s with host := { s.host with resetting := b } }

theorem State.closing_self {s : State} {b : Bool} (h : s.host.resetting = b) : s.closing b = s := by subst h; rfl

@[simp] theorem State.answered_resetting (s : State) (r : Reply) (p : Part) :
    (s.answered r p).host.resetting = s.host.resetting := by
  unfold State.answered; split <;> rfl

theorem dispatch_empty {s : State} (h : s.host.inbound = []) : dispatch s = s := by
  unfold dispatch
  split
  · rfl
  · rw [h]; cases s.host.reply <;> rfl

/-- The transmitter's opportunity and the second dispatch, once a frame has left its reply ready (R171). -/
theorem transmit_ready {s : State} (h : s.HostFree) (r : Reply) (p : Part) (b : Bool) :
    dispatch (transmit
      { s with part := p, host := { s.host with inbound := [], reply := some r, resetting := b } }) =
      (s.answered r p).closing b := by
  obtain ⟨part, ⟨rx, gapTimer, inbound, overrun, discarded, reply, resetting, tx⟩, pending⟩ := s
  obtain ⟨rfl, rfl, rfl⟩ := h
  rw [dispatch_empty (by cases tx <;> rfl)]
  cases tx <;> rfl

/-- A frame of a request kind, on a free link: its answer is made ready or begun, and a RESET_PART ends dispatch. -/
theorem frameArrives_request {s : State} (h : s.HostFree) {k : ReqKind} {tag : Byte} {pl : List Byte} {sv : Served}
    (e : serve k tag pl s.part = sv) :
    frameArrives ⟨k.code, tag, pl⟩ s =
      (s.answered (replyTo ⟨k.code, tag, pl⟩ sv) (settle sv.part)).closing
        (decide (k = .resetPart) && decide (sv.ans.result = .done)) := by
  rw [frameArrives_free h]
  simp only [hostPump, dispatch, h.resetting, h.reply, dispatchFrame, ofCode_code, Bool.false_or, e]
  exact transmit_ready h _ _ _

theorem frameArrives_unknown {s : State} (h : s.HostFree) {fr : Frame} (e : ReqKind.ofCode fr.kind = none) :
    frameArrives fr s = s.answered (badKindReply fr) s.part := by
  rw [frameArrives_free h]
  have ready := transmit_ready h (badKindReply fr) s.part false
  rw [State.closing_self (by rw [State.answered_resetting, h.resetting])] at ready
  rw [← ready]
  simp only [hostPump, dispatch, h.resetting, h.reply, dispatchFrame, e]
  rfl

/-- A request but a RESET_PART, on a free link (R165, R166). -/
theorem exec_request {s : State} (h : s.HostFree) {k : ReqKind} (hk : k ≠ .resetPart) {tag : Byte} {pl : List Byte}
    {sv : Served} (e : serve k tag pl s.part = sv) :
    exec (requestOf k tag pl) s = .next (s.answered (replyTo ⟨k.code, tag, pl⟩ sv) (settle sv.part)) := by
  rw [exec_requestOf, frameArrives_request h e, decide_eq_false hk, Bool.false_and]
  exact congrArg _ (State.closing_self ((s.answered_resetting _ _).trans h.resetting))

/-- A request that is refused changes nothing (R3, R166). -/
theorem unchanged_of_refused {s : State} (h : s.HostFree) (settled : ∀ f, (s.part.face f).Settled) {k : ReqKind}
    {tag a : Byte} {pl : List Byte} {result : Result} (notDone : result ≠ .done)
    (e : serve k tag pl s.part = .refused ⟨result, a, 0⟩ s.part) :
    Unchanged (requestOf k tag pl) k tag result a s := by
  unfold Unchanged
  have stays : s.host.resetting = (decide (k = .resetPart) && decide (result = .done)) := by
    rw [h.resetting, decide_eq_false notDone, Bool.and_false]
  rw [exec_requestOf, frameArrives_request h e, Served.refused, settle_settled settled]
  exact congrArg _ (State.closing_self ((s.answered_resetting _ _).trans stays))

/-- An enquiry is answered with its record and changes nothing (R166). -/
theorem exec_enquiry {s : State} (h : s.HostFree) (settled : ∀ f, (s.part.face f).Settled) {k : ReqKind}
    (hk : k ≠ .resetPart) {tag : Byte} {pl data : List Byte} (e : serve k tag pl s.part = .enquiry data s.part) :
    exec (requestOf k tag pl) s = .next (s.answered ⟨k.code ||| 0x80, tag, .done, 0, 0, data⟩ s.part) := by
  rw [exec_request h hk e, Served.enquiry, settle_settled settled]
  rfl

theorem byteOf_toNat {n : Nat} (h : n < 256) : (byteOf n).toNat = n := by
  simp only [byteOf, BitVec.toNat_ofNat]; omega

/-! ### What serves a request (R165, R1) -/

theorem serve_badLength {k : ReqKind} {tag : Byte} {pl : List Byte} {p : Part} (e : k.lengthOk pl = false) :
    serve k tag pl p = .refused (.plain .badLength) p := by
  unfold serve; simp [e]

/-- A face byte that names a present face, with good coded bytes, goes to the owner of the kind. -/
theorem serve_face {k : ReqKind} {tag : Byte} {pl : List Byte} {p : Part} {f : Face} (len : k.lengthOk pl = true)
    (names : k.namesFace = true) (face : byteAt pl 0 = faceCode f) (codes : k.codesOk pl = true)
    (here : p.present f = true) : serve k tag pl p = serveFace k f tag pl p := by
  have reads : readFace (faceCode f) = some f := by cases f <;> rfl
  unfold serve
  simp [len, names, face, codes, here, reads]

theorem serve_partWide {k : ReqKind} {tag : Byte} {pl : List Byte} {p : Part} (len : k.lengthOk pl = true)
    (names : k.namesFace = false) : serve k tag pl p = servePartWide k pl p := by
  unfold serve; simp [len, names]

/-- Step 3 of dispatch: a bad face byte, an absent face or a bad coded byte (R1, R165). -/
theorem serve_badValue {k : ReqKind} {tag : Byte} {pl : List Byte} {p : Part} (len : k.lengthOk pl = true)
    (names : k.namesFace = true)
    (bad : (byteAt pl 0 ≠ 0 ∧ byteAt pl 0 ≠ 1) ∨ (byteAt pl 0 = 1 ∧ p.straps.twoFaces = false) ∨
      k.codesOk pl = false) : serve k tag pl p = .refused (badValue 255) p := by
  unfold serve
  simp only [len, names, Bool.not_true, Bool.false_eq_true, if_false, if_true]
  split
  · rfl
  · next f read =>
    rcases bad with ⟨notA, notB⟩ | ⟨isB, absent⟩ | codes
    · unfold readFace at read
      rw [if_neg notA, if_neg notB] at read
      exact absurd read nofun
    · obtain rfl : f = .B := by simpa [readFace, isB] using read.symm
      simp [Part.present, absent]
    · simp [codes]

/-! ### Resets (R2, R172) -/

theorem freshStore_reset (straps : Straps) : (Part.reset straps).FreshStore straps where
  geometry f := by cases f <;> rfl
  profiles i := by simp [Part.reset]
  classes f i := by cases f <;> simp [Part.face, Part.reset, FaceRec.reset, MotionClass.default]
  params f := by cases f <;> rfl
  partParams := rfl
  straps := rfl

theorem freshBlocks_reset (straps : Straps) : (Part.reset straps).FreshBlocks where
  berth f := by cases f <;> rfl
  align f := by cases f <;> rfl
  link f := by cases f <;> rfl
  health f d := by cases f <;> simp [Part.face, Part.reset, FaceRec.reset]
  doors f d := by cases f <;> simp [Part.face, Part.reset, FaceRec.reset]
  beams f d := by cases f <;> simp [Part.face, Part.reset, FaceRec.reset]
  op f := by cases f <;> exact ⟨rfl, rfl, rfl⟩
  gap f := by cases f <;> rfl
  mode f := by cases f <;> rfl
  secured f := by cases f <;> rfl
  arbiter := ⟨rfl, rfl⟩
  supply := rfl
  fire := ⟨rfl, rfl, rfl⟩
  queue := ⟨rfl, rfl⟩

/-- A reset leaves the store of R2 and fresh blocks, with START begun and the waiting commands as they were. -/
theorem resetPart_restarts {i : Instr} {s : State} {cause : ResetCause} {straps : Straps}
    (e : exec i s = .next (Machine.resetPart cause straps s)) :
    ∃ t, exec i s = .next t ∧ t.part.FreshStore straps ∧ t.part.FreshBlocks ∧ t.host = startingUp cause straps ∧
      t.pending = s.pending :=
  ⟨_, e, freshStore_reset straps, freshBlocks_reset straps, rfl, rfl⟩

theorem sendingReset_iff (h : HostLink) :
    h.sendingReset = true ↔ h.resetting = true ∧ ∃ r o d, h.tx = .reply r o d ∧ r.kind = 0xC4 ∧ r.result = .done := by
  unfold HostLink.sendingReset
  cases h.tx <;> simp

end Sys2Proof.Machine

namespace Sys2Proof.Proofs

open Sys2Proof.Machine

/-- Settles O3: every reset leaves the fresh part, and a RESET_PART ends dispatch once its answer is ready. -/
theorem resetsRestart : Obligations.ResetsRestart := by
  refine ⟨fun straps s => ⟨resetPart_restarts rfl, resetPart_restarts rfl⟩, fun tag s free settled => ?_,
    fun straps s r o d taken tx kind result => ?_, fun straps s unsent => ?_⟩
  · have served : serve .resetPart tag [] s.part = ⟨.plain .done, [], s.part⟩ := rfl
    have run := (exec_requestOf .resetPart tag [] s).trans (congrArg _ (frameArrives_request free served))
    rw [settle_settled settled] at run
    have kind : ReqKind.resetPart.code ||| 0x80 = 0xC4 := rfl
    refine ⟨_, run, rfl, rfl, ?_⟩
    rw [← kind]
    exact State.closing_self ((s.answered_resetting _ _).trans free.resetting)
  · have sending : s.host.sendingReset = true := (sendingReset_iff _).mpr ⟨taken, r, o, d, tx, kind, result⟩
    exact ⟨resetPart_restarts (congrArg Host.Outcome.next (if_pos sending)),
      resetPart_restarts (congrArg Host.Outcome.next (if_pos sending))⟩
  · have idle : ¬ s.host.sendingReset = true := fun sending => by
      obtain ⟨taken, r, o, d, tx, kind, result⟩ := (sendingReset_iff _).mp sending
      exact (unsent r o d taken tx).elim (absurd kind) (absurd result)
    exact congrArg _ (if_neg idle)

/-- Settles O19: each check that fails refuses the request before its owner is asked. -/
theorem dispatchChecks : Obligations.DispatchChecks := by
  refine ⟨fun kind tag pl s free unknown => ?_, fun k tag pl s free settled => ⟨fun len => ?_, fun len names bad => ?_⟩⟩
  · exact congrArg _ (frameArrives_unknown (fr := ⟨kind, tag, pl⟩) free (Option.isNone_iff_eq_none.mp unknown))
  · exact unchanged_of_refused free settled nofun (serve_badLength len)
  · exact unchanged_of_refused free settled nofun (serve_badValue len names bad)

/-- Settles O20: an enquiry's owner answers with its record, and nothing is due at the end of the event. -/
theorem enquiries : Obligations.Enquiries := by
  intro tag s free settled
  refine ⟨?_, fun i => ?_, fun b big => ?_, fun f here => ⟨?_, fun d set => ?_, fun b big => ?_, ?_, ?_, ?_⟩⟩
  · exact exec_enquiry (k := .enquirePart) free settled nofun rfl
  · refine exec_enquiry (k := .enquirePart) free settled nofun ?_
    rw [serve_partWide rfl rfl]
    simp [servePartWide, servePart, byteOf_toNat (i.isLt.trans (by decide))]
  · refine unchanged_of_refused (k := .enquirePart) free settled nofun ?_
    rw [serve_partWide rfl rfl]
    simp [servePartWide, servePart, Nat.not_lt.mpr big, badValue]
  · exact exec_enquiry (k := .enquireFace) free settled nofun (serve_face rfl rfl rfl rfl here)
  · refine exec_enquiry (k := .enquireDoor) free settled nofun ((serve_face rfl rfl rfl rfl here).trans ?_)
    have inside : d.val < (s.part.face f).n := by simpa [FaceRec.configured] using set
    simp [serveFace, serveDoor, byteAt, byteOf_toNat (d.isLt.trans (by decide)), inside]
  · refine unchanged_of_refused (k := .enquireDoor) free settled nofun ((serve_face rfl rfl rfl rfl here).trans ?_)
    simp [serveFace, serveDoor, byteAt, Nat.not_lt.mpr big, badValue]
  · exact exec_enquiry (k := .enquireBerth) free settled nofun (serve_face rfl rfl rfl rfl here)
  · exact exec_enquiry (k := .enquireAlign) free settled nofun (serve_face rfl rfl rfl rfl here)
  · exact exec_enquiry (k := .enquireCounts) free settled nofun (serve_face rfl rfl rfl rfl here)

end Sys2Proof.Proofs

/-! The state that every reset leaves meets the invariants (R2, R172). -/

namespace Sys2Proof.Machine

@[simp] theorem Part.reset_face (straps : Straps) (f : Face) : (Part.reset straps).face f = FaceRec.reset := by
  cases f <;> rfl

@[simp] theorem FaceRec.reset_doors (d : DoorIx) : FaceRec.reset.doors[d.val] = Door.reset := by simp [FaceRec.reset]

theorem FaceRec.reset_settled : FaceRec.reset.Settled where
  op _ e := nomatch e
  failed e := nomatch e
  timer := ⟨nofun, nofun⟩
  handover e := nomatch e
  line _ := ⟨nofun, nofun, nofun⟩

theorem FaceRec.reset_fireHolds : FaceRec.reset.fireHolds := fun e => nomatch e

theorem FaceRec.reset_outputsFollow : FaceRec.reset.outputsFollow :=
  ⟨⟨nofun, nofun⟩, ⟨nofun, nofun⟩⟩

theorem FaceRec.reset_countsOk : FaceRec.reset.CountsOk where
  params := default_inRange
  attempts d := by simp [Door.reset]
  reopens d := by simp [Door.reset]

theorem FaceRec.reset_emptyOk : FaceRec.reset.EmptyOk :=
  fun _ => ⟨rfl, fun _ mem => absurd mem List.not_mem_nil⟩

theorem Part.reset_machineryOk (straps : Straps) : (Part.reset straps).MachineryOk where
  once := List.nodup_nil
  started := List.nodup_nil
  apart _ h := absurd h List.not_mem_nil
  queued _ h := absurd h List.not_mem_nil
  moving _ h := absurd h List.not_mem_nil
  pauses f d h := absurd (by simp [Door.reset]) h

theorem Part.reset_axlesOk (straps : Straps) : (Part.reset straps).AxlesOk where
  profiles i pr e := by simp [Part.reset] at e
  counts f := by simp [FaceRec.reset, Berth.reset]

theorem default_partParams : PartParams.default.InRange := by constructor <;> decide

section
variable (cause : ResetCause) (straps : Straps) (s : State)

theorem resetPart_bounded : (Machine.resetPart cause straps s).Bounded where
  reports := ⟨Nat.zero_le _, List.nodup_nil⟩
  inbound := Nat.zero_le _
  params := default_partParams
  starting := Nat.zero_le _

theorem resetPart_settled : (Machine.resetPart cause straps s).Settled where
  faces f := by
    show ((Part.reset straps).face f).Settled
    rw [Part.reset_face]; exact FaceRec.reset_settled
  dispatched _ := .inl rfl
  sent e := nomatch e

theorem resetPart_securedSafe : (Machine.resetPart cause straps s).SecuredSafe where
  proof f e := by
    change ((Part.reset straps).face f).secured = true at e
    rw [Part.reset_face] at e
    exact nomatch e
  unprimed _ f := by
    show ((Part.reset straps).face f).mode.panel.proofBypass.primed = false ∧
      ((Part.reset straps).face f).mode.panel.gapBypass.primed = false
    rw [Part.reset_face]; exact ⟨rfl, rfl⟩

/-- What the reset record of a face satisfies, each face of a reset part satisfies. -/
theorem resetPart_faces {P : FaceRec → Prop} (h : P .reset) (f : Face) :
    P ((Machine.resetPart cause straps s).part.face f) := by
  show P ((Part.reset straps).face f)
  rwa [Part.reset_face]

/-- Every invariant of the step lemmas stands after a reset of any kind. -/
theorem resetPart_invariants :
    let t := Machine.resetPart cause straps s
    t.part.straps = straps ∧ t.Bounded ∧ t.Settled ∧ t.part.absentIdle ∧ (∀ f, (t.part.face f).fireHolds) ∧
      t.SecuredSafe ∧ (∀ f, (t.part.face f).outputsFollow) ∧ t.part.MachineryOk ∧ (∀ f, (t.part.face f).CountsOk) ∧
      (∀ f, (t.part.face f).EmptyOk) ∧ t.part.AxlesOk :=
  ⟨rfl, resetPart_bounded _ _ _, resetPart_settled _ _ _, Part.absentIdle_reset straps,
    resetPart_faces _ _ _ FaceRec.reset_fireHolds, resetPart_securedSafe _ _ _,
    resetPart_faces _ _ _ FaceRec.reset_outputsFollow, Part.reset_machineryOk straps,
    resetPart_faces _ _ _ FaceRec.reset_countsOk, resetPart_faces _ _ _ FaceRec.reset_emptyOk,
    Part.reset_axlesOk straps⟩

end

end Sys2Proof.Machine

namespace Sys2Proof.Proofs

open Sys2Proof.Machine

/-- Settles O4: the reset state is the one that a power-on leaves. -/
theorem resetKeepsInvariants : Obligations.ResetKeepsInvariants :=
  ⟨(resetPart_invariants .powerOn strapsAtReset State.reset).2, resetPart_invariants⟩

end Sys2Proof.Proofs

/-! The loads of values: what is clamped, and how a load answers (R3, R7 to R13, R166). -/

namespace Sys2Proof.Machine

/-! ### Clamped fields and the answer (R3) -/

/-- The numbered pairs whose two entries differ, against the positions at which the two lists differ. -/
theorem clampedFields_zipIdx (sent stored : List Nat) (len : sent.length = stored.length) (k : Nat) :
    clampedFields (((sent.zip stored).zipIdx k).map fun x => (x.2 + 1, x.1.1, x.1.2)) =
      ((List.range sent.length).filter fun i => decide (sent[i]? ≠ stored[i]?)).map (· + k + 1) := by
  induction sent generalizing stored k with
  | nil => rfl
  | cons a sent ih =>
    obtain _ | ⟨b, stored⟩ := stored
    · cases len
    · have rest := ih stored (Nat.succ.inj len) (k + 1)
      have shift : (fun x => x + (k + 1) + 1) = (fun x => x + k + 1) ∘ Nat.succ := by funext x; simp; omega
      simp only [clampedFields, ne_eq, decide_not] at rest
      simp only [clampedFields, List.zip_cons_cons, List.zipIdx_cons, List.map_cons, List.length_cons,
        List.range_succ_eq_map, List.filter_cons, List.getElem?_cons_zero, List.filter_map, ne_eq, decide_not,
        Function.comp_def, List.getElem?_cons_succ, List.map_map] at rest ⊢
      by_cases same : a = b
      · simp [same, rest, shift, Function.comp_def]
      · simp [same, rest, shift, Function.comp_def]

theorem numbersClamped_eq {sent stored : List Nat} (len : sent.length = stored.length) :
    numbersClamped sent stored = changedFields sent stored := clampedFields_zipIdx sent stored len 0

theorem changedFields_mem_le {sent stored : List Nat} {n : Nat} (h : n ∈ changedFields sent stored) :
    n ≤ sent.length := by
  obtain ⟨i, mem, rfl⟩ := List.mem_map.mp h
  exact List.mem_range.mp (List.mem_of_mem_filter mem)

theorem changedFields_length_le (sent stored : List Nat) : (changedFields sent stored).length ≤ sent.length := by
  simpa [changedFields] using List.length_filter_le _ (List.range sent.length)

/-- The answer that counts the clamped fields, of which fewer than 256 are told in a byte. -/
theorem loadAnswer_clampAnswer {fields : List Nat} (short : fields.length < 256) (small : ∀ n ∈ fields, n < 256) :
    LoadAnswer (clampAnswer fields).result (clampAnswer fields).a (clampAnswer fields).b fields := by
  obtain _ | ⟨first, rest⟩ := fields
  · exact ⟨fun _ => ⟨rfl, rfl, rfl⟩, fun some => absurd rfl some⟩
  · refine ⟨nofun, fun _ => ⟨rfl, byteOf_toNat short, ?_⟩⟩
    rw [List.head?_cons, clampAnswer, byteOf_toNat (small first (List.mem_cons_self ..))]

theorem loadAnswer_numbersClamped {sent stored : List Nat} (len : sent.length = stored.length)
    (short : sent.length < 256) :
    let ans := clampAnswer (numbersClamped sent stored)
    LoadAnswer ans.result ans.a ans.b (changedFields sent stored) := by
  rw [numbersClamped_eq len]
  exact loadAnswer_clampAnswer ((changedFields_length_le _ _).trans_lt short)
    fun n mem => (changedFields_mem_le mem).trans_lt short

/-- A request but a RESET_PART, with the code of its reply (R165, R166). -/
theorem exec_answered {s : State} (h : s.HostFree) {k : ReqKind} (hk : k ≠ .resetPart) {code tag : Byte}
    (hc : k.code ||| 0x80 = code) {pl : List Byte} {sv : Served} (e : serve k tag pl s.part = sv) :
    exec (requestOf k tag pl) s =
      .next (s.answered ⟨code, tag, sv.ans.result, sv.ans.a, sv.ans.b, sv.data⟩ (settle sv.part)) := by
  subst hc; exact exec_request h hk e

/-- A request after which nothing is due at the end of the event. -/
theorem exec_stands {s : State} (h : s.HostFree) {k : ReqKind} (hk : k ≠ .resetPart) {code tag : Byte}
    (hc : k.code ||| 0x80 = code) {pl data : List Byte} {ans : Answer} {q : Part}
    (e : serve k tag pl s.part = ⟨ans, data, q⟩) (stands : settle q = q) :
    exec (requestOf k tag pl) s = .next (s.answered ⟨code, tag, ans.result, ans.a, ans.b, data⟩ q) := by
  rw [exec_answered h hk hc e, stands]

/-! ### The part parameters (R12, R13) -/

theorem readFields_partParams (k l c h s t1 t2 q : Byte) :
    readFields partParamWidths [k, l, c, h, s, t1, t2, q] =
      [k.toNat, l.toNat, c.toNat, h.toNat, s.toNat, 256 * t1.toNat + t2.toNat, q.toNat] := by
  simp [readFields, partParamWidths, beNat, Nat.mul_comm]

theorem Part.ledger_params (p : Part) : p.ledger.params = p.params := rfl

theorem Part.ledger_supply (p : Part) : p.ledger.supply = p.supply := rfl

theorem loadPartParams_params (sent : List Nat) (p : Part) :
    (settle (loadPartParams sent p).2).params = clampPartParams sent := by
  rw [← Part.ledger_params, settle_ledger, loadPartParams, grantEvent_ledger]
  rfl

theorem loadPartParams_supply (sent : List Nat) (p : Part) :
    (settle (loadPartParams sent p).2).supply = { p.supply with fall := 0, rise := 0 } := by
  rw [← Part.ledger_supply, settle_ledger, loadPartParams, grantEvent_ledger]
  rfl

/-! ### The profiles (R8, R9) -/

/-- The entries of a list at neighbouring places, as `Profile.Valid` and `Geometry.Valid` pair them. -/
theorem neighbours_iff {α : Type} {R : α → α → Prop} (xs : List α) :
    (∀ (i : Nat) (x y : α), xs[i]? = some x → xs[i + 1]? = some y → R x y) ↔ xs.IsChain R := by
  rw [List.isChain_iff_getElem]
  constructor
  · intro h i hi
    exact h i _ _ (List.getElem?_eq_getElem _) (List.getElem?_eq_getElem hi)
  · intro h i x y hx hy
    obtain ⟨hi, rfl⟩ := List.getElem?_eq_some_iff.mp hx
    obtain ⟨hj, rfl⟩ := List.getElem?_eq_some_iff.mp hy
    exact h i hj

/-- The checks 5 to 7 of R8 that a train door passes by itself. -/
def TrainDoor.InRange (len : Nat) (t : TrainDoor) : Prop := t.t % 2 = 0 ∧ 600 ≤ t.t ∧ t.t ≤ 3000 ∧ t.a + t.t ≤ len

/-- Check 8 of R8, of a train door and the one before it. -/
def TrainDoor.Before (t u : TrainDoor) : Prop := t.a + t.t ≤ u.a

theorem trainDoorOk_iff (len : Nat) (prev : Option TrainDoor) (t : TrainDoor) :
    trainDoorOk len prev t = true ↔ t.InRange len ∧ ∀ q ∈ prev, q.Before t := by
  cases prev <;> simp only [trainDoorOk, Bool.and_eq_true, decide_eq_true_eq, TrainDoor.InRange, TrainDoor.Before,
    and_assoc, Option.mem_def, Option.some.injEq, forall_eq', reduceCtorEq, false_implies, implies_true]

theorem firstBadTrainDoor_eq_none_iff (len i : Nat) (prev : Option TrainDoor) (ts : List TrainDoor) :
    firstBadTrainDoor len i prev ts = none ↔
      (∀ t ∈ ts, t.InRange len) ∧ (prev.toList ++ ts).IsChain TrainDoor.Before := by
  induction ts generalizing i prev with
  | nil => cases prev <;> simp [firstBadTrainDoor]
  | cons t ts ih =>
    have first : firstBadTrainDoor len i prev (t :: ts) = none ↔
        trainDoorOk len prev t = true ∧ firstBadTrainDoor len (i + 1) (some t) ts = none := by
      rw [firstBadTrainDoor]; split <;> simp [*]
    have chain : (prev.toList ++ t :: ts).IsChain TrainDoor.Before ↔
        (∀ q ∈ prev, q.Before t) ∧ (t :: ts).IsChain TrainDoor.Before := by cases prev <;> simp
    rw [first, ih, trainDoorOk_iff, chain, List.forall_mem_cons, Option.toList_some, List.singleton_append]
    tauto

theorem Profile.valid_iff (pr : Profile) :
    pr.Valid ↔ pr.headOk = true ∧ firstBadTrainDoor pr.len 0 none pr.doors = none := by
  rw [firstBadTrainDoor_eq_none_iff]
  simp only [Profile.headOk, Bool.and_eq_true, decide_eq_true_eq, Option.toList_none, List.nil_append, ← neighbours_iff]
  constructor
  · intro ⟨⟨short, long⟩, coupler, ⟨few, many⟩, doors, apart⟩
    exact ⟨⟨⟨⟨⟨short, long⟩, coupler⟩, few⟩, many⟩, doors, apart⟩
  · intro ⟨⟨⟨⟨⟨short, long⟩, coupler⟩, few⟩, many⟩, doors, apart⟩
    exact ⟨⟨short, long⟩, coupler, ⟨few, many⟩, doors, apart⟩

section
variable {pl : List Byte} {p : Part}

theorem serve_loadProfile {tag : Byte} (len : ReqKind.loadProfile.lengthOk pl = true) :
    serve .loadProfile tag pl p = .of (loadProfile (byteAt pl 0).toNat (readProfile pl) p) := serve_partWide len rfl

variable {id : Nat} {pr : Profile}

theorem loadProfile_inUse (used : p.profileInUse id = true) : loadProfile id pr p = (.plain .inUse, p) := if_pos used

theorem loadProfile_noSlot (unused : p.profileInUse id = false) (big : 8 ≤ id) :
    loadProfile id pr p = (badValue 255, p) := by
  simp [loadProfile, unused, Nat.not_lt.mpr big]

variable {i : Fin 8} (slot : i.val = id) (unused : p.profileInUse id = false)
include slot unused

theorem loadProfile_erases (none : pr.doors = []) :
    loadProfile id pr p = (.plain .done, { p with profiles := p.profiles.set i .none }) := by
  subst slot; simp [loadProfile, unused, none]

theorem loadProfile_stores (some : pr.doors ≠ []) (valid : pr.Valid) :
    loadProfile id pr p = (.plain .done, { p with profiles := p.profiles.set i (.some pr) }) := by
  obtain ⟨head, doors⟩ := pr.valid_iff.mp valid
  subst slot; simp [loadProfile, unused, some, head, doors]

theorem loadProfile_refuses (some : pr.doors ≠ []) (invalid : ¬ pr.Valid) :
    ∃ e, loadProfile id pr p = (badValue e, p) := by
  rw [Profile.valid_iff] at invalid
  subst slot
  simp only [loadProfile, unused, Bool.false_eq_true, if_false, i.isLt, dif_pos, List.isEmpty_iff, some]
  split
  · exact ⟨_, rfl⟩
  · next head =>
    split
    · exact ⟨_, rfl⟩
    · next doors => exact absurd ⟨by simpa using head, doors⟩ invalid

end

/-- The profile stored or erased is the one change, and nothing is due after it. -/
theorem settle_profiles {p : Part} (settled : ∀ f, (p.face f).Settled) (v : Vector (Option Profile) 8) :
    settle { p with profiles := v } = { p with profiles := v } :=
  settle_settled fun f => by cases f; exacts [settled .A, settled .B]

end Sys2Proof.Machine

namespace Sys2Proof.Proofs

open Sys2Proof.Machine

/-- Settles O21: the ledger holds what a load stores through the grants and the end of the event. -/
theorem loadPartValues : Obligations.LoadPartValues := by
  refine ⟨fun tag k l c h sup t1 t2 fire s free => ?_, fun tag pl s free settled len => ⟨fun used => ?_,
    fun unused big => ?_, fun unused i at_id => ⟨fun none => ?_, fun some valid => ?_, fun some invalid => ?_⟩⟩⟩
  · have served := serve_partWide (k := .loadPartParams) (tag := tag) (p := s.part)
      (pl := [k, l, c, h, sup, t1, t2, fire]) rfl rfl
    rw [servePartWide, readFields_partParams] at served
    refine ⟨_, _, _, _, exec_answered (k := .loadPartParams) free nofun rfl served, ?_⟩
    simp only [Served.of, loadPartParams_params, loadPartParams_supply]
    simp only [clampPartParams, clampTo, Nat.zero_max, true_and]
    exact ⟨by omega, loadAnswer_numbersClamped rfl (show 7 < 256 by decide)⟩
  · exact unchanged_of_refused (k := .loadProfile) free settled nofun 
      ((serve_loadProfile len).trans (congrArg _ (loadProfile_inUse used)))
  · exact unchanged_of_refused (k := .loadProfile) free settled nofun 
      ((serve_loadProfile len).trans (congrArg _ (loadProfile_noSlot unused big)))
  · exact exec_stands (k := .loadProfile) free nofun rfl
      ((serve_loadProfile len).trans (congrArg _ (loadProfile_erases at_id unused none))) (settle_profiles settled _)
  · exact exec_stands (k := .loadProfile) free nofun rfl
      ((serve_loadProfile len).trans (congrArg _ (loadProfile_stores at_id unused some valid))) (settle_profiles settled _)
  · obtain ⟨e, refused⟩ := loadProfile_refuses at_id unused some invalid
    exact ⟨e, unchanged_of_refused (k := .loadProfile) free settled nofun
      ((serve_loadProfile len).trans (congrArg _ refused))⟩

end Sys2Proof.Proofs

/-! LOAD_FACE_PARAMS and LOAD_CLASSES (R3, R7, R10, R11). -/

namespace Sys2Proof.Machine

/-! ### When a load is taken (R3) -/

/-- A mode in which the loads of a face are taken (R3, R150). -/
def FaceRec.takesLoads (r : FaceRec) : Prop := r.mode.mode = .unconfigured ∨ r.mode.mode = .maint

theorem loadModeCheck_enumerating {r : FaceRec} (h : r.enumerating = true) :
    loadModeCheck r = some (.plain .busy) := by simp [loadModeCheck, firstFail, h]

theorem loadModeCheck_closed {r : FaceRec} (h : r.enumerating = false) (closed : ¬ r.takesLoads) :
    loadModeCheck r = some (.plain .wrongMode) := by
  obtain ⟨unconfigured, maint⟩ := not_or.mp closed
  simp [loadModeCheck, firstFail, h, unconfigured, maint]

theorem loadModeCheck_open {r : FaceRec} (h : r.enumerating = false) (opened : r.takesLoads) :
    loadModeCheck r = none := by
  rcases opened with mode | mode <;> simp [loadModeCheck, firstFail, h, mode]

/-! ### What leaves a face settled -/

/-- Of the doors, what is settled reads the states and the isolation alone. -/
theorem FaceRec.Settled.withDoors {r : FaceRec} (h : r.Settled) {doors : Vector Door 24}
    (same : ∀ d : DoorIx, doors[d].state = r.doors[d].state) (iso : ∀ d : DoorIx, doors[d].iso = r.doors[d].iso) :
    ({ r with doors := doors } : FaceRec).Settled := by
  have watched : ({ r with doors := doors } : FaceRec).watched = r.watched :=
    funext fun d => by unfold FaceRec.watched; rw [iso d]; rfl
  have waiting : ({ r with doors := doors } : FaceRec).waitingDoors = r.waitingDoors := by
    unfold FaceRec.waitingDoors
    exact List.filter_congr fun d _ => by rw [watched, same d]
  have clear : ({ r with doors := doors } : FaceRec).gapClear = r.gapClear := by
    unfold FaceRec.gapClear FaceRec.blockedDoors; rw [watched]
  have rest : ({ r with doors := doors } : FaceRec).atRest = r.atRest := by
    unfold FaceRec.atRest
    have busy : (fun d : DoorIx => !doors[d].state.busy) = fun d : DoorIx => !r.doors[d].state.busy :=
      funext fun d => by rw [same d]
    rw [busy]; rfl
  exact ⟨h.op, by rw [clear]; exact h.failed, by rw [clear, waiting]; exact h.timer, by rw [rest]; exact h.handover,
    h.line⟩

/-- The attempts, the parameters and the classes have no part in what is settled. -/
theorem FaceRec.Settled.withParams {r : FaceRec} (h : r.Settled) (x : FaceParams) :
    (lowerAttempts x.nObst { r with params := x }).Settled :=
  FaceRec.Settled.withDoors (r := { r with params := x }) ⟨h.op, h.failed, h.timer, h.handover, h.line⟩ (fun d => by simp)
    fun d => by simp [Door.iso]

theorem FaceRec.Settled.withClasses {r : FaceRec} (h : r.Settled) (v : Vector MotionClass 4) :
    ({ r with classes := v } : FaceRec).Settled := ⟨h.op, h.failed, h.timer, h.handover, h.line⟩

/-- A change of a face that leaves it settled leaves nothing due. -/
theorem settle_modFace {p : Part} (settled : ∀ f, (p.face f).Settled) {f : Face} {g : FaceRec → FaceRec}
    (h : (g (p.face f)).Settled) : settle (p.modFace f g) = p.modFace f g :=
  settle_settled fun f' => by
    rw [Part.modFace_face]
    split
    · next e => subst e; exact h
    · exact settled f'

/-! ### The face parameters (R10, R11) -/

theorem clampTo_eq_nearest {lo hi v : Nat} (h : lo ≤ hi) : clampTo lo hi v = nearest lo hi v := by
  unfold clampTo nearest; split
  · omega
  · split <;> omega

theorem readFields_length (ws : List Nat) (bs : List Byte) : (readFields ws bs).length = ws.length := by
  induction ws generalizing bs with
  | nil => rfl
  | cons w ws ih => simp [readFields, ih]

theorem readFields_faceParams_length (bs : List Byte) : (readFields faceParamWidths bs).length = 17 :=
  readFields_length _ _

theorem FaceParams.fields_length (x : FaceParams) : x.fields.length = 17 := rfl

/-- Both readings of R10 give the same parameters for the seventeen fields of a payload. -/
theorem clampFaceParams_eq : ∀ sent : List Nat, sent.length = 17 → clampFaceParams sent = nearestParams sent
  | [a, b, c, d, e, o, g, h, i, j, k, l, m, n, q, s, t], _ => by
    have auto : clampTo 0 1000 d ≤ 2000 := (clampTo_mem (by decide) d).2.trans (by decide)
    simp [clampFaceParams, nearestParams, ← clampTo_eq_nearest, auto]

theorem nearestParams_inRange {sent : List Nat} (len : sent.length = 17) : (nearestParams sent).InRange :=
  clampFaceParams_eq sent len ▸ clampFaceParams_inRange sent

/-- The limits of Omin are even, so an even value stays even (R10). -/
theorem nearestParams_oMin_even {sent : List Nat} (even : sent.getD 5 0 % 2 = 0) : (nearestParams sent).oMin % 2 = 0 := by
  show nearest 600 2000 (sent.getD 5 0) % 2 = 0
  unfold nearest
  repeat' split
  · rfl
  · rfl
  · exact even

section
variable {f : Face} {sent : List Nat} {p : Part}

theorem loadFaceParams_refused {ans : Answer} (h : loadModeCheck (p.face f) = some ans) :
    loadFaceParams f sent p = (ans, p) := by simp [loadFaceParams, h]

variable (h : loadModeCheck (p.face f) = none)
include h

theorem loadFaceParams_odd (odd : sent.getD 5 0 % 2 = 1) : loadFaceParams f sent p = (badValue 6, p) := by
  rw [List.getD_eq_getElem?_getD] at odd
  simp [loadFaceParams, h, odd]

theorem loadFaceParams_badPhase (even : sent.getD 5 0 % 2 = 0) (bad : sent.getD 16 0 > 1) :
    loadFaceParams f sent p = (badValue 17, p) := by
  rw [List.getD_eq_getElem?_getD] at even bad
  simp [loadFaceParams, h, even, bad]

theorem loadFaceParams_taken (even : sent.getD 5 0 % 2 = 0) (good : sent.getD 16 0 ≤ 1) (len : sent.length = 17) :
    loadFaceParams f sent p = (clampAnswer (numbersClamped sent (nearestParams sent).fields),
      p.modFace f fun r => lowerAttempts (nearestParams sent).nObst { r with params := nearestParams sent }) := by
  rw [List.getD_eq_getElem?_getD] at even good
  simp [loadFaceParams, h, even, Nat.not_lt.mpr good, clampFaceParams_eq sent len]

end

/-! ### The motion classes (R7) -/

/-- Of an entry the timeout alone is clamped. -/
theorem MotionClass.clamped_eq_iff (c : MotionClass) : c.clamped = c ↔ c.timeout = c.clamped.timeout :=
  ⟨fun h => (congrArg MotionClass.timeout h).symm, fun h => by
    obtain ⟨openSpeed, closeSpeed, closeForce, timeout⟩ := c
    exact congrArg (MotionClass.mk openSpeed closeSpeed closeForce) h.symm⟩

section
variable {f : Face} {cs : Vector MotionClass 4} {p : Part}

theorem loadClasses_refused {ans : Answer} (h : loadModeCheck (p.face f) = some ans) :
    loadClasses f cs p = (ans, p) := by simp [loadClasses, h]

variable (h : loadModeCheck (p.face f) = none)
include h

theorem loadClasses_badCode {i : Fin 4} (bad : cs[i].codesOk = false)
    (first : ∀ j : Fin 4, j < i → cs[j].codesOk = true) : loadClasses f cs p = (badValue (byteOf i), p) := by
  have found : cs.toList.findIdx? (fun c => !c.codesOk) = some i.val := by
    rw [List.findIdx?_eq_some_iff_getElem]
    refine ⟨by simp, by simpa using bad, fun j lt => ?_⟩
    simpa using first ⟨j, lt.trans i.isLt⟩ lt
  simp [loadClasses, h, found]

theorem loadClasses_taken (good : ∀ i : Fin 4, cs[i].codesOk = true) :
    loadClasses f cs p =
      (clampAnswer (((List.finRange 4).filter fun i => decide ((mapVec MotionClass.clamped cs)[i] ≠ cs[i])).map fun _ => 4),
        p.modFace f fun r => { r with classes := mapVec MotionClass.clamped cs }) := by
  have found : cs.toList.findIdx? (fun c => !c.codesOk) = none := by
    rw [List.findIdx?_eq_none_iff]
    intro c mem
    obtain ⟨i, hi, rfl⟩ := List.getElem_of_mem mem
    simpa using good ⟨i, by simpa using hi⟩
  have counted : clampedFields (cs.toList.map fun c => (4, c.timeout, c.clamped.timeout)) =
      ((List.finRange 4).filter fun i => decide ((mapVec MotionClass.clamped cs)[i] ≠ cs[i])).map fun _ => 4 := by
    have entries : cs.toList = (List.finRange 4).map fun i => cs[i] := List.ext_getElem (by simp) (by simp)
    rw [entries, clampedFields, List.map_map, List.filter_map, List.map_map]
    refine congrArg (List.map _) (List.filter_congr fun i _ => ?_)
    simp [MotionClass.clamped_eq_iff]
  simp [loadClasses, h, found, counted]

end

end Sys2Proof.Machine

namespace Sys2Proof.Proofs

open Sys2Proof.Machine

/-- Settles O22: a load is refused by the first check that fails, and what a taken one stores leaves nothing due. -/
theorem loadFaceValues : Obligations.LoadFaceValues := by
  intro tag f pl s free settled here face
  refine ⟨fun len => ?_, fun len => ?_⟩
  · have count := readFields_faceParams_length (pl.drop 1)
    have served {x : Answer × Part}
        (e : loadFaceParams f (readFields faceParamWidths (pl.drop 1)) s.part = x) :
        serve .loadFaceParams tag pl s.part = .of x :=
      (serve_face (k := .loadFaceParams) (decide_eq_true len) rfl face rfl here).trans (congrArg Served.of e)
    refine ⟨fun busy => ?_, fun quiet closed => ?_, fun quiet opened odd => ?_, fun quiet opened even bad => ?_,
      fun quiet opened even good => ?_⟩
    · exact unchanged_of_refused (k := .loadFaceParams) free settled nofun
        (served (loadFaceParams_refused (loadModeCheck_enumerating busy)))
    · exact unchanged_of_refused (k := .loadFaceParams) free settled nofun
        (served (loadFaceParams_refused (loadModeCheck_closed quiet closed)))
    · exact unchanged_of_refused (k := .loadFaceParams) free settled nofun
        (served (loadFaceParams_odd (loadModeCheck_open quiet opened) odd))
    · exact unchanged_of_refused (k := .loadFaceParams) free settled nofun
        (served (loadFaceParams_badPhase (loadModeCheck_open quiet opened) even bad))
    · have run := exec_stands (k := .loadFaceParams) free nofun rfl
        (served (loadFaceParams_taken (loadModeCheck_open quiet opened) even good count))
        (settle_modFace settled ((settled f).withParams _))
      exact ⟨_, _, _, run, nearestParams_inRange count, nearestParams_oMin_even even,
        loadAnswer_numbersClamped (count.trans (FaceParams.fields_length _).symm)
          (count.trans_lt (by decide))⟩
  · have served {x : Answer × Part} (e : loadClasses f (readClasses pl) s.part = x) :
        serve .loadClasses tag pl s.part = .of x :=
      (serve_face (k := .loadClasses) (decide_eq_true len) rfl face rfl here).trans (congrArg Served.of e)
    refine ⟨fun busy => ?_, fun quiet closed => ?_, fun quiet opened i bad first => ?_,
      fun quiet opened good => ?_⟩
    · exact unchanged_of_refused (k := .loadClasses) free settled nofun
        (served (loadClasses_refused (loadModeCheck_enumerating busy)))
    · exact unchanged_of_refused (k := .loadClasses) free settled nofun
        (served (loadClasses_refused (loadModeCheck_closed quiet closed)))
    · exact unchanged_of_refused (k := .loadClasses) free settled nofun
        (served (loadClasses_badCode (loadModeCheck_open quiet opened) bad first))
    · have run := exec_stands (k := .loadClasses) free nofun rfl
        (served (loadClasses_taken (loadModeCheck_open quiet opened) good))
        (settle_modFace settled ((settled f).withClasses _))
      refine ⟨_, _, _, _, run, fun i => mapVec_get _ _ _, loadAnswer_clampAnswer ?_ fun n mem => ?_⟩
      · rw [List.length_map]
        exact (List.length_filter_le _ _).trans_lt (by decide)
      · obtain ⟨_, _, rfl⟩ := List.mem_map.mp mem
        decide

end Sys2Proof.Proofs

/-! What the notices between the blocks and the start arbiter leave of a face, for a geometry load (R6, R76, R115, R127,
R159). -/

namespace Sys2Proof.Machine

/-! ### What the gap check, the proof and the sensing leave alone -/

/-- A face record without the records the notices of R127, R159 and R160 write: the sensing, the operation, the gap check,
the secured state, ALARM and the link health. -/
def FaceRec.base (r : FaceRec) : FaceRec :=
  { r with health := Vector.replicate 24 .reset, sense := Vector.replicate 24 .reset, op := none, gap := .reset,
           secured := false, mode := { r.mode with alarm := false } }

/-- A predicate that reports keep, and changes of an allowed face that leave its base. -/
structure NoticeInv (F : Face → Prop) (I : Part → Prop) : Prop where
  report : ∀ r p, I p → I (queueReport r p)
  mod : ∀ f g p, F f → (∀ r, (g r).base = r.base) → I p → I (p.modFace f g)

section
variable {F : Face → Prop} {I : Part → Prop} (hI : NoticeInv F I) {f : Face} (hf : F f) {p : Part} (h : I p)
include hI hf h

theorem recomputeSecured_notice (c : SecuredCause) (b : Bool) : I (recomputeSecured f c b p) := by
  have set := hI.mod f (fun r => { r with secured := (p.face f).proofMet }) p hf (fun _ => rfl) h
  unfold recomputeSecured; simp only
  split
  · exact hI.report _ _ set
  · exact set

theorem gapTo_notice (new : GapState) (c : GapCause) (d : Option DoorIx) : I (gapTo f new c d p) := by
  have set := hI.mod f (fun r => r.modGap fun g => { g with state := new, timer := none }) p hf (fun _ => rfl) h
  unfold gapTo; simp only
  split
  · exact set
  · refine recomputeSecured_notice hI hf (hI.report _ _ ?_) _ _
    exact hI.mod f (fun r => r.modMode fun m => { m with alarm := decide (new = .failed) }) _ hf (fun _ => rfl) set

theorem gapPending_notice (c : GapCause) (d : Option DoorIx) : I (gapPending f c d p) := by
  unfold gapPending
  split
  · exact gapTo_notice hI hf h _ _ _
  · exact gapTo_notice hI hf h _ _ _
  all_goals exact h

theorem doorGap_notice (d : DoorIx) (new : DoorState) : I (doorGap f d new p) := by
  have resumed (r : Report) := recomputeSecured_notice hI hf (hI.report r _
    (hI.mod f (fun r => r.modMode fun m => { m with alarm := false }) _ hf (fun _ => rfl)
      (hI.mod f (fun r => r.modGap fun g => { g with state := .running, timer := none }) p hf (fun _ => rfl) h)))
      .gap false
  unfold doorGap; simp only
  repeat' split
  all_goals first
    | exact h
    | exact gapTo_notice hI hf h _ _ _
    | exact gapPending_notice hI hf h _ _
    | exact resumed _

theorem endGapCheck_notice (c : GapCause) : I (endGapCheck f c p) :=
  gapTo_notice hI hf (hI.mod f endCycles p hf (fun _ => rfl) h) _ _ _

end

/-- What is read of the base of a face is kept. -/
theorem base_noticeInv {α : Type} (v : FaceRec → α) (hv : ∀ r, v r.base = v r) (f : Face) (x : α) :
    NoticeInv (fun _ => True) fun q => v (q.face f) = x where
  report r p h := by rwa [queueReport_face]
  mod f' g p _ hg h := by
    rw [Part.modFace_face]
    split
    · next e => subst e; rw [← hv, hg, hv]; exact h
    · exact h

/-! ### The frame of a face -/

/-- What a geometry load says of a face, but for its doors' states. -/
structure FaceFrame where
  geom : Option Geometry
  classes : Vector MotionClass 4
  params : FaceParams
  berth : Berth
  align : AlignRec
  linkState : LinkState
  linkG : Nat
  mode : FaceMode
  doors : DoorIx → Bool × Bool × Counts × Verdict

/-- The fields of a door record in the frame. -/
def Door.frame (x : Door) : Bool × Bool × Counts × Verdict := (x.hostIso, x.latch, x.counts, x.verdict)

def FaceRec.frame (r : FaceRec) : FaceFrame :=
  ⟨r.geom, r.classes, r.params, r.berth, r.align, r.link.state, r.link.g, r.mode.mode, fun d => r.doors[d].frame⟩

theorem FaceRec.modDoor_frame (r : FaceRec) (d : DoorIx) (g : Door → Door)
    (h : (g r.doors[d.val]).frame = r.doors[d.val].frame) : (r.modDoor d g).frame = r.frame := by
  have each : ∀ e : DoorIx, (r.modDoor d g).doors[e.val].frame = r.doors[e.val].frame := fun e => by
    rw [FaceRec.modDoor_doors]
    split
    · next q => subst q; exact h
    · rfl
  simp only [FaceRec.frame, Fin.getElem_fin, each, modDoor_geom, modDoor_classes, modDoor_params, modDoor_berth,
    modDoor_align, modDoor_link, modDoor_mode]

theorem handCue_frame (d : DoorIx) (c : Cue) (r : FaceRec) : (handCue d c r).frame = r.frame := by
  unfold handCue; split <;> rfl

theorem chooseCue_frame (d : DoorIx) (r : FaceRec) : (chooseCue d r).frame = r.frame := by
  unfold chooseCue; simp only
  split
  · rw [handCue_frame]; exact r.modDoor_frame d _ rfl
  · rfl

theorem placeMove_frame (a : LinkAction) (ts : List MoveTarget) (r : FaceRec) : (r.placeMove a ts).frame = r.frame := by
  have drop : ∀ (ts : List MoveTarget) (l : Link), ((ts.foldl (fun l t => dropPending t.door l) l).state,
      (ts.foldl (fun l t => dropPending t.door l) l).g) = (l.state, l.g) := fun ts l =>
    foldl_keeps (fun l : Link => (l.state, l.g)) (fun l (t : MoveTarget) => dropPending t.door l) (fun _ _ => rfl) ts l
  unfold FaceRec.placeMove; simp only
  split
  · rfl
  · have same := drop (ts.filter fun t => r.configured t.door) r.link
    simp only [Prod.mk.injEq] at same
    simp only [FaceRec.frame, FaceRec.modLink_link, same]
    rfl

/-- A predicate that reports and the arbiter's records do not touch, kept by changes of an allowed face that leave its
frame. -/
structure FrameInv (F : Face → Prop) (I : Part → Prop) : Prop where
  report : ∀ r p, I p → I (queueReport r p)
  arb : ∀ a p, I p → I { p with arb := a }
  mod : ∀ f g p, F f → (g (p.face f)).frame = (p.face f).frame → I p → I (p.modFace f g)

theorem FrameInv.notice {F : Face → Prop} {I : Part → Prop} (hI : FrameInv F I) : NoticeInv F I where
  report := hI.report
  mod f g p hf hg h := hI.mod f g p hf (congrArg FaceRec.frame (hg _) :) h

theorem frame_frameInv (f : Face) (x : FaceFrame) : FrameInv (fun _ => True) fun q => (q.face f).frame = x where
  report r p h := by rwa [queueReport_face]
  arb a p h := by cases f <;> exact h
  mod f' g p _ hg h := by
    rw [Part.modFace_face]
    split
    · next e => subst e; exact hg.trans h
    · exact h

/-- A face is unchanged by what happens to the other. -/
theorem other_frameInv (f : Face) (x : FaceRec) : FrameInv (· ≠ f) fun q => q.face f = x where
  report r p h := by rwa [queueReport_face]
  arb a p h := by cases f <;> exact h
  mod f' g p hf _ h := by rwa [Part.modFace_other p hf]

section
variable {F : Face → Prop} {I : Part → Prop} (hI : FrameInv F I)
include hI

theorem changeDoor_frame {f : Face} (hf : F f) {p : Part} (h : I p) (d : DoorIx) (c : DoorCause) {g : Door → Door}
    (hg : ∀ x, (g x).frame = x.frame) : I (changeDoor f d c g p) := by
  have set := hI.mod f (fun r => r.modDoor d fun _ => g (p.face f).doors[d]) p hf
    (FaceRec.modDoor_frame _ _ _ (hg _)) h
  have told (x : Prop) [Decidable x] (rep : Report) : I (if x then p.modFace f fun r => r.modDoor d fun _ =>
      g (p.face f).doors[d] else queueReport rep (p.modFace f fun r => r.modDoor d fun _ => g (p.face f).doors[d])) := by
    split
    · exact set
    · exact hI.report _ _ set
  unfold changeDoor; simp only
  refine hI.mod f _ _ hf (chooseCue_frame d _) ?_
  split
  · exact told _ _
  · refine doorGap_notice hI.notice hf ?_ d _
    exact hI.notice.mod f (fun r => (sequencerNotice d (g (p.face f).doors[d]) r).modSense d
      (senseAt r.params (p.face f).doors[d].state (g (p.face f).doors[d]).state)) _ hf (fun _ => rfl) (told _ _)

omit hI in
theorem forDoors_frame {op : DoorIx → Part → Part} (hop : ∀ d p, I p → I (op d p)) (ds : List DoorIx) {p : Part}
    (h : I p) : I (forDoors ds op p) := by
  unfold forDoors
  induction ds generalizing p with
  | nil => exact h
  | cons d ds ih => exact ih (hop d p h)

variable (every : ∀ f, F f)
include every

theorem grantLoop_frame (n : Nat) (gs : List Grant) {p : Part} (h : I p) : I (grantLoop n gs p).1 := by
  induction n generalizing gs p with
  | zero => exact h
  | succ n ih =>
    unfold grantLoop
    repeat' split
    · exact h
    · exact ih _ (changeDoor_frame hI (every _) (hI.arb _ _ h) _ _ fun _ => rfl)
    · exact h

theorem issueGrants_frame (gs : List Grant) {p : Part} (h : I p) : I (issueGrants gs p) := by
  unfold issueGrants
  generalize (gs.map fun g => (g.ref.face, g.action)).eraseDups = ks
  induction ks generalizing p with
  | nil => exact h
  | cons k ks ih => exact ih (hI.mod k.1 _ _ (every _) (placeMove_frame _ _ _) h)

theorem grantEvent_frame {p : Part} (h : I p) : I (grantEvent p) :=
  issueGrants_frame hI every _ (grantLoop_frame hI every _ _ h)

theorem endStart_frame (f : Face) (d : DoorIx) {p : Part} (h : I p) : I (endStart f d p) := by
  unfold endStart
  split
  · exact grantEvent_frame hI every
      (hI.mod f _ _ (every f) (FaceRec.modDoor_frame _ _ _ rfl) (hI.arb _ _ h))
  · exact h

theorem leaveMachineryAll_frame (f : Face) {p : Part} (h : I p) : I (leaveMachineryAll f p) :=
  forDoors_frame (fun d _ => endStart_frame hI every f d) _ (hI.arb _ _ h)

end

end Sys2Proof.Machine

/-! LOAD_GEOMETRY (R3 to R6): what the load leaves of the face, and what the end of the event then leaves of it. -/

namespace Sys2Proof.Machine

/-! ### The doors of the face (R6, R75, R96) -/

/-- A door that has just been configured: UNKNOWN, without report, order or key, its cue dark. -/
structure Door.Blank (x : Door) : Prop where
  state : x.state = .unknown
  report : x.report = none
  late : x.late = false
  keyIso : x.keyIso = false
  cue : x.cue = .dark

theorem handCue_doors (d : DoorIx) (c : Cue) (r : FaceRec) : (handCue d c r).doors = r.doors := by
  unfold handCue; split <;> rfl

theorem chooseCue_doors_other {d e : DoorIx} (h : d ≠ e) (r : FaceRec) :
    (chooseCue d r).doors[e.val] = r.doors[e.val] := by
  unfold chooseCue; simp only
  split
  · simp only [handCue_doors]; exact r.modDoor_doors_other h _
  · rfl

/-- The cue of a configured door is the chosen one (R96). -/
theorem chooseCue_doors_self {d : DoorIx} {r : FaceRec} (h : r.configured d = true) :
    (chooseCue d r).doors[d.val] = { r.doors[d.val] with cue := chosenCue r d } := by
  unfold chooseCue; simp only
  split
  · simp only [handCue_doors]; exact r.modDoor_doors_self d _
  · next same =>
    have shown : r.doors[d.val].cue = chosenCue r d := by
      by_contra differs
      exact same ⟨h, fun e => differs e.symm⟩
    exact congrArg (fun c => { r.doors[d.val] with cue := c }) shown

theorem chosenCue_unknown {r : FaceRec} {d : DoorIx} (h : r.doors[d.val].state = .unknown) : chosenCue r d = .dark := by
  simp [chosenCue, h]

/-- Where every configured door is blank no cue changes (R96). -/
theorem refreshCues_blank {r : FaceRec} (h : ∀ d : DoorIx, r.configured d = true → r.doors[d.val].Blank) :
    refreshCues r = r := by
  have each (d : DoorIx) : chooseCue d r = r := by
    unfold chooseCue
    refine if_neg fun ⟨set, differs⟩ => differs ?_
    rw [chosenCue_unknown (h d set).state]
    exact (h d set).cue.symm
  exact List.foldl_fixed' each allDoors

/-- A change of a door, but for its cue: what R127 and R159 hang on it does not reach the base of the face. -/
theorem changeDoor_face (f : Face) (d : DoorIx) (c : DoorCause) (g : Door → Door) (p : Part) :
    ∃ r, (changeDoor f d c g p).face f = chooseCue d r ∧
      r.base = ((p.face f).modDoor d fun _ => g (p.face f).doors[d.val]).base := by
  have hI := base_noticeInv FaceRec.base (fun _ => rfl) f
    ((p.face f).modDoor d fun _ => g (p.face f).doors[d.val]).base
  have set : ((p.modFace f fun r => r.modDoor d fun _ => g (p.face f).doors[d.val]).face f).base =
      ((p.face f).modDoor d fun _ => g (p.face f).doors[d.val]).base := by rw [Part.modFace_self]
  have told (x : Prop) [Decidable x] (rep : Report) :
      ((if x then p.modFace f fun r => r.modDoor d fun _ => g (p.face f).doors[d.val] else
        queueReport rep (p.modFace f fun r => r.modDoor d fun _ => g (p.face f).doors[d.val])).face f).base =
      ((p.face f).modDoor d fun _ => g (p.face f).doors[d.val]).base := by
    split
    · exact set
    · exact hI.report _ _ set
  unfold changeDoor; simp only
  rw [Part.modFace_self]
  refine ⟨_, rfl, ?_⟩
  split
  · exact told _ _
  · refine doorGap_notice hI trivial ?_ d _
    exact hI.mod f (fun r => (sequencerNotice d (g (p.face f).doors[d]) r).modSense d
      (senseAt r.params (p.face f).doors[d].state (g (p.face f).doors[d]).state)) _ trivial (fun _ => rfl) (told _ _)

section
variable {f : Face} {d : DoorIx} {c : DoorCause} {g : Door → Door} {p : Part}

theorem changeDoor_doors_other {e : DoorIx} (h : d ≠ e) :
    ((changeDoor f d c g p).face f).doors[e.val] = (p.face f).doors[e.val] := by
  obtain ⟨r, face, base⟩ := changeDoor_face f d c g p
  have doors : r.doors = ((p.face f).modDoor d fun _ => g (p.face f).doors[d.val]).doors :=
    (congrArg FaceRec.doors base :)
  rw [face, chooseCue_doors_other h]
  simp only [doors]
  exact (p.face f).modDoor_doors_other h _

/-- A configured door that enters UNKNOWN shows the dark cue (R96). -/
theorem changeDoor_doors_unknown (set : (p.face f).configured d = true)
    (unknown : (g (p.face f).doors[d.val]).state = .unknown) :
    ((changeDoor f d c g p).face f).doors[d.val] = { g (p.face f).doors[d.val] with cue := .dark } := by
  obtain ⟨r, face, base⟩ := changeDoor_face f d c g p
  have doors : r.doors[d.val] = g (p.face f).doors[d.val] := by
    have all : r.doors = ((p.face f).modDoor d fun _ => g (p.face f).doors[d.val]).doors :=
      (congrArg FaceRec.doors base :)
    simp only [all]
    exact (p.face f).modDoor_doors_self d _
  have geom : r.geom = (p.face f).geom := (congrArg FaceRec.geom base :)
  have here : r.configured d = true := by
    unfold FaceRec.configured FaceRec.n at set ⊢
    rwa [geom]
  rw [face, chooseCue_doors_self here, chosenCue_unknown (by rw [doors]; exact unknown), doors]

end

theorem Door.reconfigured_blank (x : Door) : ({ x.reconfigured with cue := .dark } : Door).Blank :=
  ⟨rfl, rfl, rfl, rfl, rfl⟩

/-- Every door that the load reaches, or that was blank before it, is blank after it. -/
theorem forDoors_reconfigured_blank (f : Face) (c : DoorCause) (ds : List DoorIx) {p : Part}
    (set : ∀ d ∈ ds, (p.face f).configured d = true) {e : DoorIx}
    (h : e ∈ ds ∨ (p.face f).doors[e.val].Blank) :
    ((forDoors ds (fun d => changeDoor f d c Door.reconfigured) p).face f).doors[e.val].Blank := by
  unfold forDoors
  induction ds generalizing p with
  | nil => exact h.resolve_left List.not_mem_nil
  | cons d ds ih =>
    have kept : ((changeDoor f d c Door.reconfigured p).face f).frame = (p.face f).frame :=
      changeDoor_frame (frame_frameInv f (p.face f).frame) trivial rfl d c fun _ => rfl
    have geom : ((changeDoor f d c Door.reconfigured p).face f).geom = (p.face f).geom := congrArg FaceFrame.geom kept
    refine ih (fun d' mem => ?_) ?_
    · have still := set d' (List.mem_cons_of_mem d mem)
      unfold FaceRec.configured FaceRec.n at still ⊢
      rwa [geom]
    · by_cases same : d = e
      · subst same
        refine .inr ?_
        rw [changeDoor_doors_unknown (set d (List.mem_cons_self ..)) rfl]
        exact Door.reconfigured_blank _
      · rw [changeDoor_doors_other same]
        exact h.imp_left fun mem => (List.mem_cons.mp mem).resolve_left fun e => same e.symm

end Sys2Proof.Machine

/-! LOAD_GEOMETRY, continued: the face as the load and the end of the event leave it. -/

namespace Sys2Proof.Machine

/-! ### The records of the face (R6, R34, R51, R57) -/

/-- The alignment record that a geometry load leaves (R51). -/
def reloadedAlign (r : FaceRec) (g : Geometry) : AlignRec :=
  ⟨.notComputed, .config, r.align.dwell, .notAnnounced, none, g.doors.map fun _ => .unknown, []⟩

/-- The frame that a load of `g` leaves of the face `r`, whose berth is then `b`. -/
def reloadedFrame (r : FaceRec) (g : Geometry) (b : Berth) : FaceFrame :=
  ⟨some g, r.classes, r.params, b, reloadedAlign r g, .idle, r.link.g, r.mode.mode,
    fun d => (r.doors[d].hostIso, r.doors[d].latch, r.doors[d].counts, .vUnknown)⟩

/-- Verdicts UNKNOWN handed to doors that hold no other change nothing of the frame. -/
theorem foldl_handVerdict_frame {a : AlignRec} (none : ∀ d, (a.entryOf d).verdict = .vUnknown) (ds : List DoorIx)
    {r : FaceRec} (unknown : ∀ d : DoorIx, r.doors[d.val].verdict = .vUnknown) :
    (ds.foldl (fun r d => handVerdict a d r) r).frame = r.frame := by
  induction ds generalizing r with
  | nil => rfl
  | cons d ds ih =>
    have same : (handVerdict a d r).frame = r.frame := by
      unfold handVerdict
      rw [chooseCue_frame]
      refine r.modDoor_frame d _ ?_
      simp only [Door.frame, none d, unknown d]
    have still (e : DoorIx) : (handVerdict a d r).doors[e.val].verdict = r.doors[e.val].verdict :=
      congrArg (fun x : FaceFrame => (x.doors e).2.2.2) same
    rw [List.foldl_cons, ih fun e => (still e).trans (unknown e), same]

theorem clearedAlign_entryOf (r : FaceRec) (c : AlignCause) (d : DoorIx) :
    (clearedAlign r c).entryOf d = .unknown := by
  unfold clearedAlign AlignRec.entryOf
  rw [List.getElem?_replicate]
  split <;> rfl

/-- The frame of a face whose records the load has set and whose alignment record it has cleared. -/
theorem configure_frame {x r : FaceRec} (same : x.frame = r.frame) (g : Geometry) :
    ({ x.configure g with align := clearedAlign (x.configure g) .config } : FaceRec).frame =
      reloadedFrame r g (r.berth.configure g.m) := by
  have doors (d : DoorIx) : x.doors[d].frame = r.doors[d].frame := congrFun (congrArg FaceFrame.doors same) d
  simp only [Door.frame, Prod.mk.injEq] at doors
  have classes : x.classes = r.classes := congrArg FaceFrame.classes same
  have params : x.params = r.params := congrArg FaceFrame.params same
  have berth : x.berth = r.berth := congrArg FaceFrame.berth same
  have align : x.align = r.align := congrArg FaceFrame.align same
  have linkG : x.link.g = r.link.g := congrArg FaceFrame.linkG same
  have mode : x.mode.mode = r.mode.mode := congrArg FaceFrame.mode same
  simp only [FaceRec.frame, reloadedFrame, reloadedAlign, clearedAlign, FaceRec.configure, Door.frame, FaceRec.n,
    Geometry.n, classes, params, berth, align, mode, Link.toIdle, Link.quieten, linkG, List.map_const']
  congr 1
  funext d
  obtain ⟨hostIso, latch, counts, _⟩ := doors d
  simpa using ⟨hostIso, latch, counts⟩

/-- The part once the load has set the records of the face, before its doors change. -/
def loadRecords (f : Face) (g : Geometry) (p : Part) : Part :=
  (leaveMachineryAll f p).modFace f (FaceRec.configure g)

/-- The part once the load has changed the doors of the face. -/
def loadDoors (f : Face) (g : Geometry) (p : Part) : Part :=
  forDoors ((loadRecords f g p).face f).configuredDoors (fun d => changeDoor f d .config Door.reconfigured)
    (clearAlign f .config (loadRecords f g p))

theorem takeGeometry_eq (f : Face) (g : Geometry) (p : Part) :
    takeGeometry f g p =
      (recomputeSecured f .config false (endGapCheck f .config (loadDoors f g p))).modFace f resetHealth := rfl

section
variable (f : Face) (g : Geometry) (p : Part)

theorem clearAlign_frame :
    ((clearAlign f .config (loadRecords f g p)).face f).frame =
      reloadedFrame (p.face f) g ((p.face f).berth.configure g.m) := by
  have left : ((leaveMachineryAll f p).face f).frame = (p.face f).frame :=
    leaveMachineryAll_frame (frame_frameInv f _) (fun _ => trivial) f rfl
  unfold clearAlign writeAlign
  rw [Part.modFace_self, foldl_handVerdict_frame fun d => by rw [clearedAlign_entryOf]; rfl]
  · rw [loadRecords, Part.modFace_self]
    exact configure_frame left g
  · intro d
    rw [loadRecords, Part.modFace_self]
    simp [FaceRec.configure]

theorem loadDoors_frame :
    ((loadDoors f g p).face f).frame = reloadedFrame (p.face f) g ((p.face f).berth.configure g.m) := by
  have hI := frame_frameInv f (reloadedFrame (p.face f) g ((p.face f).berth.configure g.m))
  have each (d : DoorIx) (q : Part) (h : (q.face f).frame = reloadedFrame (p.face f) g ((p.face f).berth.configure g.m)) :
      ((changeDoor f d .config Door.reconfigured q).face f).frame =
        reloadedFrame (p.face f) g ((p.face f).berth.configure g.m) :=
    changeDoor_frame hI trivial h d .config fun _ => rfl
  exact forDoors_frame each _ (clearAlign_frame f g p)

end

end Sys2Proof.Machine

/-! LOAD_GEOMETRY, settled: what a load leaves of its face stands at the end of the event, and the other face is left
alone. -/

namespace Sys2Proof.Machine

/-! ### The face after the load (R6, R34, R58, R126) -/

/-- The face as a load of `g` leaves it, against the face `r` that took it. -/
structure FaceRec.Reloaded (r : FaceRec) (g : Geometry) (x : FaceRec) : Prop where
  frame : x.frame = reloadedFrame r g x.berth
  berth : x.berth.axles = 0 ∧ x.berth.configuring = true ∧ x.berth.settle = none ∧ x.berth.detectors.length = g.m
  gap : x.gap.state = .notRequired
  health : ∀ d : DoorIx, x.health[d.val] = Health.reset
  doors : ∀ d : DoorIx, x.configured d = true → x.doors[d.val].Blank

theorem recomputeSecured_gap (f : Face) (c : SecuredCause) (b : Bool) (p : Part) :
    ((recomputeSecured f c b p).face f).gap = (p.face f).gap := by
  unfold recomputeSecured; simp only
  split
  · rw [queueReport_face, Part.modFace_self]
  · rw [Part.modFace_self]

theorem gapTo_state (f : Face) (new : GapState) (c : GapCause) (d : Option DoorIx) (p : Part) :
    ((gapTo f new c d p).face f).gap.state = new := by
  unfold gapTo; simp only
  split
  · rw [Part.modFace_self]; rfl
  · rw [recomputeSecured_gap]
    unfold queueGapReport
    rw [queueReport_face, Part.modFace_self, Part.modFace_self]
    rfl

/-- The proof and the gap check of a load leave what the base of the face holds. -/
theorem takeGeometry_base {α : Type} (v : FaceRec → α) (hv : ∀ r, v r.base = v r) (f : Face) (g : Geometry) (p : Part) :
    v ((takeGeometry f g p).face f) = v ((loadDoors f g p).face f) := by
  have hI := base_noticeInv v hv f (v ((loadDoors f g p).face f))
  rw [takeGeometry_eq]
  exact hI.mod f resetHealth _ trivial (fun _ => rfl)
    (recomputeSecured_notice hI trivial (endGapCheck_notice hI trivial rfl .config) .config false)

theorem FaceRec.configured_of_geom {x y : FaceRec} (h : x.geom = y.geom) : x.configured = y.configured := by
  funext d; unfold FaceRec.configured FaceRec.n; rw [h]

theorem takeGeometry_reloaded (f : Face) (g : Geometry) (p : Part) :
    (p.face f).Reloaded g ((takeGeometry f g p).face f) := by
  have frame : ((takeGeometry f g p).face f).frame = reloadedFrame (p.face f) g ((p.face f).berth.configure g.m) :=
    (takeGeometry_base FaceRec.frame (fun _ => rfl) f g p).trans (loadDoors_frame f g p)
  have berth : ((takeGeometry f g p).face f).berth = (p.face f).berth.configure g.m := congrArg FaceFrame.berth frame
  refine ⟨by rw [berth]; exact frame, ?_, ?_, fun d => ?_, fun d set => ?_⟩
  · rw [berth]; exact ⟨rfl, rfl, rfl, by simp [Berth.configure]⟩
  · rw [takeGeometry_eq, Part.modFace_self]
    have untouched : ∀ x : FaceRec, (resetHealth x).gap = x.gap := fun _ => rfl
    rw [untouched, recomputeSecured_gap]
    exact gapTo_state ..
  · rw [takeGeometry_eq, Part.modFace_self]
    simp [resetHealth]
  · have doors := takeGeometry_base FaceRec.doors (fun _ => rfl) f g p
    have geom : ((takeGeometry f g p).face f).geom = some g := congrArg FaceFrame.geom frame
    have cleared : ((clearAlign f .config (loadRecords f g p)).face f).geom = some g :=
      congrArg FaceFrame.geom (clearAlign_frame f g p)
    have loaded : ((loadRecords f g p).face f).geom = some g := by rw [loadRecords, Part.modFace_self]; rfl
    have here : ((loadRecords f g p).face f).configured d = true := by
      rwa [FaceRec.configured_of_geom (loaded.trans geom.symm)]
    simp only [doors]
    refine forDoors_reconfigured_blank f .config _ (fun e mem => ?_)
      (.inl (List.mem_filter.mpr ⟨List.mem_finRange d, here⟩))
    rw [FaceRec.configured_of_geom (cleared.trans loaded.symm)]
    exact (List.mem_filter.mp mem).2

/-! ### The end of the event -/

section
variable {r : FaceRec} {g : Geometry}

/-- A change of the operation, the gap timer and the like leaves the face reloaded. -/
theorem FaceRec.Reloaded.same {x y : FaceRec} (h : r.Reloaded g x) (frame : y.frame = x.frame)
    (gap : y.gap.state = x.gap.state) (health : y.health = x.health) (doors : y.doors = x.doors) : r.Reloaded g y := by
  have berth : y.berth = x.berth := congrArg FaceFrame.berth frame
  have geom : y.geom = x.geom := congrArg FaceFrame.geom frame
  refine ⟨by rw [frame, berth]; exact h.frame, by rw [berth]; exact h.berth, gap.trans h.gap, ?_, ?_⟩
  · simp only [health]; exact h.health
  · simp only [doors, FaceRec.configured_of_geom geom]; exact h.doors

theorem FaceRec.Reloaded.mode {x : FaceRec} (h : r.Reloaded g x) : x.mode.mode = r.mode.mode :=
  congrArg FaceFrame.mode h.frame

/-- A berth that changes its state and stops its settle timer leaves the face reloaded, its cues as they are. -/
theorem FaceRec.Reloaded.cleared {x : FaceRec} (h : r.Reloaded g x) (s : BerthState) :
    r.Reloaded g (refreshCues (x.modBerth fun b => { b with state := s, settle := none })) := by
  have blank : ∀ d : DoorIx, (x.modBerth fun b => { b with state := s, settle := none }).configured d = true →
      (x.modBerth fun b => { b with state := s, settle := none }).doors[d.val].Blank := h.doors
  rw [refreshCues_blank blank]
  obtain ⟨axles, configuring, _, detectors⟩ := h.berth
  have frame : ({ x.frame with berth := { x.berth with state := s, settle := none } } : FaceFrame) =
      reloadedFrame r g { x.berth with state := s, settle := none } := by rw [h.frame]; rfl
  exact ⟨frame, ⟨axles, configuring, rfl, detectors⟩, h.gap, h.health, blank⟩

variable {f : Face} {p : Part} (taken : r.takesLoads)
include taken

theorem closeEndNotice_reloaded (h : r.Reloaded g (p.face f)) : r.Reloaded g ((closeEndNotice f p).face f) := by
  have awake : wakeFace f p = p := by
    unfold wakeFace
    refine if_neg ?_
    rw [h.mode]
    rcases taken with mode | mode <;> rw [mode] <;> decide
  have noGap (prev : BerthState) (q : Part) : berthGap f prev .cleared q = q := by cases prev <;> rfl
  unfold closeEndNotice; simp only
  split
  · unfold enterBerth; simp only [noGap, awake, ite_self]
    split
    · rw [Part.modFace_self]; exact h.cleared .cleared
    · rw [queueReport_face, Part.modFace_self]; exact h.cleared .cleared
  · exact h

theorem endOp_reloaded (h : r.Reloaded g (p.face f)) (e : EndCause) (go : GapOutcome) :
    r.Reloaded g ((endOp f e go p).face f) := by
  unfold endOp
  split
  · exact h
  · next op _ =>
    have ended : r.Reloaded g (((queueReport (.opDone f op e go) p).modFace f fun r => { r with op := none }).face f) := by
      rw [Part.modFace_self, queueReport_face]
      exact h.same rfl rfl rfl rfl
    simp only
    split
    · exact ended
    · exact closeEndNotice_reloaded taken ended

theorem seqCheck_reloaded (h : r.Reloaded g (p.face f)) : r.Reloaded g ((seqCheck f p).face f) := by
  unfold seqCheck
  rw [h.gap]
  repeat' split
  all_goals first
    | exact h
    | exact endOp_reloaded taken h _ _
    | contradiction

omit taken in
theorem gapUpdate_reloaded (h : r.Reloaded g (p.face f)) : r.Reloaded g ((gapUpdate f p).face f) := by
  unfold gapUpdate; simp only
  have stands : (p.face f).gap.state ≠ .failed := by rw [h.gap]; decide
  rw [if_neg fun failed => stands failed.1, Part.modFace_self]
  exact h.same rfl rfl rfl rfl

theorem settleFace_reloaded (h : r.Reloaded g (p.face f)) : r.Reloaded g ((settleFace f p).face f) := by
  have updated := gapUpdate_reloaded (seqCheck_reloaded taken h)
  unfold settleFace handoverCheck; simp only
  rw [if_neg]
  · exact updated
  · rintro ⟨auto, _⟩
    rw [updated.mode] at auto
    rcases taken with mode | mode <;> exact absurd (mode.symm.trans auto) nofun

omit taken in
/-- The link stands in IDLE and begins no frame (R57). -/
theorem linkPump_reloaded {x : FaceRec} (h : r.Reloaded g x) : linkPump x = x := by
  have idle : x.link.state = .idle := congrArg FaceFrame.linkState h.frame
  unfold linkPump
  split
  · rw [idle]
  · rfl

end

/-- A face keeps what its own rules and its line keep at the end of an event. -/
theorem settle_face (P : FaceRec → Prop) (f : Face) (rules : ∀ p : Part, P (p.face f) → P ((settleFace f p).face f))
    (line : ∀ x, P x → P (linkPump x)) {p : Part} (h : P (p.face f)) : P ((settle p).face f) := by
  have other (f' : Face) (hf : f' ≠ f) (q : Part) : (settleFace f' q).face f = q.face f :=
    settleFace_inv (F := (· ≠ f)) (I := fun q' => q'.face f = q.face f)
      ⟨fun _ _ k => by rwa [queueReport_face], fun _ _ _ k _ e => by rwa [Part.modFace_other _ k]⟩ f' hf rfl
  unfold settle; simp only
  cases f with
  | A =>
    rw [Part.modFace_other _ (by decide), Part.modFace_self, other .B (by decide)]
    exact line _ (rules _ h)
  | B =>
    rw [Part.modFace_self, Part.modFace_other _ (by decide)]
    exact line _ (rules _ (by rwa [other .A (by decide)]))

theorem settle_reloaded {r : FaceRec} {g : Geometry} {f : Face} {p : Part} (taken : r.takesLoads)
    (h : r.Reloaded g (p.face f)) : r.Reloaded g ((settle p).face f) :=
  settle_face (r.Reloaded g) f (fun _ k => settleFace_reloaded taken k)
    (fun _ k => by rwa [linkPump_reloaded k]) h

/-- A settled face that an event has left alone is left alone by the end of the event. -/
theorem settle_untouched {f : Face} {p : Part} {x : FaceRec} (settled : x.Settled) (h : p.face f = x) :
    (settle p).face f = x :=
  settle_face (· = x) f (fun q k => by rw [settleFace_even (by rw [k]; exact settled.even)]; exact k)
    (fun y k => by rw [k]; exact linkPump_settled settled) h

/-- A load leaves the other face alone where no door of its own leaves the starting set (R6, R117). -/
theorem takeGeometry_other {f f' : Face} (hf : f' ≠ f) (g : Geometry) {p : Part}
    (still : ∀ x ∈ p.arb.starting, x.face ≠ f) : (takeGeometry f g p).face f' = p.face f' := by
  have none : p.startingOf f = [] := by
    refine List.filter_eq_nil_iff.mpr fun d _ starts => ?_
    exact still _ (List.contains_iff_mem.mp starts) rfl
  have left : (leaveMachineryAll f p).face f' = p.face f' := by
    have unstarted : leaveMachineryAll f p = leaveQueueAll f p := by
      show forDoors (p.startingOf f) (endStart f) (leaveQueueAll f p) = leaveQueueAll f p
      rw [none]; rfl
    rw [unstarted]
    cases f' <;> rfl
  have hF := other_frameInv f' (p.face f')
  have off : f ≠ f' := hf.symm
  have records : (clearAlign f .config (loadRecords f g p)).face f' = p.face f' := by
    rw [clearAlign, writeAlign, Part.modFace_other _ off, loadRecords, Part.modFace_other _ off, left]
  have each (d : DoorIx) (q : Part) (h : q.face f' = p.face f') :
      (changeDoor f d .config Door.reconfigured q).face f' = p.face f' :=
    changeDoor_frame hF off h d .config fun _ => rfl
  have doors : (loadDoors f g p).face f' = p.face f' := forDoors_frame each _ records
  rw [takeGeometry_eq, Part.modFace_other _ off]
  exact recomputeSecured_notice hF.notice off (endGapCheck_notice hF.notice off doors .config) .config false

/-! ### The checks of a load (R3 to R5) -/

/-- The checks of R5 that a door entry passes by itself. -/
def DoorGeom.InRange (x : DoorGeom) : Prop :=
  x.w % 2 = 0 ∧ 1200 ≤ x.w ∧ x.w ≤ 3600 ∧ x.cls ≤ 3 ∧ x.w / 2 ≤ x.xc ∧ x.xc + x.w / 2 ≤ faceEnd

/-- The checks of R5 that a door entry passes after the one before it. -/
def DoorGeom.Before (x y : DoorGeom) : Prop := x.xc < y.xc ∧ x.xc + x.w / 2 + y.w / 2 ≤ y.xc

theorem doorGeomOk_iff (prev : Option DoorGeom) (x : DoorGeom) :
    doorGeomOk prev x = true ↔ x.InRange ∧ ∀ q ∈ prev, q.Before x := by
  cases prev <;> simp only [doorGeomOk, Bool.and_eq_true, decide_eq_true_eq, DoorGeom.InRange, DoorGeom.Before,
    and_assoc, Option.mem_def, Option.some.injEq, forall_eq', reduceCtorEq, false_implies, implies_true]

theorem firstBadDoor_eq_none_iff (i : Nat) (prev : Option DoorGeom) (ds : List DoorGeom) :
    firstBadDoor i prev ds = none ↔
      (∀ x ∈ ds, x.InRange) ∧ (prev.toList ++ ds).IsChain DoorGeom.Before := by
  induction ds generalizing i prev with
  | nil => cases prev <;> simp [firstBadDoor]
  | cons d ds ih =>
    have first : firstBadDoor i prev (d :: ds) = none ↔
        doorGeomOk prev d = true ∧ firstBadDoor (i + 1) (some d) ds = none := by
      rw [firstBadDoor]; split <;> simp [*]
    have chain : (prev.toList ++ d :: ds).IsChain DoorGeom.Before ↔
        (∀ q ∈ prev, q.Before d) ∧ (d :: ds).IsChain DoorGeom.Before := by cases prev <;> simp
    rw [first, ih, doorGeomOk_iff, chain, List.forall_mem_cons, Option.toList_some, List.singleton_append]
    tauto

theorem Geometry.valid_iff (g : Geometry) : g.Valid ↔ g.arrayOk = true ∧ firstBadDoor 0 none g.doors = none := by
  rw [firstBadDoor_eq_none_iff]
  simp only [Geometry.arrayOk, Bool.and_eq_true, decide_eq_true_eq, Option.toList_none, List.nil_append,
    ← neighbours_iff]
  constructor
  · intro ⟨⟨n1, n24⟩, ⟨m2, m16⟩, ⟨even, p20, p500⟩, array, ⟨s1, s2⟩, doors, apart⟩
    exact ⟨⟨⟨⟨⟨⟨⟨⟨⟨⟨n1, n24⟩, m2⟩, m16⟩, even⟩, p20⟩, p500⟩, array⟩, s1⟩, s2⟩, doors, apart⟩
  · intro ⟨⟨⟨⟨⟨⟨⟨⟨⟨⟨n1, n24⟩, m2⟩, m16⟩, even⟩, p20⟩, p500⟩, array⟩, s1⟩, s2⟩, doors, apart⟩
    exact ⟨⟨n1, n24⟩, ⟨m2, m16⟩, ⟨even, p20, p500⟩, array, ⟨s1, s2⟩, doors, apart⟩

/-- A face whose mode and rest let a geometry load be taken (R3, R6). -/
def FaceRec.takesGeometry (r : FaceRec) : Prop :=
  r.mode.mode = .unconfigured ∨ (r.mode.mode = .maint ∧ r.atRest = true)

theorem FaceRec.takesGeometry.takesLoads {r : FaceRec} (h : r.takesGeometry) : r.takesLoads := h.imp_right And.left

section
variable {f : Face} {g : Geometry} {p : Part}

theorem loadGeometry_enumerating (h : (p.face f).enumerating = true) : loadGeometry f g p = (.plain .busy, p) := by
  simp [loadGeometry, firstFail, h]

variable (quiet : (p.face f).enumerating = false)
include quiet

theorem loadGeometry_closed_mode (closed : ¬ (p.face f).takesLoads) : loadGeometry f g p = (.plain .wrongMode, p) := by
  obtain ⟨unconfigured, maint⟩ := not_or.mp closed
  simp [loadGeometry, firstFail, quiet, unconfigured, maint]

theorem loadGeometry_restless (maint : (p.face f).mode.mode = .maint) (busy : (p.face f).atRest = false) :
    loadGeometry f g p = (.plain .busy, p) := by
  simp [loadGeometry, firstFail, quiet, maint, busy]

theorem loadGeometry_badArray (opened : (p.face f).takesGeometry) (array : g.arrayOk = false) :
    loadGeometry f g p = (badValue 255, p) := by
  rcases opened with mode | ⟨mode, rest⟩
  · simp [loadGeometry, firstFail, quiet, mode, array]
  · simp [loadGeometry, firstFail, quiet, mode, rest, array]

/-- A load that passes R4 is decided by the first door entry that fails R5. -/
theorem loadGeometry_goodArray (opened : (p.face f).takesGeometry) (array : g.arrayOk = true) :
    loadGeometry f g p =
      (firstBadDoor 0 none g.doors).elim (.plain .done, takeGeometry f g p) fun i => (badValue (byteOf i), p) := by
  rcases opened with mode | ⟨mode, rest⟩
  · cases doors : firstBadDoor 0 none g.doors <;> simp [loadGeometry, firstFail, quiet, mode, array, doors]
  · cases doors : firstBadDoor 0 none g.doors <;> simp [loadGeometry, firstFail, quiet, mode, rest, array, doors]

theorem loadGeometry_refuses (opened : (p.face f).takesGeometry) (invalid : ¬ g.Valid) :
    ∃ e, loadGeometry f g p = (badValue e, p) := by
  rw [Geometry.valid_iff] at invalid
  cases array : g.arrayOk with
  | false => exact ⟨255, loadGeometry_badArray quiet opened array⟩
  | true =>
    rw [loadGeometry_goodArray quiet opened array]
    cases doors : firstBadDoor 0 none g.doors with
    | none => exact absurd ⟨array, doors⟩ invalid
    | some i => exact ⟨byteOf i, rfl⟩

theorem loadGeometry_takes (opened : (p.face f).takesGeometry) (valid : g.Valid) :
    loadGeometry f g p = (.plain .done, takeGeometry f g p) := by
  obtain ⟨array, doors⟩ := g.valid_iff.mp valid
  rw [loadGeometry_goodArray quiet opened array, doors]
  rfl

end

end Sys2Proof.Machine

namespace Sys2Proof.Proofs

open Sys2Proof.Machine

/-- Settles O23: a load that is taken leaves its face reloaded, and the end of the event keeps it so. -/
theorem loadGeometry : Obligations.LoadGeometry := by
  intro tag f pl s free settled here face len
  have served {x : Answer × Part} (e : Machine.loadGeometry f (readGeometry pl) s.part = x) :
      serve .loadGeometry tag pl s.part = .of x :=
    (serve_face (k := .loadGeometry) len rfl face rfl here).trans (congrArg Served.of e)
  refine ⟨fun busy => ?_, fun quiet closed => ?_, fun quiet maint busy => ?_, fun quiet opened invalid => ?_,
    fun quiet opened valid => ?_⟩
  · exact unchanged_of_refused (k := .loadGeometry) free settled nofun (served (loadGeometry_enumerating busy))
  · exact unchanged_of_refused (k := .loadGeometry) free settled nofun (served (loadGeometry_closed_mode quiet closed))
  · exact unchanged_of_refused (k := .loadGeometry) free settled nofun (served (loadGeometry_restless quiet maint busy))
  · obtain ⟨e, refused⟩ := loadGeometry_refuses quiet opened invalid
    exact ⟨e, unchanged_of_refused (k := .loadGeometry) free settled nofun (served refused)⟩
  · have run := exec_answered (k := .loadGeometry) free nofun rfl (served (loadGeometry_takes quiet opened valid))
    have after := settle_reloaded (FaceRec.takesGeometry.takesLoads opened)
      (takeGeometry_reloaded f (readGeometry pl) s.part)
    have door (d : DoorIx) : ((settle (takeGeometry f (readGeometry pl) s.part)).face f).doors[d.val].frame =
        ((s.part.face f).doors[d].hostIso, (s.part.face f).doors[d].latch, (s.part.face f).doors[d].counts, .vUnknown) :=
      congrFun (congrArg FaceFrame.doors after.frame) d
    simp only [Door.frame, Prod.mk.injEq] at door
    obtain ⟨axles, configuring, settle, detectors⟩ := after.berth
    refine ⟨Machine.settle (takeGeometry f (readGeometry pl) s.part), run, congrArg FaceFrame.geom after.frame, after.mode,
      congrArg FaceFrame.classes after.frame, congrArg FaceFrame.params after.frame,
      congrArg FaceFrame.linkState after.frame, congrArg FaceFrame.linkG after.frame, after.gap,
      congrArg FaceFrame.align after.frame, axles, configuring, settle, detectors, after.health, ?_, fun d set => ?_⟩
    · exact fun still f' hf => settle_untouched (settled f') (takeGeometry_other hf _ still)
    · obtain ⟨hostIso, latch, counts, verdict⟩ := door d
      have blank := after.doors d set
      refine ⟨blank.state, blank.report, blank.late, blank.keyIso, verdict, hostIso, latch, counts, ?_⟩
      rw [Fin.getElem_fin, after.health d]; rfl

end Sys2Proof.Proofs

namespace Sys2Proof.Machine

/-! ### The standing of a face -/

/-- What the configuration store, the berth monitor and the alignment unit hold of a face, with the counting flag and the
end beams of its gap record. -/
structure Standing where
  geom : Option Geometry
  params : FaceParams
  berth : Berth
  align : AlignRec
  gap : GapRec
  doors : DoorIx → Verdict × Nat

/-- The gap record without the check's state and timer. -/
def GapRec.base (g : GapRec) : GapRec := { g with state := .notRequired, timer := none }

def FaceRec.standing (r : FaceRec) : Standing :=
  ⟨r.geom, r.params, r.berth, r.align, r.gap.base, fun d => (r.doors[d].verdict, r.doors[d].ov)⟩

/-- The standing of both faces. -/
def Part.standing (p : Part) : Face → Standing := fun f => (p.face f).standing

theorem Part.ite_standing (c : Prop) [Decidable c] (a b : Part) :
    (if c then a else b).standing = if c then a.standing else b.standing := apply_ite Part.standing c a b

theorem FaceRec.ite_standing (c : Prop) [Decidable c] (a b : FaceRec) :
    (if c then a else b).standing = if c then a.standing else b.standing := apply_ite FaceRec.standing c a b

/-- A face rebuilt with the fields its standing is made of, whatever its other fields. -/
@[simp] theorem FaceRec.standing_mk (r : FaceRec) (c : Vector MotionClass 4) (l : Link) (h : Vector Health 24)
    (s : Vector Sense 24) (o : Option Op) (w : Timer) (n : Bool) (m : ModeRec) (se : Bool) :
    FaceRec.standing ⟨r.geom, c, r.params, r.berth, r.align, l, h, r.doors, s, o, w, n, r.gap, m, se⟩ = r.standing := (rfl)

@[simp] theorem FaceRec.modLink_standing (r : FaceRec) (g : Link → Link) : (r.modLink g).standing = r.standing := (rfl)
@[simp] theorem FaceRec.modMode_standing (r : FaceRec) (g : ModeRec → ModeRec) : (r.modMode g).standing = r.standing := (rfl)
@[simp] theorem FaceRec.modHealth_standing (r : FaceRec) (d : DoorIx) (g : Health → Health) :
    (r.modHealth d g).standing = r.standing := (rfl)
@[simp] theorem FaceRec.modSense_standing (r : FaceRec) (d : DoorIx) (g : Sense → Sense) :
    (r.modSense d g).standing = r.standing := (rfl)
@[simp] theorem FaceRec.dropNotice_standing (r : FaceRec) : r.dropNotice.standing = r.standing := (rfl)

/-- The check's state and timer have no part in the standing. -/
@[simp] theorem FaceRec.modGap_standing (r : FaceRec) (s : GapState) (t : Timer) :
    (r.modGap fun g => { g with state := s, timer := t }).standing = r.standing := (rfl)

/-- The verdict and the overlap of a door. -/
def Door.judged (x : Door) : Verdict × Nat := (x.verdict, x.ov)

@[simp] theorem Door.judged_eq (x : Door) : x.judged = (x.verdict, x.ov) := (rfl)

@[simp] theorem FaceRec.modDoor_standing (r : FaceRec) (d : DoorIx) (g : Door → Door)
    (h : (g r.doors[d.val]).judged = r.doors[d.val].judged) : (r.modDoor d g).standing = r.standing := by
  have each : ∀ e : DoorIx, (r.modDoor d g).doors[e.val].judged = r.doors[e.val].judged := fun e => by
    rw [FaceRec.modDoor_doors]
    split
    · next q => subst q; exact h
    · rfl
  have same : (r.modDoor d g).standing.doors = r.standing.doors := funext each
  show Standing.mk _ _ _ _ _ _ = Standing.mk _ _ _ _ _ _
  congr 1

theorem foldl_standing {α : Type} (g : FaceRec → α → FaceRec) (h : ∀ r a, (g r a).standing = r.standing) (xs : List α)
    (r : FaceRec) : (xs.foldl g r).standing = r.standing := foldl_keeps FaceRec.standing g h xs r

@[simp] theorem handCue_standing (d : DoorIx) (c : Cue) (r : FaceRec) : (handCue d c r).standing = r.standing := by
  simp [handCue, FaceRec.ite_standing]

@[simp] theorem chooseCue_standing (d : DoorIx) (r : FaceRec) : (chooseCue d r).standing = r.standing := by
  simp [chooseCue, FaceRec.ite_standing]

@[simp] theorem refreshCues_standing (r : FaceRec) : (refreshCues r).standing = r.standing :=
  foldl_standing _ (fun r d => chooseCue_standing d r) _ _

@[simp] theorem placeMove_standing (a : LinkAction) (ts : List MoveTarget) (r : FaceRec) :
    (r.placeMove a ts).standing = r.standing := by simp [FaceRec.placeMove, FaceRec.ite_standing]

@[simp] theorem placeStop_standing (d : DoorIx) (r : FaceRec) : (r.placeStop d).standing = r.standing := by
  simp [FaceRec.placeStop, FaceRec.ite_standing]

@[simp] theorem endCycles_standing (r : FaceRec) : (endCycles r).standing = r.standing := (rfl)
@[simp] theorem leaveOp_standing (d : DoorIx) (o : DoorOutcome) (r : FaceRec) : (leaveOp d o r).standing = r.standing :=
  (rfl)
@[simp] theorem sequencerNotice_standing (d : DoorIx) (x : Door) (r : FaceRec) :
    (sequencerNotice d x r).standing = r.standing := (rfl)
@[simp] theorem wakeLink_standing (r : FaceRec) : (wakeLink r).standing = r.standing := (rfl)
@[simp] theorem standbyLink_standing (r : FaceRec) : (standbyLink r).standing = r.standing := (rfl)
@[simp] theorem resetHealth_standing (r : FaceRec) : (resetHealth r).standing = r.standing := (rfl)
@[simp] theorem modPanel_standing (g : Panel → Panel) (r : FaceRec) : (modPanel g r).standing = r.standing := (rfl)
@[simp] theorem dropCloseFrames_standing (r : FaceRec) : (dropCloseFrames r).standing = r.standing := (rfl)
@[simp] theorem openingTest_standing (r : FaceRec) : (openingTest r).standing = r.standing := (rfl)
@[simp] theorem gapTimerUpdate_standing (r : FaceRec) : (gapTimerUpdate r).standing = r.standing := (rfl)

@[simp] theorem noticeTest_standing (r : FaceRec) : (noticeTest r).standing = r.standing := by
  unfold noticeTest; split <;> rfl

@[simp] theorem dropCloseResends_standing (r : FaceRec) : (dropCloseResends r).standing = r.standing :=
  foldl_standing _ (fun r d => r.modHealth_standing d _) _ r

@[simp] theorem enterRunning_standing (r : FaceRec) : (enterRunning r).standing = r.standing :=
  foldl_standing _ (fun r d => handCue_standing d _ r) _ _

/-! ### Door records -/

@[simp] theorem Door.closeLocked_judged (x : Door) : x.closeLocked.judged = x.judged := (rfl)
@[simp] theorem Door.standOpen_judged (b : Bool) (x : Door) : (x.standOpen b).judged = x.judged := (rfl)
@[simp] theorem Door.granted_judged (a : Action) (s t : Nat) (x : Door) : (x.granted a s t).judged = x.judged := (rfl)
@[simp] theorem Door.enumerated_judged (x : Door) : x.enumerated.judged = x.judged := (rfl)
@[simp] theorem Door.reconfigured_judged (x : Door) : x.reconfigured.judged = x.judged := (rfl)

@[simp] theorem Door.withdrawn_judged (x : Door) : x.withdrawn.judged = x.judged := by
  unfold Door.withdrawn; repeat' split
  all_goals rfl

@[simp] theorem Door.keyFollow_judged (rep : DoorReport) (x : Door) : (x.keyFollow rep).judged = x.judged := by
  unfold Door.keyFollow; repeat' split
  all_goals rfl

/-! ### Changes of a part -/

/-- A part rebuilt with the faces of `p`. -/
@[simp] theorem Part.standing_mk (p : Part) (st : Straps) (pr : Vector (Option Profile) 8) (pa : PartParams)
    (ar : Arbiter) (su : Supply) (fi : Fire) (re : List Report) (lo : Bool) :
    Part.standing ⟨p.faceA, p.faceB, st, pr, pa, ar, su, fi, re, lo⟩ = p.standing :=
  funext fun _ => congrArg FaceRec.standing (p.face_mk ..)

theorem Part.modFace_standing_eq (p : Part) (f : Face) (g : FaceRec → FaceRec) :
    (p.modFace f g).standing = Function.update p.standing f (g (p.face f)).standing := by
  funext f'
  unfold Part.standing
  rw [Part.modFace_face, Function.update_apply]
  split
  · next e => subst e; rfl
  · rfl

@[simp] theorem Part.modFace_standing (p : Part) (f : Face) (g : FaceRec → FaceRec)
    (h : (g (p.face f)).standing = (p.face f).standing) : (p.modFace f g).standing = p.standing := by
  rw [Part.modFace_standing_eq, h]
  exact Function.update_eq_self f p.standing

@[simp] theorem queueReport_standing (r : Report) (p : Part) : (queueReport r p).standing = p.standing := by
  obtain ⟨q, l, h⟩ := queueReport_eq r p
  rw [h, Part.standing_mk]

theorem forDoors_standing (op : DoorIx → Part → Part) (h : ∀ d p, (op d p).standing = p.standing) (ds : List DoorIx)
    (p : Part) : (forDoors ds op p).standing = p.standing := foldl_keeps Part.standing _ (fun p d => h d p) ds p

/-! ### The notices -/

section
variable (f : Face) (p : Part)

@[simp] theorem recomputeSecured_standing (c : SecuredCause) (b : Bool) :
    (recomputeSecured f c b p).standing = p.standing := by
  simp [recomputeSecured, Part.ite_standing]

@[simp] theorem queueGapReport_standing (a : GapState) (c : GapCause) (d : Option DoorIx) :
    (queueGapReport f a c d p).standing = p.standing := queueReport_standing _ _

@[simp] theorem gapTo_standing (new : GapState) (c : GapCause) (d : Option DoorIx) :
    (gapTo f new c d p).standing = p.standing := by
  simp [gapTo, Part.ite_standing]

@[simp] theorem gapPending_standing (c : GapCause) (d : Option DoorIx) : (gapPending f c d p).standing = p.standing := by
  unfold gapPending
  split <;> simp

@[simp] theorem queueModeReport_standing (m : FaceMode) (c : ModeCause) : (queueModeReport f m c p).standing = p.standing :=
  queueReport_standing _ _

@[simp] theorem grantHandover_standing : (grantHandover f p).standing = p.standing := by
  simp [grantHandover]

@[simp] theorem takeLocalRequest_standing : (takeLocalRequest f p).standing = p.standing := by
  simp [takeLocalRequest, Part.ite_standing]

@[simp] theorem enterAuto_standing (c : ModeCause) : (enterAuto f c p).standing = p.standing := by
  simp [enterAuto]

@[simp] theorem wakeFace_standing : (wakeFace f p).standing = p.standing := by
  simp [wakeFace, Part.ite_standing]

@[simp] theorem abandonGap_standing : (abandonGap f p).standing = p.standing := by
  unfold abandonGap; simp only
  split <;> simp

@[simp] theorem endGapCheck_standing (c : GapCause) : (endGapCheck f c p).standing = p.standing := by
  simp [endGapCheck]

@[simp] theorem gapUpdate_standing : (gapUpdate f p).standing = p.standing := by
  simp [gapUpdate, Part.ite_standing]

@[simp] theorem handoverCheck_standing : (handoverCheck f p).standing = p.standing := by
  simp [handoverCheck, Part.ite_standing]

@[simp] theorem doorGap_standing (d : DoorIx) (new : DoorState) : (doorGap f d new p).standing = p.standing := by
  unfold doorGap; simp only
  repeat' split
  all_goals simp

@[simp] theorem changeDoor_standing (d : DoorIx) (c : DoorCause) (g : Door → Door) (h : ∀ x, (g x).judged = x.judged) :
    (changeDoor f d c g p).standing = p.standing := by
  simp [changeDoor, Part.ite_standing, -Door.judged_eq, h]

end
end Sys2Proof.Machine

namespace Sys2Proof.Machine

section
variable (f : Face) (p : Part)

/-! ### The start arbiter -/

@[simp] theorem onDoor_standing (d : DoorIx) (g : Door → Door) (h : ∀ x, (g x).judged = x.judged) :
    (onDoor f d g p).standing = p.standing := p.modFace_standing f _ (FaceRec.modDoor_standing _ _ _ (h _))

omit f in
@[simp] theorem joinQueue_standing (e : QEntry) : (joinQueue e p).standing = p.standing := p.standing_mk ..

omit f in
@[simp] theorem grantDoor_standing (e : QEntry) (c : Codes) : (grantDoor e c p).standing = p.standing := by
  simp [grantDoor, -Door.judged_eq]

omit f p in
theorem grantLoop_standing (n : Nat) (gs : List Grant) (p : Part) : (grantLoop n gs p).1.standing = p.standing := by
  induction n generalizing gs p with
  | zero => rfl
  | succ n ih =>
    unfold grantLoop
    repeat' split
    · rfl
    · rw [ih, grantDoor_standing]
    · rfl

omit f in
@[simp] theorem issueGrants_standing (gs : List Grant) : (issueGrants gs p).standing = p.standing :=
  foldl_keeps Part.standing _ (fun _ _ => Part.modFace_standing _ _ _ (placeMove_standing _ _ _)) _ p

omit f in
@[simp] theorem grantEvent_standing : (grantEvent p).standing = p.standing := by
  simp [grantEvent, grantLoop_standing]

@[simp] theorem endStart_standing (d : DoorIx) : (endStart f d p).standing = p.standing := by
  simp [endStart, Part.ite_standing]

@[simp] theorem leaveMachinery_standing (d : DoorIx) : (leaveMachinery f d p).standing = p.standing := by
  simp [leaveMachinery]

@[simp] theorem leaveQueueAll_standing : (leaveQueueAll f p).standing = p.standing := p.standing_mk ..

@[simp] theorem leaveMachineryAll_standing : (leaveMachineryAll f p).standing = p.standing := by
  simp [leaveMachineryAll, forDoors_standing]

omit f in
@[simp] theorem takeSupplySample_standing (code : Byte) : (takeSupplySample code p).standing = p.standing := by
  simp [takeSupplySample, supplyChanged, Part.ite_standing]

/-! ### The door table -/

@[simp] theorem leaveOperation_standing (d : DoorIx) (o : DoorOutcome) :
    (leaveOperation f d o p).standing = p.standing := by simp [leaveOperation]

@[simp] theorem issueStop_standing (d : DoorIx) : (issueStop f d p).standing = p.standing := by
  simp [issueStop, Part.ite_standing]

@[simp] theorem issueReverse_standing (d : DoorIx) : (issueReverse f d p).standing = p.standing := by
  simp [issueReverse]

@[simp] theorem enterDiscrepant_standing (d : DoorIx) (w : DiscCause) (t : DoorCause) (s : Bool) :
    (enterDiscrepant f d w t s p).standing = p.standing := by simp [enterDiscrepant, Part.ite_standing, Door.enter]

@[simp] theorem releaseDoor_standing (d : DoorIx) (t : DoorCause) : (releaseDoor f d t p).standing = p.standing := by
  simp [releaseDoor, Part.ite_standing]

@[simp] theorem clearLatch_standing (d : DoorIx) (c : ClearCause) (t : DoorCause) :
    (clearLatch f d c t p).standing = p.standing := by simp [clearLatch, Door.closeLocked]

@[simp] theorem openOrder_standing (d : DoorIx) (k : OrderKind) (t : DoorCause) :
    (openOrder f d k t p).standing = p.standing := by simp [openOrder, Part.ite_standing]

@[simp] theorem withdrawDoor_standing (d : DoorIx) : (withdrawDoor f d p).standing = p.standing := by
  unfold withdrawDoor
  split <;> simp [-Door.judged_eq]

@[simp] theorem beginWarning_standing (d : DoorIx) : (beginWarning f d p).standing = p.standing := by
  simp [beginWarning, Part.ite_standing]

@[simp] theorem closeOrder_standing (d : DoorIx) (k : OrderKind) (t : DoorCause) :
    (closeOrder f d k t p).standing = p.standing := by simp [closeOrder, queueClose, Part.ite_standing]

@[simp] theorem holdOrder_standing (d : DoorIx) : (holdOrder f d p).standing = p.standing := by
  simp [holdOrder, Part.ite_standing]

@[simp] theorem returnToOpen_standing (d : DoorIx) : (returnToOpen f d p).standing = p.standing := by
  unfold returnToOpen
  split <;> simp [Door.standOpen]

@[simp] theorem enterReopening_standing (d : DoorIx) (w : ReopenCause) (t : DoorCause) :
    (enterReopening f d w t p).standing = p.standing := by simp [enterReopening]

@[simp] theorem reverseOrder_standing (d : DoorIx) (w : ReopenCause) : (reverseOrder f d w p).standing = p.standing := by
  unfold reverseOrder; simp only
  repeat' split
  all_goals simp [Door.standOpen]

@[simp] theorem gapReopenOrder_standing (d : DoorIx) : (gapReopenOrder f d p).standing = p.standing := by
  unfold gapReopenOrder; simp only
  split <;> simp

@[simp] theorem obstruction_standing (d : DoorIx) : (obstruction f d p).standing = p.standing := by
  simp [obstruction, Part.ite_standing]

@[simp] theorem haltingStop_standing (d : DoorIx) : (haltingStop f d p).standing = p.standing := by
  unfold haltingStop; simp only
  repeat' split
  all_goals simp [Door.standOpen]

@[simp] theorem takeoverStop_standing (d : DoorIx) : (takeoverStop f d p).standing = p.standing := by
  unfold takeoverStop; simp only
  repeat' split
  all_goals simp

@[simp] theorem enterLost_standing (d : DoorIx) : (enterLost f d p).standing = p.standing := by simp [enterLost]

@[simp] theorem setLate_standing (d : DoorIx) (b : Bool) : (setLate f d b p).standing = p.standing := by simp [setLate]

@[simp] theorem doorsEnumerated_standing : (doorsEnumerated f p).standing = p.standing := by
  simp [doorsEnumerated, forDoors_standing, -Door.judged_eq]

@[simp] theorem unlockExpiry_standing (d : DoorIx) : (unlockExpiry f d p).standing = p.standing := by
  simp [unlockExpiry, Part.ite_standing]

@[simp] theorem motionExpiry_standing (d : DoorIx) : (motionExpiry f d p).standing = p.standing := by
  unfold motionExpiry; simp only
  repeat' split
  all_goals simp

@[simp] theorem lockProofExpiry_standing (d : DoorIx) : (lockProofExpiry f d p).standing = p.standing := by
  simp [lockProofExpiry, Part.ite_standing]

@[simp] theorem pauseExpiry_standing (d : DoorIx) : (pauseExpiry f d p).standing = p.standing := by
  simp [pauseExpiry, queueClose, Part.ite_standing, Door.standOpen]

@[simp] theorem startExpiry_standing (d : DoorIx) : (startExpiry f d p).standing = p.standing := by
  simp [startExpiry, Part.ite_standing]

@[simp] theorem closeAttempt_standing (d : DoorIx) : (closeAttempt f d p).2.standing = p.standing := by
  unfold closeAttempt
  split <;> simp [Part.ite_standing]

/-! ### Orders of the face sequencer and the passenger sensing unit -/

@[simp] theorem leadToClose_standing (d : DoorIx) : (leadToClose f d p).standing = p.standing := by
  unfold leadToClose
  split <;> simp

@[simp] theorem warningExpiry_standing : (warningExpiry f p).standing = p.standing := by
  have after (d : DoorIx) (q : Part) : (afterWarning f d q).standing = q.standing := by
    simp [afterWarning, Part.ite_standing]
  simp [warningExpiry, Part.ite_standing, forDoors_standing, after]

@[simp] theorem fireOrders_standing (ds : List DoorIx) : (fireOrders f ds p).standing = p.standing := by
  simp [fireOrders, forDoors_standing]

@[simp] theorem gapReopen_standing (d : DoorIx) : (gapReopen f d p).standing = p.standing := by simp [gapReopen]

@[simp] theorem quietExpiry_standing (d : DoorIx) : (quietExpiry f d p).standing = p.standing := by
  simp [quietExpiry, settleHeld, rewarn, Part.ite_standing]

@[simp] theorem holdExpiry_standing (d : DoorIx) : (holdExpiry f d p).standing = p.standing := by
  simp [holdExpiry, Part.ite_standing]

@[simp] theorem queueCounts_standing : (queueCounts f p).standing = p.standing := queueReport_standing _ _

@[simp] theorem queueAxleFault_standing (s : AxleSensor) (x : AxleFault) (m : Option (AxlePos × AxlePos)) :
    (queueAxleFault f s x m p).standing = p.standing := queueReport_standing _ _

/-! ### Reports at the door table -/

@[simp] theorem beginKey_standing (d : DoorIx) : (beginKey f d p).standing = p.standing := by simp [beginKey]

@[simp] theorem classify_standing (d : DoorIx) (rep : DoorReport) : (classify f d rep p).standing = p.standing := by
  simp [classify, Part.ite_standing, -Door.judged_eq]

@[simp] theorem uncommanded_standing (d : DoorIx) (rep : DoorReport) : (uncommanded f d rep p).standing = p.standing := by
  simp [uncommanded, Part.ite_standing]

@[simp] theorem opensTo_standing (d : DoorIx) (b : Bool) : (opensTo f d b p).standing = p.standing := by
  simp [opensTo, -Door.judged_eq]

@[simp] theorem judgeState_standing (d : DoorIx) (rep : DoorReport) : (judgeState f d rep p).standing = p.standing := by
  unfold judgeState; simp only
  split
  all_goals simp [judgeUnlocking, judgeOpening, judgeClosing, judgeProving, judgeReopening, Part.ite_standing,
    Door.closeLocked]

@[simp] theorem judgeLines_standing (d : DoorIx) (k : Bool) (rep : DoorReport) :
    (judgeLines f d k rep p).standing = p.standing := by
  unfold judgeLines; simp only
  repeat' split
  all_goals simp [-Door.judged_eq]

@[simp] theorem judgeStart_standing (d : DoorIx) (rep : DoorReport) : (judgeStart f d rep p).standing = p.standing := by
  simp [judgeStart, Part.ite_standing]

@[simp] theorem storeReport_standing (d : DoorIx) (rep : DoorReport) : (storeReport f d rep p).standing = p.standing := by
  simp [storeReport]

/-! ### The door link, but for its polls -/

@[simp] theorem startEnumeration_standing (tag : Byte) (b : Bool) :
    (startEnumeration f tag b p).standing = p.standing := by simp [startEnumeration]

@[simp] theorem chainResetExpiry_standing : (chainResetExpiry f p).standing = p.standing := by
  simp [chainResetExpiry, Part.ite_standing]

@[simp] theorem chainSettleExpiry_standing : (chainSettleExpiry f p).standing = p.standing := by
  simp [chainSettleExpiry, Part.ite_standing, foldl_standing]

@[simp] theorem standbyExpiry_standing : (standbyExpiry f p).standing = p.standing := by
  simp [standbyExpiry, Part.ite_standing]

@[simp] theorem flashExpiry_standing : (flashExpiry f p).standing = p.standing := by
  simp [flashExpiry, Part.ite_standing]

@[simp] theorem frameSent_standing : (frameSent f p).standing = p.standing := by simp [frameSent]

end

/-- What no change of the link, of a health entry or of an unlock timer reaches is kept as a free line begins its next
frame. -/
theorem linkPump_view {α : Type} (v : FaceRec → α) (link : ∀ r g, v (r.modLink g) = v r)
    (health : ∀ r d g, v (r.modHealth d g) = v r)
    (sent : ∀ r d g, (∀ x : Door, (g x).core = x.core) → v (r.modDoor d g) = v r) (r : FaceRec) :
    v (linkPump r) = v r := by
  have sends (a : LinkAction) (r : FaceRec) (t : MoveTarget) : v (sendTo a r t) = v r :=
    (sent _ _ _ fun x => by unfold commandSent Door.core; split <;> rfl).trans (health ..)
  have poll (r : FaceRec) : v (sendPoll r) = v r := by
    unfold sendPoll; simp only
    rw [link]
    split
    · exact health ..
    · rfl
  unfold linkPump
  split
  · split
    · unfold opportunity; simp only
      repeat' split
      · exact poll r
      · unfold sendStop; simp only
        rw [link]; exact foldl_keeps v _ (fun _ _ => sends ..) _ _
      · unfold sendMove; simp only
        rw [link]; exact foldl_keeps v _ (fun _ _ => sends ..) _ _
      · exact (link ..).trans (health ..)
      · exact (link ..).trans (foldl_keeps v _ (fun _ _ => health ..) _ _)
      · exact link ..
      · exact poll r
      · rfl
    · exact link ..
    · exact link ..
    all_goals rfl
  · rfl

@[simp] theorem linkPump_standing (r : FaceRec) : (linkPump r).standing = r.standing :=
  linkPump_view FaceRec.standing (fun _ _ => rfl) (fun _ _ _ => rfl)
    (fun r d g h => r.modDoor_standing d g (congrArg Door.judged (h _) :)) r

end Sys2Proof.Machine

namespace Sys2Proof.Machine

/-! ### Entries of the berth -/

/-- The standing of a face whose berth has entered a state (R25). -/
def Standing.enter (new : BerthState) (t : Standing) : Standing :=
  { t with berth := { t.berth with
      state := new
      settle := match new with
        | .arriving | .rolling | .unreckoned => some t.params.tSettle
        | _ => none } }

theorem berthGap_standing (f : Face) (prev new : BerthState) (p : Part) : (berthGap f prev new p).standing = p.standing := by
  unfold berthGap; simp only
  repeat' split
  all_goals simp

/-- Of an entry the standing shows the new state and the settle timer alone. -/
theorem enterBerth_standing (f : Face) (new : BerthState) (c : BerthCause) (p : Part) :
    (enterBerth f new c p).standing = Function.update p.standing f ((p.standing f).enter new) := by
  have woken (x : Prop) [Decidable x] : (if x then p else wakeFace f p).standing = p.standing := by split <;> simp
  have entered (q : Part) (same : q.standing = p.standing) :
      (q.modFace f fun r => refreshCues (r.modBerth fun b => { b with state := new, settle := settleAtEntry r new })).standing =
        Function.update p.standing f ((p.standing f).enter new) := by
    rw [Part.modFace_standing_eq, same, refreshCues_standing, ← same]
    congr 1
    cases new <;> rfl
  unfold enterBerth; simp only
  rw [berthGap_standing]
  split
  · exact entered _ rfl
  · rw [queueReport_standing]
    exact entered _ (wakeFace_standing f p)

/-! ### The outline of a standing -/

/-- The berth without SERVED and the settle timer, and of its state only whether it is EMPTY or ANNOUNCED. -/
def Berth.outline (b : Berth) : Berth :=
  { b with state := if b.state = .empty ∨ b.state = .announced then .empty else .stopped, settle := none, served := false }

/-- The standing of both faces, each berth in outline: the notices of an OPEN taken and of a CLOSE ended change no more
of it (R30). -/
def outlines (ts : Face → Standing) (f : Face) : Standing := { ts f with berth := (ts f).berth.outline }

theorem outlines_update {ts : Face → Standing} {f : Face} {t : Standing}
    (h : ({ t with berth := t.berth.outline } : Standing) = { ts f with berth := (ts f).berth.outline }) :
    outlines (Function.update ts f t) = outlines ts := by
  funext f'
  unfold outlines
  rw [Function.update_apply]
  split
  · next e => subst e; exact h
  · rfl

/-- A train that stands or is served keeps the outline of its berth as it is served or cleared (R30). -/
theorem enterBerth_outlines {f : Face} {p : Part} {new : BerthState} {c : BerthCause}
    (occupied : (p.face f).berth.state ≠ .empty ∧ (p.face f).berth.state ≠ .announced)
    (next : new ≠ .empty ∧ new ≠ .announced) : outlines (enterBerth f new c p).standing = outlines p.standing := by
  rw [enterBerth_standing]
  refine outlines_update ?_
  have before : ¬ ((p.standing f).berth.state = .empty ∨ (p.standing f).berth.state = .announced) := not_or.mpr occupied
  simp [Standing.enter, Berth.outline, before, next]

section
variable (f : Face) (p : Part)

/-! ### The face sequencer -/

@[simp] theorem closeEndNotice_outlines : outlines (closeEndNotice f p).standing = outlines p.standing := by
  unfold closeEndNotice; simp only
  split
  · next h =>
    refine enterBerth_outlines ?_ ⟨nofun, nofun⟩
    rcases h.2 with s | ⟨s, _⟩ <;> rw [s] <;> exact ⟨nofun, nofun⟩
  · rfl

@[simp] theorem endOp_outlines (e : EndCause) (g : GapOutcome) : outlines (endOp f e g p).standing = outlines p.standing := by
  unfold endOp; simp only
  repeat' split
  all_goals simp

@[simp] theorem endOpEarly_outlines (e : EndCause) : outlines (endOpEarly f e p).standing = outlines p.standing := by
  unfold endOpEarly
  split <;> simp

@[simp] theorem concludeGap_outlines (g : GapOutcome) : outlines (concludeGap f g p).standing = outlines p.standing := by
  unfold concludeGap
  repeat' split
  all_goals simp

@[simp] theorem seqCheck_outlines : outlines (seqCheck f p).standing = outlines p.standing := by
  unfold seqCheck enterGapWait; simp only
  repeat' split
  all_goals simp

@[simp] theorem berthOpenNotice_outlines : outlines (berthOpenNotice f p).standing = outlines p.standing := by
  have served : outlines (p.modFace f fun r => r.modBerth fun b => { b with served := true }).standing = outlines p.standing := by
    rw [Part.modFace_standing_eq]; exact outlines_update rfl
  unfold berthOpenNotice; simp only
  split
  · next s => exact Eq.trans (enterBerth_outlines (by rw [s]; decide) (by decide)) served
  · next s => exact Eq.trans (enterBerth_outlines (by rw [s]; decide) (by decide)) served
  all_goals exact served

@[simp] theorem overtakeClose_outlines (q : OpenReq) : outlines (overtakeClose f q p).1.standing = outlines p.standing := by
  unfold overtakeClose
  repeat' split
  all_goals simp [forDoors_standing]

@[simp] theorem takeOpen_outlines (q : OpenReq) : outlines (takeOpen f q p).standing = outlines p.standing := by
  simp [takeOpen, forDoors_standing]

@[simp] theorem takeClose_outlines (s : OpSource) (tag : Byte) : outlines (takeClose f s tag p).standing = outlines p.standing := by
  have overtaken : outlines (overtakeOpen f p).standing = outlines p.standing := by
    unfold overtakeOpen; simp only
    split <;> simp [forDoors_standing]
  simp [takeClose, forDoors_standing, overtaken]

@[simp] theorem sequencerRolling_outlines : outlines (sequencerRolling f p).standing = outlines p.standing := by
  simp [sequencerRolling, forDoors_standing]

@[simp] theorem sequencerEmpty_outlines : outlines (sequencerEmpty f p).standing = outlines p.standing := by
  unfold sequencerEmpty
  repeat' split
  all_goals simp [forDoors_standing]

@[simp] theorem fireOpenTest_outlines (ds : List DoorIx) : outlines (fireOpenTest f ds p).standing = outlines p.standing := by
  unfold fireOpenTest; simp only
  repeat' split
  all_goals simp

/-! ### The passenger sensing unit -/

@[simp] theorem gapFails_outlines (c : GapCause) (d : Option DoorIx) : outlines (gapFails f c d p).standing = outlines p.standing := by
  simp [gapFails]

@[simp] theorem gapExpiry_outlines : outlines (gapExpiry f p).standing = outlines p.standing := by
  unfold gapExpiry
  split <;> simp

@[simp] theorem beamHandover_outlines (d : DoorIx) (i o : Bool) : outlines (beamHandover f d i o p).standing = outlines p.standing := by
  have judged (q : Part) : outlines (judgeBlocked f d q).standing = outlines q.standing := by
    unfold judgeBlocked; simp only
    repeat' split
    all_goals simp
  unfold beamHandover; simp only
  repeat' split
  all_goals simp [judged]

/-! ### Reports and requests at the door table -/

@[simp] theorem fireDoorTest_outlines (d : DoorIx) (x : Door) : outlines (fireDoorTest f d x p).standing = outlines p.standing := by
  unfold fireDoorTest; simp only
  split <;> simp

@[simp] theorem applyReport_outlines (d : DoorIx) (rep : DoorReport) :
    outlines (applyReport f d rep p).standing = outlines p.standing := by
  unfold applyReport; simp only [fireDoorTest_outlines, judgeStart_standing]
  split <;> simp [Part.ite_standing]

@[simp] theorem handOver_outlines (d : DoorIx) (st : StatusReply) (c : Confirm) :
    outlines (handOver f d st c p).standing = outlines p.standing := by simp [handOver]

@[simp] theorem doorIsolate_outlines (d : Byte) : outlines (doorIsolate f d p).2.standing = outlines p.standing := by
  unfold doorIsolate setHostIso; simp only
  repeat' split
  all_goals simp

@[simp] theorem doorReadmit_outlines (d : Byte) : outlines (doorReadmit f d p).2.standing = outlines p.standing := by
  unfold doorReadmit setHostIso; simp only
  split <;> simp

@[simp] theorem doorRestore_outlines (d : Byte) : outlines (doorRestore f d p).2.standing = outlines p.standing := by
  unfold doorRestore; simp only
  repeat' split
  all_goals simp [-Door.judged_eq]

@[simp] theorem maintMove_standing (d : Byte) (b : Bool) : (maintMove f d b p).2.standing = p.standing := by
  unfold maintMove; simp only
  repeat' split
  all_goals simp

@[simp] theorem panelDoorReset_outlines : outlines (panelDoorReset f p).standing = outlines p.standing := by
  simp [panelDoorReset, forDoors_standing]

/-! ### Fire -/

@[simp] theorem fireTable_standing (pick : FaceRec → List DoorState → List DoorIx) : (fireTable f pick p).standing = p.standing := by
  have act (d : DoorIx) (q : Part) : (fireAct f d q).standing = q.standing := by
    unfold fireAct; simp only
    repeat' split
    all_goals simp
  simp [fireTable, forDoors_standing, act]

@[simp] theorem enterFire_outlines (c : ModeCause) : outlines (enterFire f c p).standing = outlines p.standing := by
  simp [enterFire, fireSteps, FaceRec.ite_standing]

omit f in
@[simp] theorem fireEntry_outlines (c : FireCause) : outlines (fireEntry c p).standing = outlines p.standing := by
  have entry (f : Face) (c : ModeCause) (q : Part) : outlines (faceFireEntry c f q).standing = outlines q.standing := by
    unfold faceFireEntry
    repeat' split
    all_goals simp
  unfold fireEntry
  split <;> simp [entry]

omit f in
@[simp] theorem fireExit_standing : (fireExit p).standing = p.standing := by
  have exit (f : Face) (q : Part) : (faceFireExit f q).standing = q.standing := by
    simp [faceFireExit, Part.ite_standing]
  simp [fireExit, exit]

omit f in
@[simp] theorem fireInSample_outlines (b : Bool) : outlines (fireInSample b p).standing = outlines p.standing := by
  unfold fireInSample; simp only
  split <;> simp

omit f in
@[simp] theorem fireResetSample_standing (b : Bool) : (fireResetSample b p).standing = p.standing := by
  simp [fireResetSample, Part.ite_standing]

omit f in
@[simp] theorem fireFall_outlines (i : FireInput) : outlines (fireFall i p).standing = outlines p.standing := by
  cases i <;> simp [fireFall]

/-! ### Modes and the panel -/

@[simp] theorem setFaceMode_standing (m tag : Byte) : (setFaceMode f m tag p).2.standing = p.standing := by
  unfold setFaceMode; simp only
  repeat' split
  all_goals simp [modeByRequest, enterStandby]

@[simp] theorem enumerateFace_standing (tag : Byte) : (enumerateFace f tag p).2.standing = p.standing := by
  unfold enumerateFace; simp only
  repeat' split
  all_goals simp

@[simp] theorem enumerationCompleted_outlines : outlines (enumerationCompleted f p).standing = outlines p.standing := by
  unfold enumerationCompleted; simp only
  repeat' split
  all_goals simp

@[simp] theorem localActive_standing : (localActive f p).standing = p.standing := by
  unfold localActive; simp only
  split <;> simp [Part.ite_standing]

@[simp] theorem localSample_standing (b : Bool) : (localSample f b p).standing = p.standing := by
  simp [localSample, localDropped, Part.ite_standing]

@[simp] theorem openButtonSample_outlines (b : Bool) : outlines (openButtonSample f b p).standing = outlines p.standing := by
  unfold openButtonSample openEdge panelOpen; simp only
  repeat' split
  all_goals simp

@[simp] theorem closeButtonSample_outlines (b : Bool) : outlines (closeButtonSample f b p).standing = outlines p.standing := by
  unfold closeButtonSample closeEdge panelClose; simp only
  repeat' split
  all_goals simp

@[simp] theorem allButtonSample_standing (b : Bool) : (allButtonSample f b p).standing = p.standing := by
  simp [allButtonSample]

@[simp] theorem proofBypassChanged_standing : (proofBypassChanged f p).standing = p.standing :=
  recomputeSecured_standing ..

@[simp] theorem gapBypassChanged_outlines : outlines (gapBypassChanged f p).standing = outlines p.standing := by
  unfold gapBypassChanged; simp only
  split <;> simp

@[simp] theorem proofBypassSample_standing (b : Bool) : (proofBypassSample f b p).standing = p.standing := by
  simp [proofBypassSample, Part.ite_standing]

@[simp] theorem gapBypassSample_outlines (b : Bool) : outlines (gapBypassSample f b p).standing = outlines p.standing := by
  unfold gapBypassSample; simp only
  split <;> simp

omit f in
@[simp] theorem resetSample_outlines (s : ResetSample) : outlines (resetSample s p).standing = outlines p.standing := by
  have panel (f : Face) (l : PanelLevels) (q : Part) : outlines (primePanel f l q).standing = outlines q.standing := by
    unfold primePanel; simp only
    repeat' split
    all_goals simp
  unfold resetSample; simp only
  repeat' split
  all_goals simp [panel]

/-! ### The poll cycle -/

@[simp] theorem pollEnd_outlines (pos : Nat) (o : PollOutcome) : outlines (pollEnd f pos o p).standing = outlines p.standing := by
  have enumerated (d : DoorIx) (q : Part) : outlines (enumPollEnd f d o q).standing = outlines q.standing := by
    cases o <;> simp [enumPollEnd, enumLost]
  have swept (q : Part) : outlines (sweepPollEnd f pos o q).standing = outlines q.standing := by
    unfold sweepPollEnd sweepDone; simp only
    repeat' split
    all_goals simp
  have ran (d : DoorIx) (q : Part) : outlines (runPollEnd f d o q).standing = outlines q.standing := by
    cases o
    case accepted st => simp [runPollEnd, runAccepted, FaceRec.ite_standing, Part.ite_standing]
    all_goals
      simp only [runPollEnd, runMissed]
      split <;> simp [runLost]
  have stepped (x : Pace) (q : Part) : (roundStep f x pos q).standing = q.standing := by
    unfold roundStep; simp only
    split <;> simp [Part.ite_standing, wakeRoundEnded, FaceRec.ite_standing]
  have advanced (q : Part) : (q.modFace f (enumAdvance pos)).standing = q.standing := by simp [enumAdvance]
  unfold pollEnd; simp only
  repeat' split
  all_goals simp [enumerated, swept, ran, stepped, advanced]

@[simp] theorem replyReceived_outlines (bs : List Byte) : outlines (replyReceived f bs p).standing = outlines p.standing := by
  unfold replyReceived; simp only
  repeat' split
  all_goals simp

@[simp] theorem replyExpiry_outlines : outlines (replyExpiry f p).standing = outlines p.standing := by
  unfold replyExpiry
  repeat' split
  all_goals simp

@[simp] theorem noticeArrives_outlines : outlines (noticeArrives f p).standing = outlines p.standing := by
  unfold noticeArrives takeNotice; simp only
  repeat' split
  all_goals simp

/-! ### The end of an event -/

@[simp] theorem settleFace_outlines : outlines (settleFace f p).standing = outlines p.standing := by
  simp [settleFace]

omit f in
@[simp] theorem settle_outlines : outlines (settle p).standing = outlines p.standing := by
  simp [settle]

end
end Sys2Proof.Machine

namespace Sys2Proof.Machine

/-! ### The alignment record -/

/-- The standing of a face whose record is written, its verdicts handed to the doors of a set (R41, R51, R52). -/
def Standing.write (set : DoorIx → Bool) (a : AlignRec) (t : Standing) : Standing :=
  { t with align := a, doors := fun d => if set d then ((a.entryOf d).verdict, (a.entryOf d).ov) else t.doors d }

theorem handVerdict_standing (a : AlignRec) (d : DoorIx) {r : FaceRec} (h : r.align = a) :
    (handVerdict a d r).standing = r.standing.write (fun e => decide (e = d)) a := by
  have doors : (fun e : DoorIx => ((r.modDoor d fun x => { x with verdict := (a.entryOf d).verdict, ov := (a.entryOf d).ov }).doors[e.val]).judged) =
      (r.standing.write (fun e => decide (e = d)) a).doors := by
    funext e
    rw [FaceRec.modDoor_doors]
    by_cases same : d = e
    · subst same; simp [Standing.write]
    · simp only [Standing.write, if_neg same, decide_eq_true_eq, if_neg fun q : e = d => same q.symm]; rfl
  unfold handVerdict
  rw [chooseCue_standing]
  subst h
  exact congrArg (fun v => ({ r.standing with doors := v } : Standing)) doors

/-- Each door of a list takes the verdict of its entry. -/
theorem foldl_handVerdict_standing (a : AlignRec) (ds : List DoorIx) {r : FaceRec} (h : r.align = a) :
    (ds.foldl (fun r d => handVerdict a d r) r).standing = r.standing.write (fun d => decide (d ∈ ds)) a := by
  induction ds generalizing r with
  | nil => subst h; simp [Standing.write]; rfl
  | cons d ds ih =>
    have one := handVerdict_standing a d h
    have written : (handVerdict a d r).align = a := (congrArg Standing.align one :)
    rw [List.foldl_cons, ih written, one]
    simp only [Standing.write, Standing.mk.injEq, true_and]
    funext e
    by_cases later : e ∈ ds
    · simp [later]
    · simp [later]

theorem writeAlign_standing (f : Face) (a : AlignRec) (p : Part) :
    (writeAlign f a p).standing =
      Function.update p.standing f ((p.standing f).write (p.face f).configured a) := by
  have set : (fun d => decide (d ∈ (p.face f).configuredDoors)) = (p.face f).configured := by
    funext d; simp [FaceRec.configuredDoors, allDoors]
  unfold writeAlign
  rw [Part.modFace_standing_eq, foldl_handVerdict_standing a _ (r := { p.face f with align := a }) rfl, set]
  rfl

/-! ### Emptiness of the berths -/

/-- Each berth is EMPTY or ANNOUNCED only with nothing in it (R33). -/
def Part.emptyOk (p : Part) : Prop := ∀ f, (p.face f).EmptyOk

theorem Part.emptyOk_of_berth {p q : Part} (h : p.emptyOk) (same : ∀ f, (q.face f).berth = (p.face f).berth) : q.emptyOk :=
  fun f => by unfold FaceRec.EmptyOk; rw [same f]; exact h f

theorem Part.emptyOk_of_standing {p q : Part} (h : p.emptyOk) (same : q.standing = p.standing) : q.emptyOk :=
  Part.emptyOk_of_berth h fun f => congrArg (fun ts : Face → Standing => (ts f).berth) same

/-- What keeps the berths in outline keeps their emptiness. -/
theorem Part.emptyOk_of_outlines {p q : Part} (h : p.emptyOk) (same : outlines q.standing = outlines p.standing) : q.emptyOk := by
  intro f empty
  have berth : (q.face f).berth.outline = (p.face f).berth.outline :=
    congrArg (fun ts : Face → Standing => (ts f).berth) same
  have axles : (q.face f).berth.axles = (p.face f).berth.axles := (congrArg Berth.axles berth :)
  have detectors : (q.face f).berth.detectors = (p.face f).berth.detectors := (congrArg Berth.detectors berth :)
  have state := congrArg Berth.state berth
  simp only [Berth.outline, if_pos empty] at state
  rw [axles, detectors]
  refine h f ?_
  by_contra occupied
  rw [if_neg occupied] at state
  exact absurd state nofun

end Sys2Proof.Machine

namespace Sys2Proof.Machine

/-! ### The entry to EMPTY (R33) -/

/-- The part at an entry to EMPTY, before the gap check ends and the face sequencer is told. -/
def emptied (f : Face) (cause : BerthCause) (p : Part) : Part :=
  (queueCounts f (clearAlign f .empty (enterBerth f .empty cause (p.modFace f fun r => r.modBerth fun b =>
    { b with ann := none, axles := 0, overrun := false, unannounced := false, unchecked := false, served := false })))).modFace f
    clearDwell

theorem enterEmpty_eq (f : Face) (c : BerthCause) (p : Part) :
    enterEmpty f c p = sequencerEmpty f (endGapCheck f .empty (emptied f c p)) := rfl

/-- The standing that an entry to EMPTY leaves of a face (R33, R51, R123). -/
def FaceRec.emptiedStanding (r : FaceRec) : Standing where
  geom := r.geom
  params := r.params
  berth := { r.berth with state := .empty, ann := none, axles := 0, overrun := false, unannounced := false,
                          unchecked := false, served := false, settle := none }
  align := r.recordCleared .empty
  gap := { r.gap.base with counting := false }
  doors := fun d => if r.configured d then (.vUnknown, 0) else (r.doors[d].verdict, r.doors[d].ov)

theorem clearDwell_standing (r : FaceRec) :
    (clearDwell r).standing = { r.standing with gap := { r.gap.base with counting := false } } := by
  have doors : (fun d : DoorIx => ((clearDwell r).doors[d].verdict, (clearDwell r).doors[d].ov)) = r.standing.doors := by
    funext d; simp [clearDwell, FaceRec.standing]
  exact congrArg (fun v => ({ r.standing with gap := { r.gap.base with counting := false }, doors := v } : Standing)) doors

/-- The record cleared, every configured door is UNKNOWN without overlap (R51). -/
theorem clearAlign_standing (f : Face) (c : AlignCause) (p : Part) :
    (clearAlign f c p).standing = Function.update p.standing f
      { p.standing f with
        align := (p.face f).recordCleared c
        doors := fun d => if (p.face f).configured d then (.vUnknown, 0) else (p.standing f).doors d } := by
  unfold clearAlign
  rw [writeAlign_standing]
  simp only [Standing.write, clearedAlign_entryOf]
  rfl

theorem emptied_standing (f : Face) (c : BerthCause) (p : Part) :
    (emptied f c p).standing = Function.update p.standing f (p.face f).emptiedStanding := by
  have entered := enterBerth_standing f .empty c (p.modFace f fun r => r.modBerth fun b =>
    { b with ann := none, axles := 0, overrun := false, unannounced := false, unchecked := false, served := false })
  rw [Part.modFace_standing_eq, Function.update_self, Function.update_idem] at entered
  unfold emptied
  generalize enterBerth f .empty c (p.modFace f fun r => r.modBerth fun b =>
    { b with ann := none, axles := 0, overrun := false, unannounced := false, unchecked := false, served := false }) = q at entered
  have here : (q.face f).standing = _ := congrFun entered f
  rw [Function.update_self] at here
  have geom : (q.face f).geom = (p.face f).geom := (congrArg Standing.geom here :)
  have align : (q.face f).align = (p.face f).align := (congrArg Standing.align here :)
  have cleared : (q.face f).recordCleared .empty = (p.face f).recordCleared .empty := by
    unfold FaceRec.recordCleared FaceRec.n; rw [geom, align]
  rw [Part.modFace_standing_eq, clearDwell_standing, queueCounts_standing]
  have face : ((queueCounts f (clearAlign f .empty q)).face f).standing = (clearAlign f .empty q).standing f :=
    congrFun (queueCounts_standing f _) f
  rw [face]
  have gap : ((queueCounts f (clearAlign f .empty q)).face f).gap.base = ((clearAlign f .empty q).standing f).gap :=
    (congrArg Standing.gap face :)
  rw [gap, clearAlign_standing, Function.update_self, Function.update_idem, entered, Function.update_idem, cleared,
    FaceRec.configured_of_geom geom, Function.update_self]
  rfl

end Sys2Proof.Machine

namespace Sys2Proof.Machine

theorem Berth.allClear_iff (b : Berth) : b.allClear = true ↔ ∀ x ∈ b.detectors, x.reads = false := by
  simp [Berth.allClear, Berth.pattern]

theorem Berth.vacant_iff (b : Berth) : b.vacant = true ↔ b.axles = 0 ∧ b.allClear = true := by
  simp [Berth.vacant]

/-- An occupied berth is neither EMPTY nor ANNOUNCED. -/
theorem FaceRec.emptyOk_of_occupied {r : FaceRec} (h : r.berth.state ≠ .empty ∧ r.berth.state ≠ .announced) : r.EmptyOk :=
  fun empty => absurd empty (not_or.mpr h)

section
variable {f : Face} {p : Part} (others : ∀ f', f' ≠ f → (p.face f').EmptyOk)
include others

theorem emptyOk_of_others (here : (p.face f).EmptyOk) : p.emptyOk := fun f' => by
  by_cases e : f' = f
  · subst e; exact here
  · exact others f' e

/-- A change of one face that leaves its berth empty only with nothing in it. -/
theorem emptyOk_modFace {g : FaceRec → FaceRec} (here : (g (p.face f)).EmptyOk) : (p.modFace f g).emptyOk := by
  refine emptyOk_of_others (f := f) (fun f' e => ?_) (by rwa [Part.modFace_self])
  rw [Part.modFace_other p fun q => e q.symm]
  exact others f' e

theorem emptyOk_enterBerth {new : BerthState} (c : BerthCause)
    (k : new = .empty ∨ new = .announced → (p.face f).berth.axles = 0 ∧ ∀ x ∈ (p.face f).berth.detectors, x.reads = false) :
    (enterBerth f new c p).emptyOk := by
  have berth (f' : Face) : ((enterBerth f new c p).face f').berth =
      (Function.update p.standing f ((p.standing f).enter new) f').berth :=
    congrArg (fun ts : Face → Standing => (ts f').berth) (enterBerth_standing f new c p)
  refine emptyOk_of_others (f := f) (fun f' e => ?_) ?_
  · unfold FaceRec.EmptyOk
    rw [berth, Function.update_of_ne e]
    exact others f' e
  · unfold FaceRec.EmptyOk
    rw [berth, Function.update_self]
    exact k

end

section
variable {f : Face} {p : Part} (h : p.emptyOk)
include h

theorem emptyOk_writeAlign (a : AlignRec) : (writeAlign f a p).emptyOk := by
  refine Part.emptyOk_of_berth h fun f' => ?_
  have berth : ((writeAlign f a p).face f').berth = _ :=
    congrArg (fun ts : Face → Standing => (ts f').berth) (writeAlign_standing f a p)
  rw [berth, Function.update_apply]
  split
  · next e => subst e; rfl
  · rfl

theorem emptyOk_computeAlign (c : AlignCause) : (computeAlign f c p).emptyOk :=
  Part.emptyOk_of_outlines (emptyOk_writeAlign h (f := f) (alignRecord p f c)) (by simp [computeAlign])

theorem emptyOk_moveAlign (c : AlignCause) : (moveAlign f c p).emptyOk :=
  Part.emptyOk_of_standing (emptyOk_writeAlign h (f := f) _) (queueReport_standing _ _)

omit h in
theorem emptyOk_enterEmpty (others : ∀ f', f' ≠ f → (p.face f').EmptyOk) (c : BerthCause)
    (clear : (p.face f).berth.allClear = true) : (enterEmpty f c p).emptyOk := by
  have berth (f' : Face) : ((emptied f c p).face f').berth = (Function.update p.standing f (p.face f).emptiedStanding f').berth :=
    congrArg (fun ts : Face → Standing => (ts f').berth) (emptied_standing f c p)
  have done : (emptied f c p).emptyOk := by
    refine emptyOk_of_others (f := f) (fun f' e => ?_) fun _ => ?_
    · unfold FaceRec.EmptyOk
      rw [berth, Function.update_of_ne e]
      exact others f' e
    · rw [berth, Function.update_self]
      exact ⟨rfl, (Berth.allClear_iff _).mp clear⟩
  exact Part.emptyOk_of_outlines done (by rw [enterEmpty_eq]; simp)

theorem emptyOk_enterStopped (c : BerthCause) : (enterStopped f c p).emptyOk := by
  have on : (p.modFace f fun r => r.modBerth fun b => { b with dwell := b.dwell + 1 }).emptyOk :=
    emptyOk_modFace (fun f' _ => h f') (h f)
  have entered := emptyOk_enterBerth (f := f) (new := .stopped) (fun f' _ => on f') c nofun
  exact emptyOk_computeAlign (emptyOk_modFace (g := fun r => r.modGap fun g => { g with counting := true })
    (fun f' _ => entered f') (entered f)) _

theorem emptyOk_enterRolling : (enterRolling f p).emptyOk :=
  Part.emptyOk_of_outlines (emptyOk_moveAlign (f := f)
    (emptyOk_enterBerth (f := f) (new := .rolling) (fun f' _ => h f') .sensors nofun) .rolling) (sequencerRolling_outlines ..)

theorem emptyOk_enterDeparting : (enterDeparting f p).emptyOk :=
  emptyOk_moveAlign (emptyOk_enterBerth (f := f) (new := .departing) (fun f' _ => h f') .sensors nofun) _

theorem emptyOk_emptyIfVacant : (emptyIfVacant f p).emptyOk := by
  unfold emptyIfVacant; simp only
  split
  · next v => exact emptyOk_enterEmpty (fun f' _ => h f') _ ((Berth.vacant_iff _).mp v.2).2
  · exact h

end

/-- A movement leaves an EMPTY or ANNOUNCED berth where something has arrived (R25, R27). -/
theorem emptyOk_movement {f : Face} {p : Part} {arrives : Bool} (others : ∀ f', f' ≠ f → (p.face f').EmptyOk)
    (here : arrives = false → (p.face f).EmptyOk) : (movement f arrives p).emptyOk := by
  have all (occupied : (p.face f).berth.state ≠ .empty ∧ (p.face f).berth.state ≠ .announced) : p.emptyOk :=
    emptyOk_of_others others (FaceRec.emptyOk_of_occupied occupied)
  have settled (occupied : (p.face f).berth.state ≠ .empty ∧ (p.face f).berth.state ≠ .announced) :
      (p.modFace f restartSettle).emptyOk := emptyOk_modFace others (FaceRec.emptyOk_of_occupied occupied)
  have arrived (q : Part) (k : ∀ f', f' ≠ f → (q.face f').EmptyOk) : (enterBerth f .arriving .sensors q).emptyOk :=
    emptyOk_enterBerth k _ nofun
  unfold movement; simp only
  refine emptyOk_emptyIfVacant ?_
  split
  case h_1 =>
    split
    · refine arrived _ fun f' e => ?_
      rw [Part.modFace_other p fun q => e q.symm]
      exact others f' e
    · next still => exact emptyOk_of_others others (here (Bool.eq_false_of_not_eq_true still))
  case h_2 =>
    split
    · exact arrived p others
    · next still => exact emptyOk_of_others others (here (Bool.eq_false_of_not_eq_true still))
  case h_3 s => exact settled (by rw [s]; decide)
  case h_4 s =>
    have k := all (by rw [s]; decide)
    repeat' split
    · exact emptyOk_enterDeparting k
    · exact emptyOk_enterRolling k
    · exact emptyOk_writeAlign (arrived p others) _
  case h_7 s =>
    split
    · exact emptyOk_enterDeparting (all (by rw [s]; decide))
    · exact settled (by rw [s]; decide)
  case h_8 s => exact all (by rw [s]; decide)
  case h_9 s => exact settled (by rw [s]; decide)
  all_goals
    next s =>
      split
      · exact emptyOk_enterDeparting (all (by rw [s]; decide))
      · exact emptyOk_enterRolling (all (by rw [s]; decide))

end Sys2Proof.Machine

namespace Sys2Proof.Machine

/-! ### One sample of a filter (R17) -/

theorem Filter.sample_taken {x : Filter} {n : Nat} {l : Bool} (h : x.Accepts n l) : x.sample n l = (.taken l, true) := by
  obtain ⟨primed, differs, run⟩ := h
  unfold Filter.sample Filter.taken
  rw [if_pos primed, if_neg (Ne.symm differs), if_pos run, primed]

theorem Filter.sample_passed {x : Filter} {n : Nat} {l : Bool} (h : ¬ x.Accepts n l) : x.sample n l = (x.passed l, false) := by
  unfold Filter.sample Filter.passed
  split
  · next primed =>
    split
    · rfl
    · next differs => rw [if_neg fun run => h ⟨primed, Ne.symm differs, run⟩]
  · rfl

theorem Filter.sample_level (x : Filter) (n : Nat) (l : Bool) :
    (x.sample n l).1.level = if x.primed = true ∧ n ≤ x.run + 1 ∧ x.level ≠ l then l else x.level := by
  by_cases h : x.Accepts n l
  · rw [Filter.sample_taken h, if_pos ⟨h.primed, h.run, h.differs⟩]; rfl
  · rw [Filter.sample_passed h, if_neg fun k => h ⟨k.1, k.2.2, k.2.1⟩]
    unfold Filter.passed
    split <;> rfl

/-- A filter's sample accepts as R17 says. -/
theorem Filter.sample_accepts (x : Filter) (n : Nat) (l : Bool) : (x.sample n l).2 = true ↔ x.Accepts n l := by
  by_cases h : x.Accepts n l
  · rw [Filter.sample_taken h]; exact iff_of_true rfl h
  · rw [Filter.sample_passed h]; exact iff_of_false nofun h

/-- A filter reads what it read, or the level it has accepted (R17). -/
theorem Filter.sample_reads (x : Filter) (n : Nat) (l : Bool) :
    (x.sample n l).1.reads = if (x.sample n l).2 then l else x.reads := by
  by_cases h : x.Accepts n l
  · rw [Filter.sample_taken h]; rfl
  · rw [Filter.sample_passed h]
    unfold Filter.passed
    split <;> rfl

/-! ### Axles and detectors -/

/-- The count after a counted axle (R21). -/
def Berth.counted (b : Berth) (dir : AxleDir) : Nat :=
  if b.countsHeld then b.axles
  else
    match dir with
    | .inward => if b.axles ≥ 255 then b.axles else b.axles + 1
    | .outward => b.axles - 1

/-- Of the faces a counted axle changes the count alone (R21). -/
theorem countAxle_face (f f' : Face) (s : AxleSensor) (dir : AxleDir) (p : Part) :
    (countAxle f s dir p).face f' =
      (p.modFace f fun r => r.modBerth fun b => { b with axles := (p.face f).berth.counted dir }).face f' := by
  have same (n : Nat) (e : n = (p.face f).berth.axles) :
      p.face f' = (p.modFace f fun r => r.modBerth fun b => { b with axles := n }).face f' := by
    subst e; rw [Part.modFace_id]; rfl
  unfold countAxle Berth.counted; simp only
  split
  · exact same _ rfl
  · cases dir with
    | inward =>
      simp only
      split
      · exact (queueReport_face _ _ _).trans (same _ rfl)
      · exact congrArg (Part.face · f') (p.modFace_congr f _ _ rfl)
    | outward =>
      simp only
      split
      · next none => exact (queueReport_face _ _ _).trans (same _ (by omega))
      · exact congrArg (Part.face · f') (p.modFace_congr f _ _ rfl)

@[simp] theorem overrunAt_state (s : AxleSensor) (d : AxleDir) (b : Berth) : (overrunAt s d b).state = b.state := by
  unfold overrunAt; split <;> rfl

@[simp] theorem overrunAt_detectors (s : AxleSensor) (d : AxleDir) (b : Berth) :
    (overrunAt s d b).detectors = b.detectors := by unfold overrunAt; split <;> rfl

section
variable {f : Face} {p : Part} (h : p.emptyOk)
include h

theorem emptyOk_axleCounted (s : AxleSensor) (dir : AxleDir) : (axleCounted f s dir p).emptyOk := by
  unfold axleCounted; simp only
  have woken : (if s = .entry ∧ dir = .inward then wakeFace f p else p).emptyOk := by
    split
    · exact Part.emptyOk_of_standing h (by simp)
    · exact h
  generalize (if s = .entry ∧ dir = .inward then wakeFace f p else p) = q at woken
  have here := countAxle_face f f s dir q
  rw [Part.modFace_self] at here
  refine emptyOk_movement (fun f' e => ?_) fun still empty => ?_
  · rw [Part.modFace_other _ fun k => e k.symm, countAxle_face, Part.modFace_other _ fun k => e k.symm]
    exact woken f'
  · rw [Part.modFace_self, here] at still empty ⊢
    simp only [FaceRec.modBerth_berth, overrunAt_state, overrunAt_axles, overrunAt_detectors, gt_iff_lt, decide_eq_false_iff_not]
      at still empty ⊢
    obtain ⟨axles, clear⟩ := woken f empty
    exact ⟨by omega, clear⟩

theorem emptyOk_axleSample (s : AxleSensor) (x y : Bool) : (axleSample f s x y p).emptyOk := by
  have stored (u : AxleUnit) : (p.modFace f fun r => r.modBerth (Berth.setAxleUnit s u)).emptyOk := by
    refine emptyOk_modFace (fun f' _ => h f') ?_
    cases s <;> exact h f
  have restarted (q : Part) (k : q.emptyOk) :
      (if (q.face f).berth.state = .unreckoned then q.modFace f restartSettle else q).emptyOk := by
    split
    · exact emptyOk_modFace (fun f' _ => k f') (k f)
    · exact k
  have faulted (q : Part) (k : q.emptyOk) (c : Bool) (m : Option (AxlePos × AxlePos)) :
      (if c then queueAxleFault f s .decode m q else q).emptyOk := by
    split
    · exact Part.emptyOk_of_standing k (queueAxleFault_standing ..)
    · exact k
  unfold axleSample; simp only
  split
  · split
    · split
      · exact faulted _ (restarted _ (stored _)) _ _
      · exact emptyOk_axleCounted (faulted _ (restarted _ (stored _)) _ _) s _
    · exact stored _
  · exact h

theorem emptyOk_detectorSample (i : Fin 16) (occupied : Bool) : (detectorSample f i occupied p).emptyOk := by
  unfold detectorSample; simp only
  split
  · exact h
  · next x held =>
    have stored (clear : occupied = false ∨ (x.sample (p.face f).params.fAxle occupied).2 = false) :
        ((p.face f).modBerth fun b =>
          { b with detectors := b.detectors.set i.val (x.sample (p.face f).params.fAxle occupied).1 }).EmptyOk := by
      intro empty
      obtain ⟨axles, all⟩ := h f empty
      refine ⟨axles, fun y mem => ?_⟩
      rcases List.mem_or_eq_of_mem_set mem with mem | rfl
      · exact all y mem
      · rw [Filter.sample_reads, all x (List.mem_of_getElem? held)]
        rcases clear with e | e <;> simp [e]
    split
    · refine emptyOk_movement (fun f' e => ?_) fun none => ?_
      · rw [Part.modFace_other _ fun k => e k.symm]; exact h f'
      · rw [Part.modFace_self]; exact stored (.inl none)
    · next kept => exact emptyOk_modFace (fun f' _ => h f') (stored (.inr (Bool.eq_false_of_not_eq_true kept)))

/-! ### The settle timer and the first sample -/

theorem emptyOk_settleExpiry : (settleExpiry f p).emptyOk := by
  have stopped : (p.modFace f fun r => r.modBerth fun b => { b with settle := none }).emptyOk :=
    emptyOk_modFace (fun f' _ => h f') (h f)
  unfold settleExpiry; simp only
  split
  · generalize p.modFace f (fun r => r.modBerth fun b => { b with settle := none }) = q at stopped
    split
    · exact emptyOk_enterStopped stopped _
    · split
      · next v => exact emptyOk_enterEmpty (fun f' _ => stopped f') _ ((Berth.vacant_iff _).mp v).2
      · exact emptyOk_enterStopped stopped _
    · next s =>
      have held : (q.face f).berth.state ≠ .empty ∧ (q.face f).berth.state ≠ .announced := by rw [s]; decide
      unfold settleUnreckoned; simp only
      split
      · next gone =>
        have clear := (Bool.and_eq_true _ _ ▸ gone : _ ∧ _).1
        have reckoned := emptyOk_modFace (f := f) (fun f' _ => stopped f')
          (g := fun r => r.modBerth fun b => { b with axles := 0, unchecked := false }) (FaceRec.emptyOk_of_occupied held)
        split
        · refine emptyOk_enterBerth (fun f' _ => reckoned f') _ fun _ => ?_
          rw [Part.modFace_self]
          exact ⟨rfl, (Berth.allClear_iff _).mp clear⟩
        · refine emptyOk_enterEmpty (fun f' _ => reckoned f') _ ?_
          rw [Part.modFace_self]
          exact clear
      · split
        · exact emptyOk_enterStopped (emptyOk_modFace (fun f' _ => stopped f') (FaceRec.emptyOk_of_occupied held)) _
        · exact stopped
    all_goals exact stopped
  · exact h

theorem emptyOk_firstSample (x : TrackSample) : (firstSample f x p).emptyOk := by
  have others (f' : Face) (e : f' ≠ f) : ((p.modFace f (primeTrack x)).face f').EmptyOk := by
    rw [Part.modFace_other _ fun k => e k.symm]; exact h f'
  unfold firstSample; simp only
  split
  · split
    · next clear =>
      split
      · next s =>
        refine emptyOk_of_others others fun _ => ?_
        rw [Part.modFace_self] at clear s ⊢
        exact ⟨(h f (.inl s)).1, (Berth.allClear_iff _).mp clear⟩
      · exact emptyOk_enterEmpty others _ clear
    · exact emptyOk_enterBerth others _ nofun
  · exact h

/-! ### Host requests -/

theorem emptyOk_announceTrain (auto : Bool) (units : List (Byte × Byte)) : (announceTrain f auto units p).2.emptyOk := by
  have taken (a : Announcement) : (takeAnnouncement f a p).emptyOk := by
    have held : ((wakeFace f p).modFace f fun r => r.modBerth fun b => { b with ann := some a }).emptyOk := by
      have woken := Part.emptyOk_of_standing h (wakeFace_standing f p)
      exact emptyOk_modFace (fun f' _ => woken f') (woken f)
    unfold takeAnnouncement; simp only
    generalize (wakeFace f p).modFace f (fun r => r.modBerth fun b => { b with ann := some a }) = q at held
    split
    · next s => exact emptyOk_enterBerth (fun f' _ => held f') _ fun _ => held f (.inl s)
    · exact emptyOk_modFace (fun f' _ => held f') (held f)
    · exact emptyOk_computeAlign (emptyOk_modFace (fun f' _ => held f') (held f)) _
    · next s => exact emptyOk_modFace (fun f' _ => held f') (FaceRec.emptyOk_of_occupied (show (q.face f).berth.state ≠ _ ∧ (q.face f).berth.state ≠ _ by rw [s]; decide))
    all_goals exact held
  unfold announceTrain; simp only
  repeat' split
  all_goals first
    | exact h
    | exact taken _

theorem emptyOk_withdrawTrain : (withdrawTrain f p).2.emptyOk := by
  have dropped : (p.modFace f fun r => r.modBerth dropAnnouncement).emptyOk := emptyOk_modFace (fun f' _ => h f') (h f)
  unfold withdrawTrain; simp only
  split
  · exact h
  · split
    · next s => exact emptyOk_enterEmpty (fun f' _ => h f') _ ((Berth.allClear_iff _).mpr (h f (.inr s)).2)
    · exact dropped
    · exact emptyOk_computeAlign dropped _
    · next s _ => exact emptyOk_modFace (fun f' _ => h f') (FaceRec.emptyOk_of_occupied (show (p.face f).berth.state ≠ _ ∧ (p.face f).berth.state ≠ _ by rw [s]; decide))
    all_goals exact h

theorem emptyOk_clearBerth : (clearBerth f p).2.emptyOk := by
  unfold clearBerth; simp only
  split
  · exact h
  · split
    · exact h
    · next open' =>
      have clear : (p.face f).berth.allClear = true := Bool.eq_true_of_not_eq_false (not_or.mp open').2
      split
      · exact h
      · refine emptyOk_enterEmpty (fun f' e => ?_) _ ?_
        · rw [Part.modFace_other _ fun k => e k.symm]; exact h f'
        · rw [Part.modFace_self]; exact clear

theorem emptyOk_loadGeometry (g : Geometry) : (loadGeometry f g p).2.emptyOk := by
  have taken : (takeGeometry f g p).emptyOk := by
    have left := Part.emptyOk_of_standing h (leaveMachineryAll_standing f p)
    have set : (loadRecords f g p).emptyOk := by
      refine emptyOk_modFace (fun f' _ => left f') fun _ => ⟨rfl, fun x mem => ?_⟩
      rw [List.eq_of_mem_replicate mem]; rfl
    refine Part.emptyOk_of_standing (emptyOk_writeAlign (f := f) set (clearedAlign ((loadRecords f g p).face f) .config)) ?_
    rw [takeGeometry_eq, loadDoors, clearAlign]
    simp [forDoors_standing, -Door.judged_eq]
  unfold loadGeometry; simp only
  repeat' split
  all_goals first
    | exact h
    | exact taken

theorem emptyOk_loadFaceParams (sent : List Nat) : (loadFaceParams f sent p).2.emptyOk := by
  unfold loadFaceParams; simp only
  repeat' split
  all_goals first
    | exact h
    | exact emptyOk_modFace (fun f' _ => h f') (h f)

end

end Sys2Proof.Machine

namespace Sys2Proof.Machine

/-! ### Requests, the host link and the commands -/

theorem Part.reset_empties (straps : Straps) : (Part.reset straps).emptyOk := fun f => by
  rw [Part.reset_face]; exact FaceRec.reset_emptyOk

section
variable {p : Part} (h : p.emptyOk)
include h

theorem emptyOk_endBeamSample (f : Face) (beam : EndBeam) (blocked : Bool) : (endBeamSample f beam blocked p).emptyOk := by
  have sampled (g : GapRec → GapRec) : (p.modFace f fun r => r.modGap g).emptyOk := emptyOk_modFace (fun f' _ => h f') (h f)
  have failed (c : Prop) [Decidable c] (q : Part) (k : q.emptyOk) : (if c then gapFails f .endBeam none q else q).emptyOk := by
    split
    · exact Part.emptyOk_of_outlines k (gapFails_outlines ..)
    · exact k
  unfold endBeamSample; simp only
  split
  · cases beam <;> exact failed _ _ (sampled _)
  · exact h

theorem emptyOk_loadProfile (id : Nat) (pr : Profile) : (loadProfile id pr p).2.emptyOk := by
  unfold loadProfile
  repeat' split
  all_goals exact h

theorem emptyOk_loadClasses (f : Face) (cs : Vector MotionClass 4) : (loadClasses f cs p).2.emptyOk := by
  unfold loadClasses
  repeat' split
  all_goals first
    | exact h
    | exact emptyOk_modFace (fun f' _ => h f') (h f)

theorem emptyOk_loadPartParams (sent : List Nat) : (loadPartParams sent p).2.emptyOk :=
  Part.emptyOk_of_standing h (by simp [loadPartParams])

theorem emptyOk_serveFace (k : ReqKind) (f : Face) (tag : Byte) (pl : List Byte) :
    (serveFace k f tag pl p).part.emptyOk := by
  cases k <;> simp only [serveFace, Served.of, Served.enquiry, Served.refused]
  case loadGeometry => exact emptyOk_loadGeometry h _
  case loadFaceParams => exact emptyOk_loadFaceParams h _
  case loadClasses => exact emptyOk_loadClasses h f _
  case announceTrain => exact emptyOk_announceTrain h _ _
  case withdrawTrain => exact emptyOk_withdrawTrain h
  case clearBerth => exact emptyOk_clearBerth h
  case openFace | closeFace | enquireDoor =>
    simp only [serveOpen, serveClose, serveDoor]
    repeat' split
    all_goals first
      | exact h
      | exact Part.emptyOk_of_outlines h (by simp)
  all_goals first
    | exact h
    | exact Part.emptyOk_of_outlines h (by simp)

theorem emptyOk_serve (k : ReqKind) (tag : Byte) (pl : List Byte) : (serve k tag pl p).part.emptyOk := by
  have wide : (servePartWide k pl p).part.emptyOk := by
    cases k <;> simp only [servePartWide, Served.of, Served.refused]
    case loadProfile => exact emptyOk_loadProfile h _ _
    case loadPartParams => exact emptyOk_loadPartParams h _
    case fireCommand => exact Part.emptyOk_of_outlines h (by simp)
    case enquirePart =>
      unfold servePart
      repeat' split
      all_goals exact h
    all_goals exact h
  unfold serve Served.refused
  repeat' split
  all_goals first
    | exact h
    | exact wide
    | exact emptyOk_serveFace h k _ tag pl

end

theorem emptyOk_dispatch {s : State} (h : s.part.emptyOk) : (dispatch s).part.emptyOk := by
  have taken (fr : Frame) (rest : List Frame) : (dispatchFrame fr rest s).part.emptyOk := by
    unfold dispatchFrame; simp only
    split
    · exact h
    · next k _ => exact Part.emptyOk_of_outlines (emptyOk_serve h k fr.tag fr.payload) (settle_outlines _)
  unfold dispatch
  repeat' split
  all_goals first
    | exact h
    | exact taken _ _

theorem emptyOk_transmit {s : State} (h : s.part.emptyOk) : (transmit s).part.emptyOk := by
  unfold transmit
  split <;> exact h

theorem emptyOk_hostPump {s : State} (h : s.part.emptyOk) : (hostPump s).part.emptyOk :=
  emptyOk_dispatch (emptyOk_transmit (emptyOk_dispatch h))

theorem emptyOk_event {s : State} {g : Part → Part} (h : (g s.part).emptyOk) : (event g s).part.emptyOk :=
  emptyOk_hostPump (s := { s with part := settle (g s.part) }) (Part.emptyOk_of_outlines h (settle_outlines _))

theorem emptyOk_faceEvent {s : State} {f : Face} {g : Part → Part} (h : s.part.emptyOk) (k : (g s.part).emptyOk) :
    (faceEvent f g s).part.emptyOk := by
  refine emptyOk_event ?_
  split
  · exact k
  · exact h

theorem emptyOk_frameArrives {s : State} (h : s.part.emptyOk) (fr : Frame) : (frameArrives fr s).part.emptyOk :=
  emptyOk_hostPump (s := { s with host := offerFrame fr s.host }) h

/-- Every command keeps the berths that are EMPTY or ANNOUNCED empty (R27, R33, R34). -/
theorem exec_emptyOk {c : Instr} {s t : State} (e : exec c s = .next t) (h : s.part.emptyOk) : t.part.emptyOk := by
  cases c <;> (injection e with e; subst e)
  case powerOn | resetPin => exact Part.reset_empties _
  case requestReset =>
    unfold requestedReset
    split
    · exact Part.reset_empties _
    · exact h
  case hostFrameSent =>
    unfold hostSent
    split
    · exact Part.reset_empties _
    · exact emptyOk_hostPump h
  case hostByteReceived => exact emptyOk_hostPump h
  case byteGapTimerExpiry => exact h
  case firstSampleAfterReset | fireInRisingEdge | fireResetRisingEdge | fireInputFall =>
    exact emptyOk_event (Part.emptyOk_of_outlines h (by simp))
  case supplyLevelChange => exact emptyOk_event (Part.emptyOk_of_standing h (by simp))
  case axleHeadChange => exact emptyOk_faceEvent h (emptyOk_axleSample h _ _ _)
  case stopDetectorChange => exact emptyOk_faceEvent h (emptyOk_detectorSample h _ _)
  case configurationFirstSample => exact emptyOk_faceEvent h (emptyOk_firstSample h _)
  case settleTimerExpiry => exact emptyOk_faceEvent h (emptyOk_settleExpiry h)
  case gapEndBeamChange => exact emptyOk_faceEvent h (emptyOk_endBeamSample h _ _ _)
  case chainResetTimerExpiry | chainSettleTimerExpiry | doorLinkFrameSent | standbyRoundTimerExpiry | flashTimerExpiry
      | automaticOpeningNotice | unlockTimerExpiry | motionTimerExpiry | lockProofTimerExpiry | obstructionPauseTimerExpiry
      | startTimerExpiry | warningTimerExpiry | quietTimerExpiry | holdTimerExpiry | gapTimerExpiry | beamChange
      | statusReplyReceived | replyTimerExpiry
      | localRequestChange | pOpenEdge | pCloseEdge | pAllChange | proofBypassChange | gapBypassChange =>
    exact emptyOk_faceEvent h (Part.emptyOk_of_outlines h (by simp))
  all_goals exact emptyOk_frameArrives h _

end Sys2Proof.Machine

namespace Sys2Proof.Proofs

open Sys2Proof.Machine

/-- Settles O13: every command keeps the emptiness of the berths. -/
theorem stepKeepsEmptyBerth : Obligations.StepKeepsEmptyBerth := by
  intro s t h e
  rcases step_cases e with rfl | ⟨c, rest, e⟩
  · exact h
  · exact exec_emptyOk e h

end Sys2Proof.Proofs

namespace Sys2Proof.Machine

/-! ### The decoders (R19, R20, R122) -/

theorem AxleDecoder.move_self (d : AxleDecoder) : d.move d.pos = (d, none, false) := if_pos rfl

/-- A sequence ends as the decoder returns to NONE; its result stands unless it is spoiled, in error or without BOTH. -/
theorem AxleDecoder.move_none {d : AxleDecoder} (h : d.pos ≠ .none) :
    d.move .none = (.idle,
      if d.spoiled || !neighbours d.pos .none || !d.passedBoth then none else axleResult d.entry d.pos.side,
      !neighbours d.pos .none) := by
  unfold AxleDecoder.move
  rw [if_neg fun e => h e.symm, if_pos rfl]

/-- A sequence goes on, or begins, at a position with a head covered. -/
theorem AxleDecoder.move_on {d : AxleDecoder} {pos : AxlePos} (h : pos ≠ d.pos) (k : pos ≠ .none) :
    d.move pos = (⟨pos, d.entry.or pos.side, d.spoiled || !neighbours d.pos pos, d.passedBoth || decide (pos = .both)⟩,
      none, !neighbours d.pos pos) := by
  unfold AxleDecoder.move
  rw [if_neg h, if_neg k]

theorem axleResult_inward (x y : Option HeadSide) : axleResult x y = some .inward ↔ x = some .s1 ∧ y = some .s2 := by
  rcases x with _ | ⟨_ | _⟩ <;> rcases y with _ | ⟨_ | _⟩ <;> decide

theorem axleResult_outward (x y : Option HeadSide) : axleResult x y = some .outward ↔ x = some .s2 ∧ y = some .s1 := by
  rcases x with _ | ⟨_ | _⟩ <;> rcases y with _ | ⟨_ | _⟩ <;> decide

/-- A result of an ended sequence counts only out of a single side (R19). -/
theorem AxleDecoder.move_none_counts {d : AxleDecoder} (h : d.pos ≠ .none) {dir : AxleDir} {side : HeadSide} {entry : HeadSide}
    (counts : axleResult d.entry d.pos.side = some dir ↔ d.entry = some entry ∧ d.pos.side = some side)
    {pos : AxlePos} (at_ : d.pos.side = some side ↔ d.pos = pos) (beside : neighbours pos .none = true) :
    (d.move .none).2.1 = some dir ↔ d.entry = some entry ∧ d.pos = pos ∧ d.passedBoth = true ∧ d.spoiled = false := by
  rw [move_none h]; simp only
  rw [at_] at counts
  split
  · next lost =>
    refine ⟨nofun, fun ⟨_, here, passed, whole⟩ => ?_⟩
    rw [here, beside, passed, whole] at lost
    exact absurd lost (by decide)
  · next kept =>
    have flags : d.spoiled = false ∧ d.passedBoth = true := by
      revert kept
      cases d.spoiled <;> cases d.passedBoth <;> simp
    rw [counts]
    simp [flags]

theorem axleNeighbours_iff (x y : AxlePos) : neighbours x y = true ↔
    (x = .none ∧ y = .s1) ∨ (x = .s1 ∧ y = .none) ∨ (x = .s1 ∧ y = .both) ∨ (x = .both ∧ y = .s1) ∨
    (x = .both ∧ y = .s2) ∨ (x = .s2 ∧ y = .both) ∨ (x = .s2 ∧ y = .none) ∨ (x = .none ∧ y = .s2) := by
  cases x <;> cases y <;> decide

theorem CrossDecoder.move_on {d : CrossDecoder} {pos : CrossPos} (h : d.pos ≠ .none) (k : pos ≠ .none) :
    d.move pos = ({ d with pos := pos }, none) := by
  unfold CrossDecoder.move
  by_cases same : pos = d.pos
  · subst same; rw [if_pos rfl]
  · rw [if_neg same, if_neg h, if_neg k]

theorem CrossDecoder.move_begins {d : CrossDecoder} {pos : CrossPos} (h : d.pos = .none) (k : pos ≠ .none) :
    d.move pos = (⟨pos, some pos, false⟩, none) := by
  unfold CrossDecoder.move
  rw [if_neg fun e => k (e.trans h), if_pos h]

theorem CrossDecoder.move_ends {d : CrossDecoder} {e : CrossPos} (h : d.pos ≠ .none) (k : d.entry = some e) :
    d.move .none = (.idle, if d.spoiled then none else crossResult e d.pos) := by
  unfold CrossDecoder.move
  rw [if_neg fun e => h e.symm, if_neg h, if_pos rfl, k]

/-- What an unspoiled crossing gives by its entry and exit positions (R122). -/
theorem crossResult_spec {e x : CrossPos} (h : e ≠ .none) (k : x ≠ .none) :
    (crossResult e x = some .board ↔ e = .inner ∧ x = .outer) ∧
    (crossResult e x = some .alight ↔ e = .outer ∧ x = .inner) ∧
    (crossResult e x = some .undirected ↔ e = .both ∨ x = .both) ∧
    (crossResult e x = none ↔ (e = .inner ∧ x = .inner) ∨ (e = .outer ∧ x = .outer)) := by
  revert h k
  cases e <;> cases x <;> decide

end Sys2Proof.Machine

namespace Sys2Proof.Proofs

open Sys2Proof.Machine

/-- Settles O26, move by move of the two decoders. -/
theorem decoderResults : Obligations.DecoderResults := by
  refine ⟨⟨fun pos d h => ?_, AxleDecoder.move_self, fun d h => ⟨?_, ?_⟩, axleNeighbours_iff⟩, ?_, ?_, ?_⟩
  · by_cases k : pos = .none
    · subst k
      rw [AxleDecoder.move_none h.symm]
      exact ⟨rfl, fun _ => rfl, absurd rfl⟩
    · rw [AxleDecoder.move_on h k]
      exact ⟨rfl, fun e => absurd e k, fun _ => ⟨rfl, rfl, by cases pos <;> rfl, by simp, by simp⟩⟩
  · exact AxleDecoder.move_none_counts h (axleResult_inward _ _) (by cases d.pos <;> decide) rfl
  · exact AxleDecoder.move_none_counts h (axleResult_outward _ _) (by cases d.pos <;> decide) rfl
  · intro pos d h k
    rw [CrossDecoder.move_on h k]
    exact ⟨rfl, rfl⟩
  · exact fun pos d h k => CrossDecoder.move_begins h k
  · intro d e h entry inside
    rw [CrossDecoder.move_ends h entry]
    refine ⟨rfl, fun spoiled => by simp [spoiled], fun whole => ?_⟩
    simp only [whole]
    exact crossResult_spec inside h

end Sys2Proof.Proofs

namespace Sys2Proof.Machine

/-! ### The monotone pattern (R24) -/

/-- The detectors before k read clear and those from k on occupied. -/
def clearUpTo (pat : List Bool) (k : Nat) : Prop := ∀ (i : Nat) (x : Bool), pat[i]? = some x → (x = true ↔ k ≤ i)

theorem clearUpTo_clear (xs : List Bool) (k : Nat) : clearUpTo (false :: xs) k ↔ ∃ j, k = j + 1 ∧ clearUpTo xs j := by
  constructor
  · intro reads
    have first := reads 0 false rfl
    have next : 0 < k := by by_contra none; exact absurd (first.mpr (Nat.le_of_not_lt none)) nofun
    obtain ⟨j, rfl⟩ := Nat.exists_eq_succ_of_ne_zero next.ne'
    exact ⟨j, rfl, fun i x held => (reads (i + 1) x held).trans Nat.succ_le_succ_iff⟩
  · rintro ⟨j, rfl, reads⟩ i x held
    cases i with
    | zero => cases held; simp
    | succ i => exact (reads i x held).trans Nat.add_le_add_iff_right.symm

theorem clearUpTo_occupied (xs : List Bool) (k : Nat) : clearUpTo (true :: xs) k ↔ k = 0 ∧ ∀ x ∈ xs, x = true := by
  constructor
  · intro reads
    obtain rfl : k = 0 := Nat.le_zero.mp ((reads 0 true rfl).mp rfl)
    refine ⟨rfl, fun x mem => ?_⟩
    obtain ⟨i, held⟩ := List.getElem?_of_mem mem
    exact (reads (i + 1) x held).mpr (Nat.zero_le _)
  · rintro ⟨rfl, all⟩ i x held
    refine iff_of_true ?_ (Nat.zero_le _)
    cases i with
    | zero => cases held; rfl
    | succ i => exact all x (List.mem_of_getElem? held)

/-- A pattern is monotone when its clear detectors all come first. -/
theorem monotone_iff (pat : List Bool) : monotone pat = true ↔ ∃ k, k ≤ pat.length ∧ clearUpTo pat k := by
  induction pat with
  | nil => exact iff_of_true rfl ⟨0, le_refl _, nofun⟩
  | cons x xs ih =>
    cases x
    · have on : monotone (false :: xs) = monotone xs := rfl
      rw [on, ih]
      constructor
      · rintro ⟨k, within, reads⟩
        exact ⟨k + 1, Nat.succ_le_succ within, (clearUpTo_clear xs _).mpr ⟨k, rfl, reads⟩⟩
      · rintro ⟨k, within, reads⟩
        obtain ⟨j, rfl, rest⟩ := (clearUpTo_clear xs k).mp reads
        exact ⟨j, Nat.le_of_succ_le_succ within, rest⟩
    · have on : monotone (true :: xs) = true ↔ ∀ x ∈ xs, x = true := by simp [monotone]
      rw [on]
      constructor
      · exact fun all => ⟨0, Nat.zero_le _, (clearUpTo_occupied xs 0).mpr ⟨rfl, all⟩⟩
      · rintro ⟨k, _, reads⟩
        exact ((clearUpTo_occupied xs k).mp reads).2

theorem clearCount_eq {pat : List Bool} {k : Nat} (within : k ≤ pat.length) (reads : clearUpTo pat k) : clearCount pat = k := by
  induction pat generalizing k with
  | nil => exact (Nat.le_zero.mp within).symm
  | cons x xs ih =>
    cases x
    · obtain ⟨j, rfl, rest⟩ := (clearUpTo_clear xs k).mp reads
      simpa [clearCount] using ih (Nat.le_of_succ_le_succ within) rest
    · obtain ⟨rfl, all⟩ := (clearUpTo_occupied xs k).mp reads
      simpa [clearCount] using all

/-! ### The status and the stages (R42) -/

section
variable {b : Berth} (within : b.overrun = false) (even : monotone b.pattern = true)

theorem statusPlan_overrun (h : b.overrun = true) : statusPlan b = .noStage .overrun := by simp [statusPlan, h]

include within

theorem statusPlan_uncertain (h : monotone b.pattern = false) : statusPlan b = .noStage .positionUncertain := by
  simp [statusPlan, within, h]

include even

theorem statusPlan_occupied (h : clearCount b.pattern = 0) : statusPlan b = .noStage .overrun := by
  simp [statusPlan, within, even, h]

theorem statusPlan_clear (h : clearCount b.pattern ≠ 0) (k : clearCount b.pattern = b.pattern.length) :
    statusPlan b = .noStage .undershoot := by
  simp only [statusPlan, within, even, if_neg h, if_pos k]
  rfl

theorem statusPlan_placed (h : 0 < clearCount b.pattern) (k : clearCount b.pattern < b.pattern.length) :
    statusPlan b =
      match b.ann with
      | none => .noseOnly
      | some y => .whole (decide (b.unchecked = false ∧ b.axles ≠ y.expected)) := by
  simp only [statusPlan, within, even, if_neg h.ne', if_neg k.ne]
  unfold Berth.axleCheck
  cases b.ann with
  | none => rfl
  | some y =>
    simp only
    by_cases trust : b.unchecked = true
    · simp [trust]
    · by_cases agrees : b.axles = y.expected <;> simp [trust, agrees]

end

/-! ### The record (R41 to R45, R48, R49) -/

section
variable {p : Part} {f : Face} {g : Geometry} (set : (p.face f).geom = some g) (cause : AlignCause)
include set

theorem alignRecord_noStage {s : AlignStatus} (h : statusPlan (p.face f).berth = .noStage s) :
    alignRecord p f cause =
      { status := s, cause := cause, dwell := (p.face f).berth.dwell, axleCheck := (p.face f).berth.axleCheck, nose := none,
        doors := List.replicate g.doors.length .unknown, unserved := [] } := by
  unfold alignRecord
  simp only [set, h, List.map_const']

theorem alignRecord_noseOnly (h : statusPlan (p.face f).berth = .noseOnly) :
    alignRecord p f cause =
      { status := .notAnnounced, cause := cause, dwell := (p.face f).berth.dwell, axleCheck := (p.face f).berth.axleCheck,
        nose := some (noseOf g (p.face f).params (clearCount (p.face f).berth.pattern)),
        doors := List.replicate g.doors.length .unknown, unserved := [] } := by
  unfold alignRecord
  simp only [set, h, List.map_const']

theorem alignRecord_whole {mismatch : Bool} (h : statusPlan (p.face f).berth = .whole mismatch) {y : Announcement}
    (ann : (p.face f).berth.ann = some y) :
    alignRecord p f cause =
      let nose := noseOf g (p.face f).params (clearCount (p.face f).berth.pattern)
      let ts := placeTrain p y.units nose.n
      { status := if mismatch then .consistMismatch else nose.window.status, cause := cause,
        dwell := (p.face f).berth.dwell, axleCheck := (p.face f).berth.axleCheck, nose := some nose,
        doors := g.doors.map (doorEntry (p.face f).params.oMin nose.h ts),
        unserved := unservedOf (p.face f).params.oMin nose.h ts g.doors } := by
  unfold alignRecord
  simp only [set, h, ann, Option.map_some, Option.getD_some]

/-- Every record of a computation carries its cause, the dwell and the axle check, and an entry for each platform door. -/
theorem alignRecord_frame : (alignRecord p f cause).cause = cause ∧ (alignRecord p f cause).dwell = (p.face f).berth.dwell ∧
    (alignRecord p f cause).axleCheck = (p.face f).berth.axleCheck ∧ (alignRecord p f cause).doors.length = g.doors.length := by
  unfold alignRecord
  simp only [set]
  split <;> simp

end

/-- The window classes of a stop error exclude each other (R44). -/
theorem windowOf_spec (params : FaceParams) (e : Int) :
    (windowOf params e = .aligned ↔ e.natAbs ≤ params.wAuto) ∧
    (windowOf params e = .marginal ↔ params.wAuto < e.natAbs ∧ e.natAbs ≤ params.wExt) ∧
    (windowOf params e = .outOfWindow ↔ params.wAuto < e.natAbs ∧ params.wExt < e.natAbs) := by
  unfold windowOf
  split
  · next near => exact ⟨iff_of_true rfl near, iff_of_false nofun (by omega), iff_of_false nofun (by omega)⟩
  · next far =>
    split
    · next near => exact ⟨iff_of_false nofun far, iff_of_true rfl (by omega), iff_of_false nofun (by omega)⟩
    · next off => exact ⟨iff_of_false nofun far, iff_of_false nofun (by omega), iff_of_true rfl (by omega)⟩

/-! ### The verdicts handed to the doors (R41) -/

theorem handVerdict_doors_other (a : AlignRec) {d e : DoorIx} (h : d ≠ e) (r : FaceRec) :
    (handVerdict a d r).doors[e.val] = r.doors[e.val] := by
  unfold handVerdict
  rw [chooseCue_doors_other h, FaceRec.modDoor_doors_other _ h]

theorem foldl_handVerdict_doors_other (a : AlignRec) {e : DoorIx} (ds : List DoorIx) (h : e ∉ ds) (r : FaceRec) :
    (ds.foldl (fun r d => handVerdict a d r) r).doors[e.val] = r.doors[e.val] := by
  induction ds generalizing r with
  | nil => rfl
  | cons d ds ih =>
    simp only [List.mem_cons, not_or] at h
    rw [List.foldl_cons, ih h.2, handVerdict_doors_other a fun q => h.1 q.symm]

theorem mem_configuredDoors {r : FaceRec} {d : DoorIx} : d ∈ r.configuredDoors ↔ r.configured d = true := by
  simp [FaceRec.configuredDoors, allDoors]

theorem writeAlign_doors_other (f : Face) (a : AlignRec) {p : Part} {d : DoorIx} (h : (p.face f).configured d = false) :
    ((writeAlign f a p).face f).doors[d.val] = (p.face f).doors[d.val] := by
  unfold writeAlign
  rw [Part.modFace_self]
  exact foldl_handVerdict_doors_other a _ (fun mem => by rw [mem_configuredDoors, h] at mem; cases mem) _

/-- A configured door of a geometry has an entry in a record of as many entries. -/
theorem AlignRec.entryOf_held {r : FaceRec} {g : Geometry} (set : r.geom = some g) {a : AlignRec}
    (all : a.doors.length = g.doors.length) {d : DoorIx} (h : r.configured d = true) : a.doors[d.val]? = some (a.entryOf d) := by
  have inside : d.val < a.doors.length := by
    rw [all]
    simpa [FaceRec.configured, FaceRec.n, set, Geometry.n] using h
  unfold AlignRec.entryOf
  rw [List.getElem?_eq_getElem inside]
  rfl

end Sys2Proof.Machine

namespace Sys2Proof.Proofs

open Sys2Proof.Machine

/-- Settles O31: the pattern by its list, the record by the plan of R42, the verdicts by what a written record hands on. -/
theorem nosePlaced : Obligations.NosePlaced := by
  refine ⟨fun pat => ⟨monotone_iff pat, fun k within reads => clearCount_eq within reads⟩, ?_⟩
  intro f p cause g set
  obtain ⟨whose, dwell, check, entries⟩ := alignRecord_frame set cause
  have noStage {s : AlignStatus} (h : statusPlan (p.face f).berth = .noStage s) : (alignRecord p f cause).status = s ∧
      (alignRecord p f cause).nose = none ∧ (alignRecord p f cause).doors = List.replicate g.doors.length .unknown ∧
      (alignRecord p f cause).unserved = [] := by
    rw [alignRecord_noStage set cause h]; exact ⟨rfl, rfl, rfl, rfl⟩
  refine ⟨whose, dwell, fun ann => ?_, fun y ann => ?_, fun past => noStage (statusPlan_overrun past),
    fun within odd => noStage (statusPlan_uncertain within odd),
    fun within even zero => noStage (statusPlan_occupied within even zero),
    fun within even reached all => noStage (statusPlan_clear within even reached all),
    fun within even reached fewer => ?_, ?_⟩
  · rw [check]; simp [Berth.axleCheck, ann]
  · rw [check]; simp [Berth.axleCheck, ann]
  · have plan := statusPlan_placed within even reached fewer
    have nose : (alignRecord p f cause).nose = some (noseOf g (p.face f).params (clearCount (p.face f).berth.pattern)) := by
      cases ann : (p.face f).berth.ann with
      | none => rw [alignRecord_noseOnly set cause (by rw [plan, ann])]
      | some y => rw [alignRecord_whole set cause (plan.trans (by rw [ann])) ann]
    obtain ⟨aligned, marginal, out⟩ := windowOf_spec (p.face f).params
      (noseOf g (p.face f).params (clearCount (p.face f).berth.pattern)).e
    refine ⟨_, nose, rfl, rfl, rfl, aligned, marginal, out, fun ann => ?_, fun y ann => ?_⟩
    · rw [alignRecord_noseOnly set cause (by rw [plan, ann])]
      exact ⟨rfl, rfl, rfl⟩
    · rw [alignRecord_whole set cause (plan.trans (by rw [ann])) ann]
      simp
  · have written : ((writeAlign f (alignRecord p f cause) p).face f).standing = _ :=
      congrFun (writeAlign_standing f (alignRecord p f cause) p) f
    rw [Function.update_self] at written
    refine ⟨(congrArg Standing.align written :), fun d => ⟨fun inside => ?_, fun outside => writeAlign_doors_other f _ outside⟩⟩
    have handed := congrFun (congrArg Standing.doors written :) d
    simp only [Standing.write, inside, if_true] at handed
    exact ⟨_, AlignRec.entryOf_held set entries inside, (congrArg Prod.fst handed :), (congrArg Prod.snd handed :)⟩

end Sys2Proof.Proofs

namespace Sys2Proof.Machine

/-! ### Reports told of (R170, R171) -/

/-- The report waits, or LOSS stands. -/
def Part.told (x : Report) (p : Part) : Prop := p.loss = true ∨ x ∈ p.reports

theorem queueReport_told (x : Report) (p : Part) : (queueReport x p).told x := queueReport_mem x p

/-- A report that no DOOR report replaces is told of until it is sent, whatever the blocks do. -/
theorem told_closed {x : Report} (h : ∀ r : Report, r.sameDoor x = false) : Closed (fun _ => True) (Part.told x) where
  report r p k := k.elim (fun l => .inl (queueReport_loss r p l)) fun m => queueReport_keeps r x p m (h r)
  mod f _ _ _ _ k := by cases f <;> exact k
  shrink _ _ _ _ _ k := k
  join _ _ _ k := k
  start _ _ _ _ k := k
  queued _ _ _ _ := trivial
  supply _ _ k := k
  fire _ _ k := k
  profiles _ _ k := k
  params _ _ _ k := k
  present _ _ _ _ := trivial
  away _ _ _ k := absurd trivial k

theorem Report.sameDoor_other {x : Report} (h : x.doorKey = none) (r : Report) : r.sameDoor x = false := by
  unfold Report.sameDoor
  split
  · rfl
  · rw [h]; rfl

theorem settle_told {x : Report} (h : x.doorKey = none) {p : Part} (k : p.told x) : (settle p).told x :=
  settle_inv (told_closed (Report.sameDoor_other h)).stillInv (fun _ => trivial) k

/-- Two reports that the part tells of, the transmitter's opportunity tells of. -/
theorem transmit_told {s : State} {x y : Report} (h : s.part.told x) (k : s.part.told y) :
    (transmit s).lossy ∨ ((transmit s).tells x ∧ (transmit s).tells y) := by
  by_cases lost : s.part.loss = true
  · exact .inl (transmit_lossy s lost)
  · exact .inr ⟨transmit_tells x s (h.resolve_left lost), transmit_tells y s (k.resolve_left lost)⟩

/-! ### The end of an event (R165, R171) -/

@[simp] theorem transmit_face (s : State) (f : Face) : (transmit s).part.face f = s.part.face f := by
  unfold transmit
  split
  case h_2 => exact s.part.face_mk ..
  all_goals rfl

theorem transmit_free {s : State} (h : s.host.tx = .idle → s.host.reply = none) :
    (transmit s).host.reply = s.host.reply ∧ (transmit s).host.inbound = s.host.inbound ∧
      (transmit s).host.resetting = s.host.resetting := by
  unfold transmit
  split
  · next r _ idle waits => rw [h idle] at waits; cases waits
  all_goals exact ⟨rfl, rfl, rfl⟩

/-- Of an event on a settled state the host link makes only the transmitter's opportunity. -/
theorem event_eq {s : State} (h : s.Settled) (g : Part → Part) :
    event g s = transmit { s with part := settle (g s.part) } := by
  obtain ⟨reply, inbound, resetting⟩ :=
    transmit_free (s := { s with part := settle (g s.part) }) fun idle => (h.sent idle).1
  show dispatch (transmit (dispatch { s with part := settle (g s.part) })) = _
  rw [dispatch_settled (s := { s with part := settle (g s.part) }) h.dispatched, dispatch_settled]
  rw [reply, inbound, resetting]
  exact h.dispatched

theorem faceEvent_eq {s : State} (h : s.Settled) {f : Face} (here : s.part.present f = true) (g : Part → Part) :
    faceEvent f g s = transmit { s with part := settle (g s.part) } := by
  unfold faceEvent
  rw [event_eq h]
  simp only [here, if_true]

/-! ### Views of a face at the end of an event -/

section
variable {α : Type} (v : FaceRec → α)

/-- What the gap check's record, ALARM and the secured state do not show, a change of the gap state keeps. -/
theorem gapTo_view (gap : ∀ r s, v (r.modGap fun g => { g with state := s, timer := none }) = v r)
    (alarm : ∀ r a, v (r.modMode fun m => { m with alarm := a }) = v r) (secured : ∀ r b, v { r with secured := b } = v r)
    (f f' : Face) (new : GapState) (c : GapCause) (d : Option DoorIx) (p : Part) :
    v ((gapTo f new c d p).face f') = v (p.face f') := by
  have set := p.modFace_keeps v f f' _ (gap · new)
  have sounded (q : Part) := q.modFace_keeps v f f' _ (alarm · (decide (new = .failed)))
  have proved (q : Part) : v ((recomputeSecured f .gap false q).face f') = v (q.face f') := by
    have kept := q.modFace_keeps v f f' _ (secured · (q.face f).proofMet)
    unfold recomputeSecured; simp only
    split
    · rw [queueReport_face]; exact kept
    · exact kept
  unfold gapTo; simp only
  split
  · exact set
  · rw [proved, queueGapReport, queueReport_face, sounded, set]

/-- What cues and health entries do not show, the choice of a cue keeps. -/
theorem chooseCue_view (cue : ∀ r d c, v (r.modDoor d fun x => { x with cue := c }) = v r)
    (health : ∀ r d g, v (r.modHealth d g) = v r) (d : DoorIx) (r : FaceRec) : v (chooseCue d r) = v r := by
  have handed (c : Cue) (r : FaceRec) : v (handCue d c r) = v r := by
    unfold handCue
    split
    · exact health ..
    · rfl
  unfold chooseCue; simp only
  split
  · rw [handed, cue]
  · rfl

theorem refreshCues_view (cue : ∀ r d c, v (r.modDoor d fun x => { x with cue := c }) = v r)
    (health : ∀ r d g, v (r.modHealth d g) = v r) (r : FaceRec) : v (refreshCues r) = v r :=
  foldl_keeps v _ (fun r d => chooseCue_view v cue health d r) _ r

end

/-! ### A face whose operation is not due to end -/

/-- The operation of the face, if any, is not due to end or to go on to its next phase (R104, R107). -/
def FaceRec.quiet (r : FaceRec) : Prop :=
  ∀ op, r.op = some op → op.complete = true → op.kind = .close ∧ op.phase ≠ some .closing

theorem FaceRec.quiet_of_none {r : FaceRec} (h : r.op = none) : r.quiet := fun op e => by rw [h] at e; cases e

theorem seqCheck_quiet {f : Face} {p : Part} (h : (p.face f).quiet) : seqCheck f p = p := by
  unfold seqCheck
  split
  · rfl
  · next op e =>
    split
    · next complete =>
      obtain ⟨close, phase⟩ := h op e complete
      split
      · next opens => rw [close] at opens; cases opens
      · next closing => exact absurd closing phase
      · rfl
    · rfl

/-- A face after the end of an event that finds its operation quiet: its standing, operation and warning kept, and the gap
state but for a FAILED that has cleared (R131). -/
structure FaceRec.Rests (r x : FaceRec) : Prop where
  standing : x.standing = r.standing
  op : x.op = r.op
  warning : x.warning = r.warning
  gap : r.gap.state ≠ .failed → x.gap.state = r.gap.state

theorem FaceRec.Rests.rfl' (r : FaceRec) : r.Rests r := ⟨rfl, rfl, rfl, fun _ => rfl⟩

theorem FaceRec.Rests.trans {a b c : FaceRec} (h : a.Rests b) (k : b.Rests c) : a.Rests c :=
  ⟨k.standing.trans h.standing, k.op.trans h.op, k.warning.trans h.warning,
    fun n => (k.gap (by rw [h.gap n]; exact n)).trans (h.gap n)⟩

theorem gapUpdate_rests (f : Face) (p : Part) : (p.face f).Rests ((gapUpdate f p).face f) := by
  have view (v : FaceRec → Option Op × Timer) (k : ∀ r s b a, v ⟨r.geom, r.classes, r.params, r.berth, r.align, r.link,
      r.health, r.doors, r.sense, r.op, r.warning, r.notice, s, { r.mode with alarm := a }, b⟩ = v r) :
      v ((gapUpdate f p).face f) = v (p.face f) := by
    unfold gapUpdate; simp only
    rw [Part.modFace_self]
    refine (k _ _ _ _).trans ?_
    split
    · exact gapTo_view v (fun r s => k r _ _ _) (fun r a => k r _ _ a) (fun r b => k r _ b _) ..
    · rfl
  have work := view (fun r => (r.op, r.warning)) fun _ _ _ _ => rfl
  refine ⟨congrFun (gapUpdate_standing f p) f, congrArg Prod.fst work, congrArg Prod.snd work, fun n => ?_⟩
  unfold gapUpdate; simp only
  rw [if_neg fun c => n c.1, Part.modFace_self]
  rfl

theorem handoverCheck_rests (f : Face) (p : Part) : (p.face f).Rests ((handoverCheck f p).face f) := by
  have standing := congrFun (handoverCheck_standing f p) f
  unfold handoverCheck at standing ⊢; simp only at standing ⊢
  split at standing
  · next c =>
    rw [if_pos c]
    have eq : (grantHandover f p).face f = _ := (queueReport_face _ _ _).trans (Part.modFace_self ..)
    exact ⟨standing, by rw [eq]; rfl, by rw [eq]; rfl, fun _ => by rw [eq]; rfl⟩
  · next c => rw [if_neg c]; exact .rfl' _

theorem linkPump_rests (r : FaceRec) : r.Rests (linkPump r) := by
  have view := linkPump_view (fun r => (r.op, r.warning, r.gap)) (fun _ _ => rfl) (fun _ _ _ => rfl) (fun _ _ _ _ => rfl) r
  obtain ⟨op, warning, gap⟩ : _ ∧ _ ∧ _ := ⟨congrArg (·.1) view, congrArg (·.2.1) view, congrArg (·.2.2) view⟩
  exact ⟨linkPump_standing r, op, warning, fun _ => congrArg GapRec.state gap⟩

/-- The end of an event on a face whose operation is quiet. -/
theorem settle_rests {f : Face} {p : Part} (h : (p.face f).quiet) : (p.face f).Rests ((settle p).face f) := by
  refine settle_face ((p.face f).Rests ·) f (fun q k => ?_) (fun x k => k.trans (linkPump_rests x)) (.rfl' _)
  have quiet : (q.face f).quiet := by unfold FaceRec.quiet; rw [k.op]; exact h
  show (p.face f).Rests ((handoverCheck f (gapUpdate f (seqCheck f q))).face f)
  rw [seqCheck_quiet quiet]
  exact (k.trans (gapUpdate_rests f q)).trans (handoverCheck_rests f _)

/-- The end of an event leaves every door its record, but for the cue and the unlock timer. -/
theorem settle_doors (f : Face) (p : Part) (d : DoorIx) : ((settle p).face f).doors[d.val].core = (p.face f).doors[d.val].core := by
  have still := (settle_kept p).1 f
  simp only [FaceRec.still, Prod.mk.injEq] at still
  exact congrFun still.2.2.1 d

end Sys2Proof.Machine

namespace Sys2Proof.Machine

/-! ### What the rules at the end of an event read -/

/-- The fields of a door record that the rules at the end of an event read. -/
def Door.duty (x : Door) : DoorState × Bool × Bool := (x.state, x.keyIso, x.hostIso)

/-- What the rules at the end of an event read of a face, with its warning timer and wake round. -/
def FaceRec.duties (r : FaceRec) :
    (Option Op × Timer) × Option Geometry × GapRec × Vector Sense 24 × (FaceMode × Bool × Bool) × LinkState ×
      (DoorIx → DoorState × Bool × Bool) :=
  ((r.op, r.warning), r.geom, { r.gap with counting := false }, r.sense, (r.mode.mode, r.mode.handover, r.mode.wakeRound),
    r.link.state, fun d => r.doors[d].duty)

theorem FaceRec.Even.of_duties {r q : FaceRec} (h : r.Even) (same : q.duties = r.duties) : q.Even := by
  simp only [FaceRec.duties, Prod.mk.injEq] at same
  obtain ⟨⟨op, _⟩, geom, gap, sense, ⟨mode, handover, _⟩, link, doors⟩ := same
  have configured := FaceRec.configured_of_geom geom
  have state (d : DoorIx) : q.doors[d].state = r.doors[d].state := (congrArg Prod.fst (congrFun doors d) :)
  have iso (d : DoorIx) : q.doors[d].iso = r.doors[d].iso := by
    have := congrFun doors d
    simp only [Door.duty, Prod.mk.injEq] at this
    obtain ⟨_, key, host⟩ := this
    unfold Door.iso; rw [key, host]
  have watched : q.watched = r.watched := funext fun d => by unfold FaceRec.watched; rw [configured, iso d]
  have gapState : q.gap.state = r.gap.state := (congrArg GapRec.state gap :)
  have gapTimer : q.gap.timer = r.gap.timer := (congrArg GapRec.timer gap :)
  have head : q.gap.headBeam = r.gap.headBeam := (congrArg GapRec.headBeam gap :)
  have tail : q.gap.tailBeam = r.gap.tailBeam := (congrArg GapRec.tailBeam gap :)
  have clear : q.gapClear = r.gapClear := by
    unfold FaceRec.gapClear FaceRec.blockedDoors; rw [head, tail, watched, sense]
  have waiting : q.waitingDoors = r.waitingDoors := by
    unfold FaceRec.waitingDoors; simp only [watched, sense, state]
  have rest : q.atRest = r.atRest := by
    unfold FaceRec.atRest FaceRec.enumerating FaceRec.configuredDoors; simp only [link, op, configured, state]
  refine ⟨?_, ?_, ?_, ?_⟩
  · rw [op]; exact h.op
  · rw [gapState, clear]; exact h.failed
  · rw [gapTimer, gapState, clear, waiting]; exact h.timer
  · rw [mode, handover, rest]; exact h.handover

theorem FaceRec.modDoor_duties (r : FaceRec) (d : DoorIx) (g : Door → Door)
    (h : (g r.doors[d.val]).duty = r.doors[d.val].duty) : (r.modDoor d g).duties = r.duties := by
  have each : (fun e : DoorIx => (r.modDoor d g).doors[e].duty) = fun e : DoorIx => r.doors[e].duty := funext fun e => by
    simp only [Fin.getElem_fin, FaceRec.modDoor_doors]
    split
    · next q => subst q; exact h
    · rfl
  unfold FaceRec.duties
  rw [each]
  rfl

theorem chooseCue_duties (d : DoorIx) (r : FaceRec) : (chooseCue d r).duties = r.duties :=
  chooseCue_view FaceRec.duties (fun r d _ => r.modDoor_duties d _ rfl) (fun _ _ _ => rfl) d r

theorem refreshCues_duties (r : FaceRec) : (refreshCues r).duties = r.duties :=
  refreshCues_view FaceRec.duties (fun r d _ => r.modDoor_duties d _ rfl) (fun _ _ _ => rfl) r

theorem writeAlign_duties (f f' : Face) (a : AlignRec) (p : Part) :
    ((writeAlign f a p).face f').duties = (p.face f').duties := by
  have one (d : DoorIx) (r : FaceRec) : (handVerdict a d r).duties = r.duties := by
    unfold handVerdict
    rw [chooseCue_duties, FaceRec.modDoor_duties _ _ _ rfl]
  exact p.modFace_keeps FaceRec.duties f f' _ fun r => foldl_keeps FaceRec.duties _ (fun r d => one d r) _ _

theorem noticeTest_duties (r : FaceRec) : (noticeTest r).duties = r.duties := by
  unfold noticeTest; split <;> rfl

/-! ### Entries of the berth that the gap check and a wake leave alone -/

/-- An entry that is no arrival at the face and no train found there (R127). -/
def settlesGap (prev new : BerthState) : Prop :=
  new ≠ .unreckoned ∧ (new = .arriving → prev ≠ .empty ∧ prev ≠ .announced)

theorem settlesGap_of {prev new : BerthState} (found : new ≠ .unreckoned) (arrives : new ≠ .arriving) : settlesGap prev new :=
  ⟨found, fun e => absurd e arrives⟩

theorem berthGap_settled {prev new : BerthState} (h : settlesGap prev new) (f : Face) (p : Part) : berthGap f prev new p = p := by
  obtain ⟨found, arrival⟩ := h
  unfold berthGap
  split
  · exact absurd rfl found
  · exact absurd rfl (arrival rfl).1
  · exact absurd rfl (arrival rfl).2
  · rfl

/-- Outside STANDBY, and where it means nothing to the gap check, an entry is a change of the berth record. -/
theorem enterBerth_face {f : Face} {p : Part} {new : BerthState} (awake : (p.face f).mode.mode ≠ .standby)
    (gap : settlesGap (p.face f).berth.state new) (c : BerthCause) (f' : Face) :
    (enterBerth f new c p).face f' = (p.modFace f fun r =>
      refreshCues (r.modBerth fun b => { b with state := new, settle := settleAtEntry r new })).face f' := by
  have woken : wakeFace f p = p := if_neg awake
  unfold enterBerth; simp only
  rw [berthGap_settled gap, woken, ite_self]
  split
  · rfl
  · exact queueReport_face ..

theorem enterBerth_duties {f : Face} {p : Part} {new : BerthState} (awake : (p.face f).mode.mode ≠ .standby)
    (gap : settlesGap (p.face f).berth.state new) (c : BerthCause) (f' : Face) :
    ((enterBerth f new c p).face f').duties = (p.face f').duties := by
  rw [enterBerth_face awake gap]
  exact p.modFace_keeps FaceRec.duties f f' _ fun r => (refreshCues_duties _).trans rfl

/-! ### The operation at an entry -/

/-- The operation and its warning timer. -/
def FaceRec.work (r : FaceRec) : Option Op × Timer := (r.op, r.warning)

theorem FaceRec.work_of_duties {r q : FaceRec} (h : q.duties = r.duties) : q.work = r.work := congrArg Prod.fst h

section
variable (f f' : Face) (p : Part)

theorem Part.modFace_work (g : FaceRec → FaceRec) (h : ∀ r, (g r).work = r.work) :
    ((p.modFace f g).face f').work = (p.face f').work := p.modFace_keeps FaceRec.work f f' g h

theorem gapTo_work (s : GapState) (c : GapCause) (d : Option DoorIx) : ((gapTo f s c d p).face f').work = (p.face f').work :=
  gapTo_view FaceRec.work (fun _ _ => rfl) (fun _ _ => rfl) (fun _ _ => rfl) ..

theorem takeLocalRequest_work : ((takeLocalRequest f p).face f').work = (p.face f').work := by
  unfold takeLocalRequest grantHandover queueModeReport; simp only
  repeat' split
  · rw [queueReport_face]; exact p.modFace_work f f' _ fun _ => rfl
  · rfl
  · rw [queueReport_face]; exact p.modFace_work f f' _ fun _ => rfl
  · rfl

theorem wakeFace_work : ((wakeFace f p).face f').work = (p.face f').work := by
  unfold wakeFace enterAuto queueModeReport; simp only
  split
  · rw [takeLocalRequest_work, queueReport_face, Part.modFace_modFace]
    exact p.modFace_work f f' _ fun _ => rfl
  · rfl

theorem berthGap_work (prev new : BerthState) : ((berthGap f prev new p).face f').work = (p.face f').work := by
  unfold berthGap gapPending; simp only
  repeat' split
  all_goals first
    | exact gapTo_work ..
    | rfl

/-- An entry leaves the operation and its warning, a wake too. -/
theorem enterBerth_work (new : BerthState) (c : BerthCause) : ((enterBerth f new c p).face f').work = (p.face f').work := by
  have entered (q : Part) : ((q.modFace f fun r =>
      refreshCues (r.modBerth fun b => { b with state := new, settle := settleAtEntry r new })).face f').work =
        (q.face f').work :=
    q.modFace_work f f' _ fun r => FaceRec.work_of_duties (refreshCues_duties _)
  unfold enterBerth; simp only
  rw [berthGap_work]
  split
  · exact entered p
  · rw [queueReport_face, entered, wakeFace_work]

end

/-- At the end of the event of an entry the face stands as it has entered. -/
theorem settle_enterBerth {f : Face} {p : Part} (new : BerthState) (c : BerthCause) (h : (p.face f).quiet) :
    ((settle (enterBerth f new c p)).face f).standing = (p.standing f).enter new := by
  have op : ((enterBerth f new c p).face f).op = (p.face f).op := congrArg Prod.fst (enterBerth_work f f p new c)
  have quiet : ((enterBerth f new c p).face f).quiet := by unfold FaceRec.quiet; rw [op]; exact h
  exact (settle_rests quiet).standing.trans ((congrFun (enterBerth_standing f new c p) f).trans (Function.update_self ..))

end Sys2Proof.Machine

namespace Sys2Proof.Machine

/-! ### Door records but for what entries of the berth hand them -/

/-- A door record without its cue, its verdict and overlap, and its unlock and start timers. -/
def Door.stance (x : Door) : Door :=
  { x with cue := .dark, unlockT := none, startT := none, verdict := .vUnknown, ov := 0 }

theorem Door.stance_of_core {x y : Door} (h : x.core = y.core) : x.stance = y.stance :=
  (congrArg (fun z : Door => { z with startT := none, verdict := .vUnknown, ov := 0 }) h :)

theorem stance_of_kept {p q : Part} (h : Kept p q) (f : Face) (d : DoorIx) :
    (q.face f).doors[d.val].stance = (p.face f).doors[d.val].stance := by
  have still := h.1 f
  simp only [FaceRec.still, Prod.mk.injEq] at still
  exact Door.stance_of_core (congrFun still.2.2.1 d)

theorem enterBerth_stance (f f' : Face) (new : BerthState) (c : BerthCause) (p : Part) (d : DoorIx) :
    ((enterBerth f new c p).face f').doors[d.val].stance = (p.face f').doors[d.val].stance :=
  stance_of_kept (enterBerth_inv (kept_stillInv p) f trivial new c ⟨fun _ => rfl, rfl⟩) f' d

theorem FaceRec.modDoor_stance (r : FaceRec) (d e : DoorIx) (g : Door → Door) (h : ∀ x, (g x).stance = x.stance) :
    (r.modDoor d g).doors[e.val].stance = r.doors[e.val].stance := by
  rw [FaceRec.modDoor_doors]
  split
  · exact h _
  · rfl

theorem writeAlign_stance (f f' : Face) (a : AlignRec) (p : Part) (d : DoorIx) :
    ((writeAlign f a p).face f').doors[d.val].stance = (p.face f').doors[d.val].stance := by
  have one (e : DoorIx) (r : FaceRec) : (handVerdict a e r).doors[d.val].stance = r.doors[d.val].stance := by
    unfold handVerdict
    rw [chooseCue_view (fun r => r.doors[d.val].stance) (fun r e _ => r.modDoor_stance e d _ fun _ => rfl) fun _ _ _ => rfl]
    exact r.modDoor_stance e d _ fun _ => rfl
  exact p.modFace_keeps (fun r => r.doors[d.val].stance) f f' _ fun r =>
    foldl_keeps (fun r => r.doors[d.val].stance) _ (fun r e => one e r) _ _

/-! ### The report of an entry (R26) -/

theorem enterBerth_told {f : Face} {new : BerthState} {p : Part} (h : new ≠ (p.face f).berth.state) (c : BerthCause) :
    (enterBerth f new c p).told
      (.berth f (berthReport (p.face f).berth.state c ((p.standing f).enter new).berth)) := by
  have whole := enterBerth_standing f new c p
  unfold enterBerth at whole ⊢; simp only at whole ⊢
  rw [if_neg h, if_neg h] at whole ⊢
  rw [berthGap_standing, queueReport_standing] at whole
  generalize (wakeFace f p).modFace f _ = q at whole ⊢
  have berth : (q.face f).berth = ((p.standing f).enter new).berth := by
    have here : (q.face f).standing = _ := (congrFun whole f).trans (Function.update_self ..)
    exact (congrArg Standing.berth here :)
  rw [berth]
  exact berthGap_inv (told_closed (Report.sameDoor_other rfl)).stillInv f trivial _ _ (queueReport_told _ _)

/-! ### The entry to EMPTY (R33) -/

/-- A berth record that nothing is announced or counted of. -/
def Berth.forgotten (b : Berth) : Berth :=
  { b with ann := none, axles := 0, overrun := false, unannounced := false, unchecked := false, served := false }

/-- The part as the entry to EMPTY counts its dwell out (R123). -/
def uncounted (f : Face) (c : BerthCause) (p : Part) : Part :=
  clearAlign f .empty (enterBerth f .empty c (p.modFace f fun r => r.modBerth Berth.forgotten))

theorem emptied_eq (f : Face) (c : BerthCause) (p : Part) :
    emptied f c p = (queueCounts f (uncounted f c p)).modFace f clearDwell := rfl

theorem uncounted_work (f : Face) (c : BerthCause) (p : Part) : ((uncounted f c p).face f).work = (p.face f).work := by
  unfold uncounted clearAlign
  rw [FaceRec.work_of_duties (writeAlign_duties ..), enterBerth_work]
  exact p.modFace_work f f _ fun _ => rfl

theorem uncounted_stance (f : Face) (c : BerthCause) (p : Part) (d : DoorIx) :
    ((uncounted f c p).face f).doors[d.val].stance = (p.face f).doors[d.val].stance := by
  unfold uncounted clearAlign
  rw [writeAlign_stance, enterBerth_stance, Part.modFace_self]
  rfl

theorem sequencerEmpty_idle {f : Face} {p : Part} (h : (p.face f).op = none) : sequencerEmpty f p = p := by
  unfold sequencerEmpty; rw [h]

section
variable {f : Face} {p : Part} (c : BerthCause)

theorem endGapCheck_work (g : GapCause) : ((endGapCheck f g p).face f).work = (p.face f).work := by
  unfold endGapCheck
  rw [gapTo_work]
  exact p.modFace_work f f _ fun _ => rfl

variable (idle : (p.face f).op = none)
include idle

theorem emptied_idle : ((emptied f c p).face f).op = none := by
  rw [emptied_eq, Part.modFace_self]
  have work := uncounted_work f c p
  rw [show (clearDwell ((queueCounts f (uncounted f c p)).face f)).op = ((queueCounts f (uncounted f c p)).face f).op from rfl,
    queueCounts, queueReport_face]
  exact (congrArg Prod.fst work).trans idle

theorem enterEmpty_idle : enterEmpty f c p = endGapCheck f .empty (emptied f c p) := by
  rw [enterEmpty_eq, sequencerEmpty_idle]
  exact (congrArg Prod.fst (endGapCheck_work ..)).trans (emptied_idle c idle)

/-- A face that enters EMPTY with no operation in flight. -/
theorem enterEmpty_face : ((enterEmpty f c p).face f).op = none ∧
    (enterEmpty f c p).standing = Function.update p.standing f (p.face f).emptiedStanding ∧
    ((enterEmpty f c p).face f).gap.state = .notRequired ∧
    ∀ d : DoorIx, ((enterEmpty f c p).face f).doors[d.val].counts = .zero ∧
      ((enterEmpty f c p).face f).doors[d.val].attempts = 0 ∧ ((enterEmpty f c p).face f).doors[d.val].gapReopens = 0 := by
  rw [enterEmpty_idle c idle]
  refine ⟨(congrArg Prod.fst (endGapCheck_work ..)).trans (emptied_idle c idle),
    (endGapCheck_standing ..).trans (emptied_standing ..), gapTo_state .., fun d => ?_⟩
  have doors : ((endGapCheck f .empty (emptied f c p)).face f).doors = ((emptied f c p).face f).doors := by
    unfold endGapCheck
    rw [gapTo_view FaceRec.doors (fun _ _ => rfl) (fun _ _ => rfl) (fun _ _ => rfl)]
    exact Part.modFace_keeps FaceRec.doors _ f f _ fun _ => rfl
  have cleared : ((emptied f c p).face f).doors[d.val].counts = .zero ∧ ((emptied f c p).face f).doors[d.val].attempts = 0 ∧
      ((emptied f c p).face f).doors[d.val].gapReopens = 0 := by
    rw [emptied_eq, Part.modFace_self]
    simp [clearDwell]
  simp only [doors]
  exact cleared

end

/-! ### The face after the event -/

/-- At the end of the event of an entry to EMPTY the face stands emptied. -/
theorem settle_enterEmpty {f : Face} {p : Part} (idle : (p.face f).op = none) (c : BerthCause) :
    ((settle (enterEmpty f c p)).face f).standing = (p.face f).emptiedStanding := by
  obtain ⟨noOp, standing, _⟩ := enterEmpty_face c idle
  exact (settle_rests (FaceRec.quiet_of_none noOp)).standing.trans ((congrFun standing f).trans (Function.update_self ..))

/-- The entry to EMPTY, seen from a face of which it started, at the end of the event (R33, R51, R123, R126). -/
theorem emptied_of_enterEmpty {before : FaceRec} {f : Face} {p : Part} (idle : (p.face f).op = none)
    (geom : (p.face f).geom = before.geom) (dwell : (p.face f).berth.dwell = before.berth.dwell)
    (align : (p.face f).align.dwell = before.align.dwell) (c : BerthCause) :
    before.Emptied ((settle (enterEmpty f c p)).face f) := by
  obtain ⟨noOp, _, gap, doors⟩ := enterEmpty_face c idle
  have ends := settle_rests (FaceRec.quiet_of_none noOp)
  have here := settle_enterEmpty idle c
  have berth : ((settle (enterEmpty f c p)).face f).berth = _ := (congrArg Standing.berth here :)
  have held (d : DoorIx) := settle_doors f (enterEmpty f c p) d
  refine ⟨?_, ⟨(ends.gap (by rw [gap]; decide)).trans gap, ?_⟩, ?_, fun d set => ?_, fun d => ?_⟩
  · rw [berth]; exact ⟨rfl, rfl, rfl, rfl, rfl, rfl, rfl, dwell, rfl⟩
  · exact (congrArg (fun t => t.gap.counting) here :)
  · refine (congrArg Standing.align here :).trans ?_
    show (p.face f).recordCleared .empty = before.recordCleared .empty
    unfold FaceRec.recordCleared FaceRec.n
    rw [geom, align]
  · have judged := congrFun (congrArg Standing.doors here :) d
    have set' : (p.face f).configured d = true := by
      have geom : ((settle (enterEmpty f c p)).face f).geom = (p.face f).geom := (congrArg Standing.geom here :)
      rw [← FaceRec.configured_of_geom geom]; exact set
    simp only [FaceRec.emptiedStanding, set', if_true] at judged
    exact ⟨congrArg Prod.fst judged, congrArg Prod.snd judged⟩
  · obtain ⟨counts, attempts, reopens⟩ := doors d
    exact ⟨(congrArg Door.counts (held d) :).trans counts, (congrArg Door.attempts (held d) :).trans attempts,
      (congrArg Door.gapReopens (held d) :).trans reopens⟩

theorem clearAlign_berth (f : Face) (c : AlignCause) (p : Part) :
    ((clearAlign f c p).face f).berth = (p.face f).berth ∧ ((clearAlign f c p).face f).geom = (p.face f).geom := by
  have here : ((clearAlign f c p).face f).standing = _ := (congrFun (clearAlign_standing f c p) f).trans (Function.update_self ..)
  exact ⟨(congrArg Standing.berth here :), (congrArg Standing.geom here :)⟩

theorem enterBerth_berth (f : Face) (new : BerthState) (c : BerthCause) (p : Part) :
    ((enterBerth f new c p).face f).berth = ((p.standing f).enter new).berth ∧
      ((enterBerth f new c p).face f).geom = (p.face f).geom := by
  have here : ((enterBerth f new c p).face f).standing = _ :=
    (congrFun (enterBerth_standing f new c p) f).trans (Function.update_self ..)
  exact ⟨(congrArg Standing.berth here :), (congrArg Standing.geom here :)⟩

/-- What the entry to EMPTY counts out is the dwell and the counts of the face before it. -/
theorem uncounted_counts (f : Face) (c : BerthCause) (p : Part) :
    queueCounts f (uncounted f c p) = queueReport
      (.counts f (p.face f).berth.dwell ((p.face f).configuredDoors.map fun d => (d, (p.face f).doors[d].counts)))
      (uncounted f c p) := by
  obtain ⟨berth, geom⟩ := clearAlign_berth f .empty (enterBerth f .empty c (p.modFace f fun r => r.modBerth Berth.forgotten))
  obtain ⟨berth', geom'⟩ := enterBerth_berth f .empty c (p.modFace f fun r => r.modBerth Berth.forgotten)
  have dwell : ((uncounted f c p).face f).berth.dwell = (p.face f).berth.dwell := by
    unfold uncounted
    rw [berth, berth', Part.modFace_standing_eq, Function.update_self]
    rfl
  have set : ((uncounted f c p).face f).geom = (p.face f).geom := by
    unfold uncounted
    rw [geom, geom', Part.modFace_self]
    rfl
  have counts (d : DoorIx) : ((uncounted f c p).face f).doors[d].counts = (p.face f).doors[d].counts :=
    (congrArg Door.counts (uncounted_stance f c p d) :)
  unfold queueCounts; simp only
  unfold FaceRec.configuredDoors
  rw [dwell, FaceRec.configured_of_geom set]
  simp only [counts]

/-- The entry to EMPTY is told of (R26, R123). -/
theorem enterEmpty_told {before : FaceRec} {f : Face} {p : Part} (entered : (p.face f).berth.state ≠ .empty)
    (geom : (p.face f).geom = before.geom) (state : (p.face f).berth.state = before.berth.state)
    (dwell : (p.face f).berth.dwell = before.berth.dwell)
    (counts : ∀ d : DoorIx, (p.face f).doors[d].counts = before.doors[d].counts) (c : BerthCause) :
    before.EmptyingTold (settle (enterEmpty f c p)).told f c := by
  have later {x : Report} (h : x.doorKey = none) {q : Part} (k : q.told x) :
      (settle (sequencerEmpty f (endGapCheck f .empty (q.modFace f clearDwell)))).told x := by
    have C := told_closed (Report.sameDoor_other h)
    exact settle_told h (sequencerEmpty_closed C f trivial (endGapCheck_closed C f trivial (clearDwell_closed C f trivial k) _))
  have C {x : Report} (h : x.doorKey = none) := told_closed (Report.sameDoor_other h)
  have eq : enterEmpty f c p = sequencerEmpty f (endGapCheck f .empty ((queueCounts f (uncounted f c p)).modFace f clearDwell)) :=
    rfl
  rw [eq]
  constructor
  · refine later rfl ?_
    rw [uncounted_counts]
    have told := queueReport_told (.counts f (p.face f).berth.dwell
      ((p.face f).configuredDoors.map fun d => (d, (p.face f).doors[d].counts))) (uncounted f c p)
    unfold FaceRec.configuredDoors at told ⊢
    rw [← dwell, ← FaceRec.configured_of_geom geom]
    simpa only [counts] using told
  · have entry := enterBerth_told (f := f) (new := .empty) (p := p.modFace f fun r => r.modBerth Berth.forgotten)
      (by rw [Part.modFace_self]; exact entered.symm) c
    rw [Part.modFace_standing_eq, Function.update_self, Part.modFace_self] at entry
    have told := later rfl (queueCounts_closed (C rfl) f (clearAlign_closed (C rfl) f trivial entry .empty))
    exact ⟨_, told, state, rfl, rfl, dwell, rfl, rfl⟩

end Sys2Proof.Machine

namespace Sys2Proof.Machine

/-! ### What a computation reads (R41) -/

theorem alignRecord_congr {p q : Part} {f : Face} (profiles : q.profiles = p.profiles) (geom : (q.face f).geom = (p.face f).geom)
    (params : (q.face f).params = (p.face f).params) (align : (q.face f).align = (p.face f).align)
    (berth : (q.face f).berth.core = (p.face f).berth.core) (c : AlignCause) : alignRecord q f c = alignRecord p f c := by
  have plan : statusPlan (q.face f).berth = statusPlan (p.face f).berth := (congrArg statusPlan berth :)
  have check : (q.face f).berth.axleCheck = (p.face f).berth.axleCheck := (congrArg Berth.axleCheck berth :)
  have pattern : (q.face f).berth.pattern = (p.face f).berth.pattern := (congrArg Berth.pattern berth :)
  have dwell : (q.face f).berth.dwell = (p.face f).berth.dwell := (congrArg Berth.dwell berth :)
  have ann : (q.face f).berth.ann = (p.face f).berth.ann := (congrArg Berth.ann berth :)
  have place : placeTrain q = placeTrain p := by
    funext us n
    unfold placeTrain Part.profileOf
    rw [profiles]
  unfold alignRecord
  simp only [geom, params, align, plan, check, pattern, dwell, ann, place]

/-! ### The fire opening test (R144) -/

/-- The face has no door to open for a fire: it is not in FIRE, or no door of it is in the fire open set. -/
def FaceRec.opensNothing (r : FaceRec) : Prop := r.inFire = false ∨ ∀ d, r.inFireSet d = false

theorem fireOpenTest_nothing {f : Face} {p : Part} (h : (p.face f).opensNothing) (ds : List DoorIx) :
    fireOpenTest f ds p = p := by
  unfold fireOpenTest; simp only
  rcases h with away | none
  · rw [if_pos (.inl away)]
  · rw [if_pos (.inr (by simp [none]))]

theorem computeAlign_eq {f : Face} {p : Part} {c : AlignCause}
    (h : ((writeAlign f (alignRecord p f c) p).face f).opensNothing) :
    computeAlign f c p = (queueReport (.align f (alignRecord p f c)) (writeAlign f (alignRecord p f c) p)).modFace f noticeTest := by
  unfold computeAlign; simp only
  rw [fireOpenTest_nothing (by rwa [queueReport_face])]

/-! ### The automatic-opening test (R55) -/

theorem autoTest_iff (r : FaceRec) : autoTest r = true ↔ r.OpensItself r.align := by
  unfold autoTest FaceRec.OpensItself
  cases r.berth.ann <;> simp [and_assoc]

end Sys2Proof.Machine

namespace Sys2Proof.Machine

/-! ### A face with no notice waiting (R55) -/

section
variable {f : Face} {p : Part} (h : (p.face f).notice = false)
include h

omit h in
theorem refreshCues_notice (r : FaceRec) : (refreshCues r).notice = r.notice :=
  refreshCues_view FaceRec.notice (fun _ _ _ => rfl) (fun _ _ _ => rfl) r

theorem modFace_noticeless {g : FaceRec → FaceRec} (k : ∀ r, (g r).notice = r.notice) : ((p.modFace f g).face f).notice = false :=
  (p.modFace_keeps FaceRec.notice f f g k).trans h

theorem gapTo_noticeless (s : GapState) (c : GapCause) (d : Option DoorIx) : ((gapTo f s c d p).face f).notice = false :=
  (gapTo_view FaceRec.notice (fun _ _ => rfl) (fun _ _ => rfl) (fun _ _ => rfl) ..).trans h

omit h in
theorem grantHandover_noticeless : ((grantHandover f p).face f).notice = false := by
  unfold grantHandover queueModeReport; simp only
  rw [queueReport_face, Part.modFace_self]
  rfl

theorem takeLocalRequest_noticeless : ((takeLocalRequest f p).face f).notice = false := by
  unfold takeLocalRequest queueModeReport; simp only
  repeat' split
  · exact grantHandover_noticeless
  · exact h
  · rw [queueReport_face]; exact modFace_noticeless h fun _ => rfl
  · exact h

theorem wakeFace_noticeless : ((wakeFace f p).face f).notice = false := by
  unfold wakeFace enterAuto queueModeReport; simp only
  split
  · refine takeLocalRequest_noticeless ?_
    rw [queueReport_face, Part.modFace_modFace]
    exact modFace_noticeless h fun _ => rfl
  · exact h

theorem enterBerth_noticeless (new : BerthState) (c : BerthCause) : ((enterBerth f new c p).face f).notice = false := by
  have entered {q : Part} (k : (q.face f).notice = false) : ((q.modFace f fun r =>
      refreshCues (r.modBerth fun b => { b with state := new, settle := settleAtEntry r new })).face f).notice = false :=
    modFace_noticeless k fun r => refreshCues_notice _
  have checked {q : Part} (k : (q.face f).notice = false) (prev : BerthState) :
      ((berthGap f prev new q).face f).notice = false := by
    unfold berthGap gapPending; simp only
    repeat' split
    all_goals first
      | exact gapTo_noticeless k ..
      | exact k
  unfold enterBerth; simp only
  refine checked ?_ _
  split
  · exact entered h
  · rw [queueReport_face]; exact entered (wakeFace_noticeless h)

theorem endOp_noticeless (c : EndCause) (g : GapOutcome) : ((endOp f c g p).face f).notice = false := by
  have ended (op : Op) : (((queueReport (.opDone f op c g) p).modFace f fun r => { r with op := none }).face f).notice = false :=
    modFace_noticeless (by rwa [queueReport_face]) fun _ => rfl
  unfold endOp closeEndNotice; simp only
  repeat' split
  · exact h
  · exact ended _
  · exact enterBerth_noticeless (ended _) ..
  · exact ended _

theorem concludeGap_noticeless (g : GapOutcome) : ((concludeGap f g p).face f).notice = false := by
  unfold concludeGap
  repeat' split
  · exact h
  · refine endOp_noticeless ?_ ..
    exact modFace_noticeless h fun _ => rfl
  · exact h

theorem seqCheck_noticeless : ((seqCheck f p).face f).notice = false := by
  have phased (op : Op) : ((p.modFace f fun r => { r with op := some op }).face f).notice = false :=
    modFace_noticeless h fun _ => rfl
  unfold seqCheck enterGapWait; simp only
  repeat' split
  all_goals first
    | exact h
    | exact endOp_noticeless h ..
    | exact concludeGap_noticeless (gapTo_noticeless (phased _) ..) _
    | exact gapTo_noticeless (phased _) ..
    | exact concludeGap_noticeless (phased _) _
    | exact phased _

theorem gapUpdate_noticeless : ((gapUpdate f p).face f).notice = false := by
  unfold gapUpdate; simp only
  refine modFace_noticeless ?_ fun _ => rfl
  split
  · exact gapTo_noticeless h ..
  · exact h

theorem handoverCheck_noticeless : ((handoverCheck f p).face f).notice = false := by
  unfold handoverCheck; simp only
  split
  · exact grantHandover_noticeless
  · exact h

/-- The end of an event hands no notice on. -/
theorem settle_noticeless : ((settle p).face f).notice = false :=
  settle_face (·.notice = false) f (fun _ k => handoverCheck_noticeless (gapUpdate_noticeless (seqCheck_noticeless k)))
    (fun x k => (linkPump_view FaceRec.notice (fun _ _ => rfl) (fun _ _ _ => rfl) (fun _ _ _ _ => rfl) x).trans k) h

end

/-! ### FIRE stands through the opening it makes (R141, R144) -/

theorem FaceRec.mode_of_duties {r q : FaceRec} (h : q.duties = r.duties) :
    q.mode.mode = r.mode.mode ∧ q.mode.wakeRound = r.mode.wakeRound := by
  simp only [FaceRec.duties, Prod.mk.injEq] at h
  obtain ⟨_, _, _, _, ⟨mode, _, round⟩, _⟩ := h
  exact ⟨mode, round⟩

theorem fireOrders_mode (f : Face) (ds : List DoorIx) (p : Part) :
    ((fireOrders f ds p).face f).mode.mode = (p.face f).mode.mode := by
  have hI := frame_frameInv f (p.face f).frame
  have order (d : DoorIx) (q : Part) (k : (q.face f).frame = (p.face f).frame) :
      ((openOrder f d .fire .order q).face f).frame = (p.face f).frame := by
    unfold openOrder; simp only
    split
    · exact hI.arb _ _ (changeDoor_frame hI trivial k d _ fun _ => rfl)
    · exact k
  have kept : ((fireOrders f ds p).face f).frame = (p.face f).frame :=
    grantEvent_frame hI (fun _ => trivial) (forDoors_frame (fun d q k => order d q k) ds rfl)
  exact (congrArg FaceFrame.mode kept :)

theorem fireOpenTest_mode {f : Face} {p : Part} (h : (p.face f).mode.mode = .fire) (ds : List DoorIx) :
    ((fireOpenTest f ds p).face f).mode.mode = .fire := by
  have noticed {q : Part} (k : (q.face f).mode.mode = .fire) : ((berthOpenNotice f q).face f).mode.mode = .fire := by
    have served : ((q.modFace f fun r => r.modBerth fun b => { b with served := true }).face f).mode.mode = .fire := by
      rw [Part.modFace_self]; exact k
    unfold berthOpenNotice; simp only
    split
    case h_1 | h_2 =>
      have awake : ((q.modFace f fun r => r.modBerth fun b => { b with served := true }).face f).mode.mode ≠ .standby := by
        rw [served]; decide
      exact (FaceRec.mode_of_duties
        (enterBerth_duties awake (settlesGap_of (new := .serving) (by decide) (by decide)) _ f)).1.trans served
    all_goals exact served
  unfold fireOpenTest; simp only
  repeat' split
  · exact h
  · exact noticed (by rw [fireOrders_mode, Part.modFace_self]; exact h)
  · rw [fireOrders_mode, Part.modFace_self]; exact h
  · exact h

/-! ### The computation at the end of its event (R41, R55) -/

section
variable {p : Part} (f : Face) (c : AlignCause)

theorem written_align (a : AlignRec) : ((writeAlign f a p).face f).standing =
    (p.face f).standing.write (p.face f).configured a :=
  (congrFun (writeAlign_standing f a p) f).trans (Function.update_self ..)

/-- In the record that a computation has written the automatic-opening test reads what the face stood in (R55). -/
theorem autoTest_written (a : AlignRec) : autoTest ((writeAlign f a p).face f) = true ↔ (p.face f).OpensItself a := by
  have standing := written_align f a (p := p)
  have align : ((writeAlign f a p).face f).align = a := (congrArg Standing.align standing :)
  have berth : ((writeAlign f a p).face f).berth = (p.face f).berth := (congrArg Standing.berth standing :)
  have mode := (FaceRec.mode_of_duties (writeAlign_duties f f a p)).1
  rw [autoTest_iff]
  unfold FaceRec.OpensItself
  rw [align, berth, mode]

theorem noticeTest_notice (r : FaceRec) : (noticeTest r).notice = true ↔ autoTest r = true ∧ r.mode.wakeRound = false := by
  unfold noticeTest openingTest
  split
  · next held => simp only [Bool.and_eq_true] at held; simp [held.2]
  · next free => cases e : autoTest r <;> simp_all

theorem noticeTest_held {r : FaceRec} (h : autoTest r = true) (k : r.mode.wakeRound = true) :
    (noticeTest r).mode.heldNotice = true := by
  unfold noticeTest
  rw [if_pos (by rw [h, k]; rfl)]
  rfl

/-- The verdicts of a standing in which a record has been written (R41). -/
theorem verdicts_of_write {x r : FaceRec} {a : AlignRec} (h : x.standing.doors = (r.standing.write r.configured a).doors)
    (d : DoorIx) (set : r.configured d = true) :
    x.doors[d].verdict = ((a.doors[d.val]?).getD .unknown).verdict ∧ x.doors[d].ov = ((a.doors[d.val]?).getD .unknown).ov := by
  have judged := congrFun h d
  simp only [Standing.write, set, if_true] at judged
  exact ⟨congrArg Prod.fst judged, congrArg Prod.snd judged⟩

section
variable {f c} (calm : ((writeAlign f (alignRecord p f c) p).face f).opensNothing)
include calm

theorem computeAlign_standing : (computeAlign f c p).standing =
    Function.update p.standing f ((p.face f).standing.write (p.face f).configured (alignRecord p f c)) := by
  rw [computeAlign_eq calm, Part.modFace_standing _ _ _ (noticeTest_standing _), queueReport_standing, writeAlign_standing]
  rfl

theorem computeAlign_duties (f' : Face) : ((computeAlign f c p).face f').duties = (p.face f').duties := by
  rw [computeAlign_eq calm, Part.modFace_keeps FaceRec.duties _ f f' _ noticeTest_duties, queueReport_face,
    writeAlign_duties]

/-- A computation after which no opening follows at once. -/
theorem computed_calm (even : ∀ f, (p.face f).Even) : Computed p f c ((settle (computeAlign f c p)).face f) ∧
    ((settle (computeAlign f c p)).face f).standing = (p.face f).standing.write (p.face f).configured (alignRecord p f c) := by
  have quiet : ((computeAlign f c p).face f).quiet :=
    ((even f).of_duties (computeAlign_duties calm f)).op
  have standing : ((settle (computeAlign f c p)).face f).standing = _ :=
    (settle_rests quiet).standing.trans ((congrFun (computeAlign_standing calm) f).trans (Function.update_self ..))
  have face : (settle (computeAlign f c p)).face f = linkPump (noticeTest ((writeAlign f (alignRecord p f c) p).face f)) := by
    have here : (computeAlign f c p).face f = noticeTest ((writeAlign f (alignRecord p f c) p).face f) := by
      rw [computeAlign_eq calm, Part.modFace_self, queueReport_face]
    rw [settle_even fun f' => (even f').of_duties (computeAlign_duties calm f'), ← here]
    cases f <;> rfl
  have notice : ((settle (computeAlign f c p)).face f).notice =
      (noticeTest ((writeAlign f (alignRecord p f c) p).face f)).notice := by
    rw [face]
    exact linkPump_view FaceRec.notice (fun _ _ => rfl) (fun _ _ _ => rfl) (fun _ _ _ _ => rfl) _
  refine ⟨⟨(congrArg Standing.align standing :), verdicts_of_write (congrArg Standing.doors standing), ?_, fun opens round => ?_⟩,
    standing⟩
  · rw [notice, noticeTest_notice, autoTest_written, (FaceRec.mode_of_duties (writeAlign_duties f f _ p)).2]
  · rw [face, linkPump_mode]
    exact noticeTest_held ((autoTest_written f _).mpr opens) ((FaceRec.mode_of_duties (writeAlign_duties f f _ p)).2.trans round)

end

/-- A computation at a face in FIRE, whose opening may follow at once (R144). -/
theorem computed_fire (fire : (p.face f).mode.mode = .fire) : Computed p f c ((settle (computeAlign f c p)).face f) := by
  have closed (a : AlignRec) : ¬ (p.face f).OpensItself a := fun ⟨_, _, _, _, _, auto⟩ => by rw [fire] at auto; cases auto
  have outline := congrFun (show outlines (settle (computeAlign f c p)).standing =
    outlines (writeAlign f (alignRecord p f c) p).standing by simp [computeAlign]) f
  rw [writeAlign_standing, outlines, outlines, Function.update_self] at outline
  refine ⟨(congrArg Standing.align outline :), verdicts_of_write (congrArg Standing.doors outline :), ?_,
    fun opens => absurd opens (closed _)⟩
  refine iff_of_false ?_ fun opens => closed _ opens.1
  rw [Bool.not_eq_true]
  refine settle_noticeless ?_
  unfold computeAlign; simp only
  rw [Part.modFace_self, ← Bool.not_eq_true, noticeTest_notice, autoTest_iff]
  rintro ⟨⟨_, _, _, _, _, auto⟩, _⟩
  rw [fireOpenTest_mode] at auto
  · cases auto
  · rw [queueReport_face, (FaceRec.mode_of_duties (writeAlign_duties f f _ p)).1, fire]

theorem computed {f : Face} (even : ∀ f, (p.face f).Even) : Computed p f c ((settle (computeAlign f c p)).face f) := by
  by_cases fire : (p.face f).mode.mode = .fire
  · exact computed_fire f c fire
  · refine (computed_calm (.inl ?_) even).1
    unfold FaceRec.inFire
    rw [(FaceRec.mode_of_duties (writeAlign_duties f f _ p)).1]
    exact decide_eq_false fire

end

end Sys2Proof.Machine

namespace Sys2Proof.Machine

/-! ### Events that change the berth record alone -/

/-- Nothing that is due at the end of an event reads the berth record. -/
theorem FaceRec.Settled.withBerth {r : FaceRec} (h : r.Settled) (b : Berth) : ({ r with berth := b } : FaceRec).Settled :=
  ⟨h.op, h.failed, h.timer, h.handover, h.line⟩

section
variable {s : State} (h : s.Settled) {f : Face} (here : s.part.present f = true)
include h here

/-- An event that does nothing to the part is none. -/
theorem faceEvent_still {g : Part → Part} (e : g s.part = s.part) : faceEvent f g s = s := by
  unfold faceEvent
  refine event_settled h _ s.part ?_ rfl
  simp only [here, if_true, e]
  exact settle_settled h.faces

/-- An event that changes the berth record of its face alone. -/
theorem faceEvent_berth {g : Part → Part} {b : Berth → Berth} (e : g s.part = s.part.modFace f fun r => r.modBerth b) :
    faceEvent f g s = { s with part := s.part.modFace f fun r => r.modBerth b } := by
  have settled := (h.faces f).withBerth (b (s.part.face f).berth)
  rw [faceEvent_settled h here g (fun r => r.modBerth b) e settled.even]
  exact congrArg (fun p => ({ s with part := p } : State)) (Part.modFace_congr _ _ _ _ (linkPump_settled settled))

end

theorem FaceRec.Even.withBerth {r : FaceRec} (h : r.Even) (b : Berth) : ({ r with berth := b } : FaceRec).Even :=
  ⟨h.op, h.failed, h.timer, h.handover⟩

/-! ### A change of the part that a computation looks through -/

theorem Computed.congr {p q : Part} {f : Face} {c : AlignCause} {x : FaceRec} (h : Computed q f c x)
    (profiles : q.profiles = p.profiles) (geom : (q.face f).geom = (p.face f).geom)
    (params : (q.face f).params = (p.face f).params) (align : (q.face f).align = (p.face f).align)
    (berth : (q.face f).berth.core = (p.face f).berth.core)
    (mode : (q.face f).mode.mode = (p.face f).mode.mode ∧ (q.face f).mode.wakeRound = (p.face f).mode.wakeRound) :
    Computed p f c x := by
  have record := alignRecord_congr profiles geom params align berth c
  have opens (a : AlignRec) : (q.face f).OpensItself a ↔ (p.face f).OpensItself a := by
    have served : (q.face f).berth.served = (p.face f).berth.served := (congrArg Berth.served berth :)
    have ann : (q.face f).berth.ann = (p.face f).berth.ann := (congrArg Berth.ann berth :)
    unfold FaceRec.OpensItself
    rw [served, ann, mode.1]
  obtain ⟨written, verdicts, notice, held⟩ := h
  rw [record] at written notice held
  simp only [record] at verdicts
  rw [FaceRec.configured_of_geom geom] at verdicts
  exact ⟨written, verdicts, by rw [notice, opens, mode.2], fun k round => held ((opens _).mpr k) (mode.2.trans round)⟩

/-! ### The entry to STOPPED (R28) -/

/-- The part at an entry to STOPPED, before the record is computed. -/
def stopping (f : Face) (c : BerthCause) (p : Part) : Part :=
  (enterBerth f .stopped c (p.modFace f fun r => r.modBerth fun b => { b with dwell := b.dwell + 1 })).modFace f fun r =>
    r.modGap fun g => { g with counting := true }

theorem enterStopped_eq (f : Face) (c : BerthCause) (p : Part) : enterStopped f c p = computeAlign f .stopped (stopping f c p) :=
  rfl

/-- The berth record of a train that has come to a stand (R28). -/
def Berth.stood (b : Berth) : Berth := { b with state := .stopped, settle := none, dwell := b.dwell + 1 }

section
variable (f : Face) (c : BerthCause) (p : Part)

theorem stopping_standing : ((stopping f c p).face f).standing =
    { (p.face f).standing with berth := (p.face f).berth.stood, gap := { (p.face f).gap.base with counting := true } } := by
  have entered : ((enterBerth f .stopped c (p.modFace f fun r => r.modBerth fun b => { b with dwell := b.dwell + 1 })).face f).standing =
      _ := (congrFun (enterBerth_standing ..) f).trans (Function.update_self ..)
  rw [Part.modFace_standing_eq, Function.update_self] at entered
  unfold stopping
  rw [Part.modFace_self]
  exact congrArg (fun t : Standing => { t with gap := { t.gap with counting := true } }) entered

theorem stopping_profiles : (stopping f c p).profiles = p.profiles := by
  have kept := enterBerth_inv (kept_stillInv (p.modFace f fun r => r.modBerth fun b => { b with dwell := b.dwell + 1 }))
    f trivial .stopped c ⟨fun _ => rfl, rfl⟩
  unfold stopping
  rw [Part.modFace_profiles]
  exact (congrArg (·.2.1) kept.2 :).trans (p.modFace_profiles ..)

theorem stopping_work : ((stopping f c p).face f).work = (p.face f).work := by
  unfold stopping
  refine Eq.trans (Part.modFace_work f f _ _ fun _ => rfl) ?_
  rw [enterBerth_work]
  exact Part.modFace_work f f _ _ fun _ => rfl

theorem stopping_duties (awake : (p.face f).mode.mode ≠ .standby) (f' : Face) :
    ((stopping f c p).face f').duties = (p.face f').duties := by
  have on : ((p.modFace f fun r => r.modBerth fun b => { b with dwell := b.dwell + 1 }).face f).mode.mode ≠ .standby := by
    rw [Part.modFace_self]; exact awake
  unfold stopping
  refine Eq.trans (Part.modFace_keeps FaceRec.duties _ f f' _ fun _ => rfl) ?_
  rw [enterBerth_duties on (settlesGap_of (new := .stopped) (by decide) (by decide))]
  exact Part.modFace_keeps FaceRec.duties _ f f' _ fun _ => rfl

/-- What the record is computed from at a stop (R28, R41). -/
theorem alignRecord_stopping (cause : AlignCause) : alignRecord (stopping f c p) f cause =
    alignRecord (p.modFace f fun r => r.modBerth fun b => { b with dwell := b.dwell + 1 }) f cause := by
  have standing := stopping_standing f c p
  refine alignRecord_congr ((stopping_profiles f c p).trans (p.modFace_profiles ..).symm) ?_ ?_ ?_ ?_ _
  all_goals rw [Part.modFace_self]
  · exact (congrArg Standing.geom standing :)
  · exact (congrArg Standing.params standing :)
  · exact (congrArg Standing.align standing :)
  · exact (congrArg (fun t => t.berth.core) standing :)

end

section
variable {f : Face} {p : Part} (c : BerthCause)

/-- A stop in any mode: the dwell, the counting and the record (R28, R41, R123). -/
theorem enterStopped_outline : ((settle (enterStopped f c p)).face f).berth.dwell = (p.face f).berth.dwell + 1 ∧
    ((settle (enterStopped f c p)).face f).gap.counting = true ∧
    ((settle (enterStopped f c p)).face f).align =
      alignRecord (p.modFace f fun r => r.modBerth fun b => { b with dwell := b.dwell + 1 }) f .stopped := by
  have outline := congrFun (show outlines (settle (enterStopped f c p)).standing =
    outlines (writeAlign f (alignRecord (stopping f c p) f .stopped) (stopping f c p)).standing by
      rw [enterStopped_eq]; simp [computeAlign]) f
  rw [writeAlign_standing, outlines, outlines, Function.update_self, alignRecord_stopping] at outline
  have before : ((stopping f c p).standing f) = _ := stopping_standing f c p
  rw [before] at outline
  exact ⟨(congrArg (fun t => t.berth.dwell) outline :), (congrArg (fun t => t.gap.counting) outline :),
    (congrArg Standing.align outline :)⟩

/-- A stop of a face that is not in FIRE, whose operation is quiet (R25). -/
theorem enterStopped_berth (quiet : (p.face f).quiet) (away : (p.face f).mode.mode ≠ .fire) :
    ((settle (enterStopped f c p)).face f).berth = (p.face f).berth.stood := by
  have C := notFire_closed f
  have still : ((stopping f c p).face f).mode.mode ≠ .fire :=
    rec_closed C f trivial (enterBerth_inv C.stillInv f trivial .stopped c
      (modBerth_closed C f trivial (p := p) away fun b => { b with dwell := b.dwell + 1 })) _ fun _ => ⟨rfl, rfl, rfl⟩
  have calm : ((writeAlign f (alignRecord (stopping f c p) f .stopped) (stopping f c p)).face f).opensNothing := by
    refine .inl ?_
    unfold FaceRec.inFire
    rw [(FaceRec.mode_of_duties (writeAlign_duties ..)).1]
    exact decide_eq_false still
  have work : ((enterStopped f c p).face f).work = (p.face f).work :=
    (FaceRec.work_of_duties (computeAlign_duties calm f)).trans (stopping_work f c p)
  have ends := settle_rests (f := f) (p := enterStopped f c p) (by
    unfold FaceRec.quiet
    rw [show ((enterStopped f c p).face f).op = (p.face f).op from congrArg Prod.fst work]
    exact quiet)
  have standing : ((settle (enterStopped f c p)).face f).standing = _ :=
    ends.standing.trans ((congrFun (computeAlign_standing calm) f).trans (Function.update_self ..))
  exact (congrArg Standing.berth standing :).trans (congrArg Standing.berth (stopping_standing f c p) :)

/-- A stop of an even face outside STANDBY computes the record of the train as it stands (R41, R55). -/
theorem enterStopped_computed (even : ∀ f, (p.face f).Even) (awake : (p.face f).mode.mode ≠ .standby) :
    Computed (p.modFace f fun r => r.modBerth fun b => { b with dwell := b.dwell + 1 }) f .stopped
      ((settle (enterStopped f c p)).face f) := by
  have duties := stopping_duties f c p awake
  have standing := stopping_standing f c p
  have here := computed .stopped (p := stopping f c p) (f := f) fun f' => (even f').of_duties (duties f')
  refine here.congr ((stopping_profiles f c p).trans (p.modFace_profiles ..).symm) ?_ ?_ ?_ ?_ ?_
  all_goals rw [Part.modFace_self]
  · exact (congrArg Standing.geom standing :)
  · exact (congrArg Standing.params standing :)
  · exact (congrArg Standing.align standing :)
  · exact (congrArg (fun t => t.berth.core) standing :)
  · exact FaceRec.mode_of_duties (duties f)

/-- A stop is told of (R26, R50). -/
theorem enterStopped_told (entered : (p.face f).berth.state ≠ .stopped) :
    (settle (enterStopped f c p)).told (.align f ((settle (enterStopped f c p)).face f).align) ∧
    (settle (enterStopped f c p)).told
      (.berth f (berthReport (p.face f).berth.state c (p.face f).berth.stood)) := by
  constructor
  · obtain ⟨_, _, record⟩ := enterStopped_outline c (f := f) (p := p)
    rw [record, ← alignRecord_stopping f c p]
    have C := told_closed (x := .align f (alignRecord (stopping f c p) f .stopped)) (Report.sameDoor_other rfl)
    have told := queueReport_told (.align f (alignRecord (stopping f c p) f .stopped))
      (writeAlign f (alignRecord (stopping f c p) f .stopped) (stopping f c p))
    exact settle_told rfl (C.mod f _ _ trivial (noticeTest_mild _) (fireOpenTest_closed C f trivial told allDoors))
  · have told := enterBerth_told (f := f) (new := .stopped)
      (p := p.modFace f fun r => r.modBerth fun b => { b with dwell := b.dwell + 1 })
      (by rw [Part.modFace_self]; exact entered.symm) c
    rw [Part.modFace_standing_eq, Function.update_self, Part.modFace_self] at told
    have C := told_closed (x := .berth f (berthReport (p.face f).berth.state c (p.face f).berth.stood))
      (Report.sameDoor_other rfl)
    have counted := rec_closed C f trivial told (fun r => r.modGap fun g => { g with counting := true })
      fun _ => ⟨rfl, rfl, rfl⟩
    exact settle_told rfl (computeAlign_closed C f trivial counted .stopped)

end

end Sys2Proof.Machine

namespace Sys2Proof.Machine

/-! ### The settle timer's expiry (R28, R32, R35) -/

/-- A berth record whose settle timer has stopped. -/
def Berth.untimed (b : Berth) : Berth := { b with settle := none }

section
variable {f : Face} {p : Part}

theorem settleExpiry_none (h : (p.face f).berth.settle = none) : settleExpiry f p = p := by
  unfold settleExpiry; simp [h]

variable (runs : (p.face f).berth.settle ≠ none)
include runs

theorem settleExpiry_running : settleExpiry f p =
    let p := p.modFace f fun r => r.modBerth Berth.untimed
    match (p.face f).berth.state with
    | .arriving => enterStopped f .settle p
    | .rolling => if (p.face f).berth.vacant then enterEmpty f .settle p else enterStopped f .settle p
    | .unreckoned => settleUnreckoned f p
    | .empty | .announced | .stopped | .serving | .cleared | .departing => p := by
  unfold settleExpiry
  rw [if_pos (Option.isSome_iff_ne_none.mpr runs)]
  rfl

theorem settleExpiry_arriving (h : (p.face f).berth.state = .arriving) :
    settleExpiry f p = enterStopped f .settle (p.modFace f fun r => r.modBerth Berth.untimed) := by
  have state : ((p.modFace f fun r => r.modBerth Berth.untimed).face f).berth.state = .arriving := by
    rw [Part.modFace_self]; exact h
  rw [settleExpiry_running runs]; simp only [state]

theorem settleExpiry_rolling (h : (p.face f).berth.state = .rolling) :
    settleExpiry f p =
      if (p.face f).berth.vacant then enterEmpty f .settle (p.modFace f fun r => r.modBerth Berth.untimed)
      else enterStopped f .settle (p.modFace f fun r => r.modBerth Berth.untimed) := by
  have state : ((p.modFace f fun r => r.modBerth Berth.untimed).face f).berth.state = .rolling := by
    rw [Part.modFace_self]; exact h
  rw [settleExpiry_running runs]; simp only [state]
  rw [Part.modFace_self]
  rfl

theorem settleExpiry_unreckoned (h : (p.face f).berth.state = .unreckoned) :
    settleExpiry f p = settleUnreckoned f (p.modFace f fun r => r.modBerth Berth.untimed) := by
  have state : ((p.modFace f fun r => r.modBerth Berth.untimed).face f).berth.state = .unreckoned := by
    rw [Part.modFace_self]; exact h
  rw [settleExpiry_running runs]; simp only [state]

end

theorem Berth.decodersIdle_iff (b : Berth) : b.decodersIdle = true ↔ b.entry.dec.pos = .none ∧ b.exit.dec.pos = .none := by
  simp [Berth.decodersIdle]

section
variable {f : Face} {p : Part} (runs : (p.face f).berth.settle ≠ none) (found : (p.face f).berth.state = .unreckoned)
include runs found

/-- The expiry in UNRECKONED with nothing seen at the face (R35). -/
theorem settleExpiry_gone
    (h : (p.face f).berth.allClear = true ∧ (p.face f).berth.entry.dec.pos = .none ∧ (p.face f).berth.exit.dec.pos = .none) :
    settleExpiry f p =
      let q := p.modFace f fun r => r.modBerth fun b => { b with settle := none, axles := 0, unchecked := false }
      if (p.face f).berth.ann.isSome then enterBerth f .announced .settle q else enterEmpty f .settle q := by
  rw [settleExpiry_unreckoned runs found]
  unfold settleUnreckoned; simp only
  rw [Part.modFace_self, if_pos (by
    rw [Bool.and_eq_true]; exact ⟨h.1, (Berth.decodersIdle_iff _).mpr h.2⟩), Part.modFace_modFace]
  rfl

/-- The expiry in UNRECKONED with something still at the face (R35). -/
theorem settleExpiry_held
    (h : ¬ ((p.face f).berth.allClear = true ∧ (p.face f).berth.entry.dec.pos = .none ∧ (p.face f).berth.exit.dec.pos = .none)) :
    settleExpiry f p =
      if (p.face f).berth.ann.isSome then
        enterStopped f .settle (p.modFace f fun r => r.modBerth fun b => { b with settle := none, unchecked := true })
      else p.modFace f fun r => r.modBerth Berth.untimed := by
  rw [settleExpiry_unreckoned runs found]
  unfold settleUnreckoned; simp only
  rw [Part.modFace_self, if_neg (by
    rw [Bool.and_eq_true]; exact fun k => h ⟨k.1, (Berth.decodersIdle_iff _).mp k.2⟩), Part.modFace_modFace]
  rfl

end

/-! ### Stops and entries to EMPTY of a settled face -/

section
variable {s : State} (settled : s.Settled) {f : Face} (here : s.part.present f = true) {g : Part → Part} {β : Berth → Berth}
include settled

theorem withBerth_even (f f' : Face) : ((s.part.modFace f fun r => r.modBerth β).face f').Even := by
  rw [Part.modFace_face]
  split
  · next e => subst e; exact (settled.faces _).even.withBerth _
  · exact (settled.faces f').even

include here

/-- A stop of a face outside STANDBY of which the event has changed the berth record to `b`. -/
theorem stops_of_enterStopped (awake : (s.part.face f).mode.mode ≠ .standby)
    (e : g s.part = enterStopped f .settle (s.part.modFace f fun r => r.modBerth β))
    (state : (β (s.part.face f).berth).state = (s.part.face f).berth.state) (moved : (s.part.face f).berth.state ≠ .stopped)
    {b : Berth} (stood : { b with state := .stopped, settle := none } = (β (s.part.face f).berth).stood) :
    Computed (s.part.modFace f fun r => { r with berth := b }) f .stopped ((faceEvent f g s).part.face f) ∧
    ((faceEvent f g s).part.face f).gap.counting = true ∧
    ((s.part.face f).mode.mode ≠ .fire →
      ((faceEvent f g s).part.face f).berth = { b with state := .stopped, settle := none }) ∧
    ((faceEvent f g s).lossy ∨ ((faceEvent f g s).tells (.align f ((faceEvent f g s).part.face f).align) ∧
      ∃ x, (faceEvent f g s).tells (.berth f x) ∧ x.prev = (s.part.face f).berth.state ∧ x.next = .stopped ∧
        x.cause = .settle ∧ x.dwell = b.dwell ∧ x.axles = b.axles ∧ x.served = b.served ∧ x.pattern = b.pattern)) := by
  have face : (s.part.modFace f fun r => r.modBerth β).face f = (s.part.face f).modBerth β := Part.modFace_self ..
  have even := withBerth_even settled (β := β) f
  have mode : ((s.part.modFace f fun r => r.modBerth β).face f).mode = (s.part.face f).mode := by rw [face]; rfl
  have core : b.core = { β (s.part.face f).berth with dwell := (β (s.part.face f).berth).dwell + 1 }.core :=
    (congrArg Berth.core stood :)
  rw [faceEvent_eq settled here, e]
  simp only [transmit_face]
  refine ⟨?_, (enterStopped_outline _).2.1, fun away => ?_, ?_⟩
  · have run := enterStopped_computed (f := f) .settle even (by rwa [mode])
    refine run.congr (by simp only [Part.modFace_profiles]) ?_ ?_ ?_ ?_ ?_
    all_goals simp only [Part.modFace_self]
    · rfl
    · rfl
    · rfl
    · exact core.symm
    · exact ⟨rfl, rfl⟩
  · rw [stood, enterStopped_berth _ (even f).op (by rwa [mode]), face]
    rfl
  · have entered : ((s.part.modFace f fun r => r.modBerth β).face f).berth.state ≠ .stopped := by rw [face]; exact state ▸ moved
    obtain ⟨align, entry⟩ := enterStopped_told .settle entered
    rw [face] at entry
    refine (transmit_told (s := ⟨_, s.host, s.pending⟩) align entry).imp_right fun ⟨align, entry⟩ => ⟨align, _, entry, state, ?_⟩
    exact ⟨rfl, rfl, (congrArg Berth.dwell stood.symm :), (congrArg Berth.axles stood.symm :),
      (congrArg Berth.served stood.symm :), (congrArg Berth.pattern stood.symm :)⟩

/-- An entry of a face of which the event has changed the berth record. -/
theorem entered_of_enterBerth {new : BerthState} {c : BerthCause}
    (e : g s.part = enterBerth f new c (s.part.modFace f fun r => r.modBerth β)) :
    ((faceEvent f g s).part.face f).standing =
      Standing.enter new { (s.part.face f).standing with berth := β (s.part.face f).berth } := by
  rw [faceEvent_eq settled here, e, transmit_face]
  refine (settle_enterBerth new c (withBerth_even settled f f).op).trans ?_
  rw [Part.modFace_standing_eq, Function.update_self]
  rfl

/-- An entry to EMPTY of a face with no operation, of which the event has changed the berth record. -/
theorem empties_of_enterEmpty {c : BerthCause} (e : g s.part = enterEmpty f c (s.part.modFace f fun r => r.modBerth β))
    (idle : (s.part.face f).op = none) (state : (β (s.part.face f).berth).state = (s.part.face f).berth.state)
    (dwell : (β (s.part.face f).berth).dwell = (s.part.face f).berth.dwell)
    (occupied : (s.part.face f).berth.state ≠ .empty) :
    (s.part.face f).Emptied ((faceEvent f g s).part.face f) ∧
      ((faceEvent f g s).lossy ∨ (s.part.face f).EmptyingTold (faceEvent f g s).tells f c) := by
  have face : (s.part.modFace f fun r => r.modBerth β).face f = (s.part.face f).modBerth β := Part.modFace_self ..
  rw [faceEvent_eq settled here, e, transmit_face]
  refine ⟨emptied_of_enterEmpty (by rw [face]; exact idle) (by rw [face]; rfl) (by rw [face]; exact dwell)
    (by rw [face]; rfl) c, ?_⟩
  have told := enterEmpty_told (before := s.part.face f) (by rw [face]; exact state ▸ occupied) (by rw [face]; rfl)
    (by rw [face]; exact state) (by rw [face]; exact dwell) (fun d => by rw [face]; rfl) c
  obtain ⟨counts, x, berth, fields⟩ := told
  exact (transmit_told (s := ⟨_, s.host, s.pending⟩) counts berth).imp_right fun ⟨counts, berth⟩ => ⟨counts, x, berth, fields⟩

end

end Sys2Proof.Machine

namespace Sys2Proof.Proofs

open Sys2Proof.Machine

/-- Settles O30, state by state of the berth that the expiry finds. -/
theorem settleStops : Obligations.SettleStops := by
  intro f s settled here
  have run : exec (.settleTimerExpiry f) s = .next (faceEvent f (settleExpiry f) s) := rfl
  refine ⟨fun stopped => ?_, fun runs arriving => ?_, fun runs awake => ⟨fun arriving => ?_, fun rolling => ⟨?_, ?_⟩,
    fun found => ?_⟩⟩
  · rw [run, faceEvent_still settled here (settleExpiry_none stopped)]
  · have e := settleExpiry_arriving runs arriving
    have face : (s.part.modFace f fun r => r.modBerth Berth.untimed).face f = (s.part.face f).modBerth Berth.untimed :=
      Part.modFace_self ..
    obtain ⟨dwell, counting, record⟩ :=
      enterStopped_outline .settle (f := f) (p := s.part.modFace f fun r => r.modBerth Berth.untimed)
    rw [face] at dwell
    have stands (away : (s.part.face f).mode.mode ≠ .fire) : ((faceEvent f (settleExpiry f) s).part.face f).berth.state = .stopped ∧
        ((faceEvent f (settleExpiry f) s).part.face f).berth.settle = none := by
      have berth := enterStopped_berth .settle (withBerth_even settled (β := Berth.untimed) f f).op (by rwa [face])
      rw [faceEvent_eq settled here, e, transmit_face, berth]
      exact ⟨rfl, rfl⟩
    refine ⟨_, rfl, ?_, ?_, ?_, fun _ _ _ away => stands away, fun _ away => stands away⟩
    all_goals rw [faceEvent_eq settled here, e, transmit_face]
    · exact dwell
    · exact counting
    · rw [record]
      refine alignRecord_congr (by simp only [Part.modFace_profiles]) ?_ ?_ ?_ ?_ _
      all_goals simp only [Part.modFace_self]; rfl
  · exact ⟨_, rfl, stops_of_enterStopped settled here awake (settleExpiry_arriving runs arriving) rfl
      (by rw [arriving]; decide) rfl⟩
  · intro left
    have held : ¬ (s.part.face f).berth.vacant = true := by
      rw [Berth.vacant_iff]
      rintro ⟨axles, clear⟩
      exact left.elim (fun h => h axles) fun h => by rw [clear] at h; cases h
    have e := settleExpiry_rolling runs rolling
    rw [if_neg held] at e
    exact ⟨_, rfl, stops_of_enterStopped settled here awake e rfl (by rw [rolling]; decide) rfl⟩
  · intro axles clear idle
    have e := settleExpiry_rolling runs rolling
    rw [if_pos ((Berth.vacant_iff _).mpr ⟨axles, clear⟩)] at e
    exact ⟨_, rfl, empties_of_enterEmpty settled here e idle rfl rfl (by rw [rolling]; decide)⟩
  · refine ⟨fun gone none' idle => ?_, fun gone some' => ?_, fun stays some' => ?_, fun stays none' => ?_⟩
    · have e := settleExpiry_gone runs found gone
      simp only [none', Option.isSome_none, Bool.false_eq_true, if_false] at e
      exact ⟨_, rfl, empties_of_enterEmpty settled here e idle rfl rfl (by rw [found]; decide)⟩
    · have e := settleExpiry_gone runs found gone
      simp only [Option.isSome_iff_ne_none.mpr some', if_true] at e
      exact ⟨_, rfl, (congrArg Standing.berth (entered_of_enterBerth settled here e) :)⟩
    · have e := settleExpiry_held runs found stays
      simp only [Option.isSome_iff_ne_none.mpr some', if_true] at e
      exact ⟨_, rfl, stops_of_enterStopped settled here awake e rfl (by rw [found]; decide) rfl⟩
    · have e := settleExpiry_held runs found stays
      simp only [none', Option.isSome_none, Bool.false_eq_true, if_false] at e
      rw [run, faceEvent_berth settled here e]
      rfl

end Sys2Proof.Proofs

namespace Sys2Proof.Machine

/-! ### The first sample after a geometry load (R18, R34, R126) -/

theorem AxleUnit.prime_primed (s1 s2 : Bool) : (AxleUnit.prime s1 s2).Primed s1 s2 := by
  cases s1 <;> cases s2 <;> exact ⟨⟨rfl, rfl⟩, by decide, by decide⟩

/-- The detectors as a first sample primes them, by their places. -/
theorem primed_detectors (ds : List Filter) (occupied : Nat → Bool) :
    (ds.zipIdx.map fun x => Filter.prime (occupied x.2)) = (List.range ds.length).map fun i => Filter.taken (occupied i) := by
  refine List.ext_getElem (by simp) fun i _ _ => ?_
  simp [Filter.prime, Filter.taken]

/-- What the first sample makes of a face: EMPTY with every detector clear, and UNRECKONED otherwise (R34). -/
def FaceRec.placed (r : FaceRec) : Standing :=
  if r.berth.allClear then if r.berth.state = .empty then r.standing else r.emptiedStanding
  else r.standing.enter .unreckoned

section
variable {f : Face} {p : Part} (x : TrackSample)

theorem firstSample_awaited (awaited : (p.face f).berth.configuring = true) : firstSample f x p =
    let q := p.modFace f (primeTrack x)
    if (q.face f).berth.allClear then if (q.face f).berth.state = .empty then q else enterEmpty f .config q
    else enterBerth f .unreckoned .config q := by
  unfold firstSample
  rw [if_pos awaited]

/-- The face at the end of a first sample's event, with no operation in flight. -/
theorem settle_firstSample (awaited : (p.face f).berth.configuring = true) (idle : (p.face f).op = none) :
    ((settle (firstSample f x p)).face f).standing = (primeTrack x (p.face f)).placed := by
  have face : (p.modFace f (primeTrack x)).face f = primeTrack x (p.face f) := Part.modFace_self ..
  have noOp : ((p.modFace f (primeTrack x)).face f).op = none := by rw [face]; exact idle
  rw [firstSample_awaited x awaited]; simp only
  unfold FaceRec.placed
  rw [← face]
  split
  · split
    · exact (settle_rests (FaceRec.quiet_of_none noOp)).standing
    · exact settle_enterEmpty noOp .config
  · exact settle_enterBerth .unreckoned .config (FaceRec.quiet_of_none noOp)

end

/-- Wherever a first sample places the berth, its filters and decoders stand as primed. -/
theorem FaceRec.placed_kept (r : FaceRec) : r.placed.berth.configuring = r.berth.configuring ∧
    r.placed.berth.detectors = r.berth.detectors ∧ r.placed.berth.entry = r.berth.entry ∧ r.placed.berth.exit = r.berth.exit ∧
    r.placed.gap.headBeam = r.gap.headBeam ∧ r.placed.gap.tailBeam = r.gap.tailBeam := by
  unfold FaceRec.placed
  repeat' split
  all_goals exact ⟨rfl, rfl, rfl, rfl, rfl, rfl⟩

theorem FaceRec.placed_empty {r : FaceRec} (h : r.berth.allClear = true) : r.placed.berth.state = .empty := by
  unfold FaceRec.placed
  rw [if_pos h]
  split
  · next s => exact s
  · rfl

theorem FaceRec.placed_unreckoned {r : FaceRec} (h : r.berth.allClear = false) :
    r.placed.berth.state = .unreckoned ∧ r.placed.berth.settle = some r.params.tSettle := by
  unfold FaceRec.placed
  rw [if_neg (by rw [h]; decide)]
  exact ⟨rfl, rfl⟩

end Sys2Proof.Machine

namespace Sys2Proof.Proofs

open Sys2Proof.Machine

/-- Settles O29: the primed face is placed by its detectors. -/
theorem configurationSample : Obligations.ConfigurationSample := by
  intro f x s settled here
  have run : exec (.configurationFirstSample f x) s = .next (faceEvent f (firstSample f x) s) := rfl
  refine ⟨fun none' => ?_, fun awaited idle => ⟨_, rfl, ?_⟩⟩
  · rw [run, faceEvent_still settled here (by unfold firstSample; rw [none']; rfl)]
  · have standing := settle_firstSample x awaited idle
    have detectors := primed_detectors (s.part.face f).berth.detectors fun i => (x.detectors.toList[i]?).getD false
    rw [faceEvent_eq settled here, transmit_face]
    generalize (settle (firstSample f x s.part)).face f = r at standing
    have berth : r.berth = (primeTrack x (s.part.face f)).placed.berth := (congrArg Standing.berth standing :)
    have head : r.gap.headBeam = (primeTrack x (s.part.face f)).placed.gap.headBeam :=
      (congrArg (fun t => t.gap.headBeam) standing :)
    have tail : r.gap.tailBeam = (primeTrack x (s.part.face f)).placed.gap.tailBeam :=
      (congrArg (fun t => t.gap.tailBeam) standing :)
    obtain ⟨configuring, kept, entry, exit, headBeam, tailBeam⟩ := (primeTrack x (s.part.face f)).placed_kept
    rw [berth, head, tail, configuring, kept, entry, exit, headBeam, tailBeam]
    have clear : (primeTrack x (s.part.face f)).berth.allClear = true ↔
        ∀ i, i < (s.part.face f).berth.detectors.length → (x.detectors.toList[i]?).getD false = false := by
      rw [Berth.allClear_iff, show (primeTrack x (s.part.face f)).berth.detectors = _ from detectors]
      simp [Filter.taken, Filter.reads]
    refine ⟨rfl, detectors, rfl, rfl, AxleUnit.prime_primed _ _, AxleUnit.prime_primed _ _, fun ⟨i, inside, occupied⟩ => ?_,
      fun none' => FaceRec.placed_empty (clear.mpr none')⟩
    refine FaceRec.placed_unreckoned (Bool.eq_false_iff.mpr fun all => ?_)
    exact absurd ((clear.mp all i inside).symm.trans occupied) nofun

end Sys2Proof.Proofs

namespace Sys2Proof.Machine

/-! ### The checks of the berth's requests (R36, R37) -/

/-- The modes in which a request about the train is taken. -/
def FaceRec.takesTrains (r : FaceRec) : Prop := r.mode.mode ≠ .unconfigured ∧ r.mode.mode ≠ .maint

section
variable {r : FaceRec}

theorem berthModeCheck_busy (h : r.enumerating = true) : berthModeCheck r = some (.plain .busy) := by
  simp [berthModeCheck, firstFail, h]

theorem berthModeCheck_closed (h : r.enumerating = false) (k : ¬ r.takesTrains) : berthModeCheck r = some (.plain .wrongMode) := by
  have closed : r.mode.mode = .unconfigured ∨ r.mode.mode = .maint := by
    unfold FaceRec.takesTrains at k
    rwa [not_and_or, not_not, not_not] at k
  simp [berthModeCheck, firstFail, h, closed]

theorem berthModeCheck_open (h : r.enumerating = false) (k : r.takesTrains) : berthModeCheck r = none := by
  obtain ⟨configured, run⟩ := k
  simp [berthModeCheck, firstFail, h, configured, run]

theorem Berth.engaged_iff (b : Berth) : b.engaged = true ↔
    b.state = .serving ∨ b.state = .rolling ∨ b.state = .cleared ∨ b.state = .departing := by
  unfold Berth.engaged
  cases b.state <;> decide

end

/-! ### A record computed without a train (R42) -/

/-- With no train announced a computation gives no configured door a verdict. -/
theorem alignRecord_unannounced {p : Part} {f : Face} (h : (p.face f).berth.ann = none) (c : AlignCause) (d : DoorIx)
    (set : (p.face f).configured d = true) : (alignRecord p f c).entryOf d = .unknown := by
  have blank (g : Geometry) : ((List.replicate g.doors.length DoorEntry.unknown)[d.val]?).getD .unknown = .unknown := by
    rw [List.getElem?_replicate]
    split <;> rfl
  cases geom : (p.face f).geom with
  | none => simp [FaceRec.configured, FaceRec.n, geom] at set
  | some g =>
    unfold AlignRec.entryOf
    cases plan : statusPlan (p.face f).berth with
    | noStage s => rw [alignRecord_noStage geom c plan]; exact blank g
    | noseOnly => rw [alignRecord_noseOnly geom c plan]; exact blank g
    | whole mismatch =>
      have check : (p.face f).berth.axleCheck = .notAnnounced := by unfold Berth.axleCheck; rw [h]
      unfold statusPlan at plan
      simp only [check] at plan
      repeat' split at plan
      all_goals cases plan

/-- A record computed without a train opens no door for a fire (R141). -/
theorem unannounced_opensNothing {p : Part} {f : Face} (h : (p.face f).berth.ann = none) (c : AlignCause) :
    ((writeAlign f (alignRecord p f c) p).face f).opensNothing := by
  refine .inr fun d => ?_
  have standing := written_align f (alignRecord p f c) (p := p)
  have geom : ((writeAlign f (alignRecord p f c) p).face f).geom = (p.face f).geom := (congrArg Standing.geom standing :)
  unfold FaceRec.inFireSet; simp only
  rw [FaceRec.configured_of_geom geom]
  cases set : (p.face f).configured d with
  | false => rfl
  | true =>
    have judged := congrFun (congrArg Standing.doors standing :) d
    simp only [Standing.write, set, if_true, alignRecord_unannounced h c d set] at judged
    have unknown : ((writeAlign f (alignRecord p f c) p).face f).doors[d].verdict = .vUnknown := congrArg Prod.fst judged
    have barred : ((writeAlign f (alignRecord p f c) p).face f).fireEligible d = false := by
      unfold FaceRec.fireEligible; simp only
      rw [unknown, Bool.and_false]
    rw [barred, Bool.and_false, Bool.false_and]

/-! ### WITHDRAW_TRAIN and CLEAR_BERTH (R37, R38) -/

section
variable {f : Face} {p : Part}

theorem withdrawTrain_refused {ans : Answer} (h : berthModeCheck (p.face f) = some ans) : withdrawTrain f p = (ans, p) := by
  unfold withdrawTrain; simp only [h]

variable (opened : berthModeCheck (p.face f) = none)
include opened

theorem withdrawTrain_engaged (h : (p.face f).berth.engaged = true) : withdrawTrain f p = (.plain .busy, p) := by
  unfold withdrawTrain; simp only [opened]
  rcases (Berth.engaged_iff _).mp h with s | s | s | s <;> simp only [s]

theorem withdrawTrain_noTrain (h : (p.face f).berth.state = .empty ∨ (((p.face f).berth.state = .arriving ∨
    (p.face f).berth.state = .stopped ∨ (p.face f).berth.state = .unreckoned) ∧ (p.face f).berth.ann = none)) :
    withdrawTrain f p = (.plain .noTrain, p) := by
  unfold withdrawTrain; simp only [opened]
  rcases h with s | ⟨s | s | s, none'⟩
  · simp only [s]
  all_goals simp only [s, none']

theorem withdrawTrain_announced (s : (p.face f).berth.state = .announced) :
    withdrawTrain f p = (.plain .done, enterEmpty f .withdraw p) := by
  unfold withdrawTrain; simp only [opened, s]

variable {a : Announcement} (held : (p.face f).berth.ann = some a)
include held

theorem withdrawTrain_arriving (s : (p.face f).berth.state = .arriving) :
    withdrawTrain f p = (.plain .done, p.modFace f fun r => r.modBerth dropAnnouncement) := by
  unfold withdrawTrain; simp only [opened, s, held]

theorem withdrawTrain_stopped (s : (p.face f).berth.state = .stopped) : withdrawTrain f p =
    (.plain .done, computeAlign f .withdraw (p.modFace f fun r => r.modBerth dropAnnouncement)) := by
  unfold withdrawTrain; simp only [opened, s, held]

theorem withdrawTrain_unreckoned (s : (p.face f).berth.state = .unreckoned) : withdrawTrain f p =
    (.plain .done, p.modFace f fun r =>
      restartSettle (r.modBerth fun b => { b with ann := none, unchecked := false, axles := 0 })) := by
  unfold withdrawTrain; simp only [opened, s, held]

end

section
variable {f : Face} {p : Part}

theorem clearBerth_busy (h : (p.face f).enumerating = true) : clearBerth f p = (.plain .busy, p) := by
  unfold clearBerth; simp only [h, if_true]

variable (quiet : (p.face f).enumerating = false)
include quiet

theorem clearBerth_unclear (h : (p.face f).geom = none ∨ (p.face f).berth.allClear = false) :
    clearBerth f p = (.plain .wrongMode, p) := by
  unfold clearBerth
  rw [if_neg (by rw [quiet]; decide), if_pos (h.imp_left Option.isNone_iff_eq_none.mpr)]

variable (set : (p.face f).geom ≠ none) (clear : (p.face f).berth.allClear = true)
include set clear

theorem clearBerth_clear : clearBerth f p =
    if (p.face f).berth.state = .empty then (.plain .done, p)
    else (.plain .done, enterEmpty f .clear (p.modFace f fun r => r.modBerth fun b =>
      { b with axles := 0, entry := b.entry.spoil, exit := b.exit.spoil })) := by
  have open' : ¬ ((p.face f).geom.isNone = true ∨ (p.face f).berth.allClear = false) := by
    rintro (none' | unclear)
    · exact set (Option.isNone_iff_eq_none.mp none')
    · rw [clear] at unclear; cases unclear
  unfold clearBerth
  rw [if_neg (by rw [quiet]; decide), if_neg open']

end

theorem AxleUnit.spoil_spoiled {u : AxleUnit} (h : u.dec.pos ≠ .none) : u.spoil.dec.spoiled = true := by
  unfold AxleUnit.spoil
  rw [if_neg h]

/-- The reports of an entry to EMPTY that are told of wait in the queue, or LOSS stands. -/
theorem emptyingTold_queued {r : FaceRec} {f : Face} {c : BerthCause} {q : Part} (h : r.EmptyingTold q.told f c) :
    q.loss = true ∨ r.EmptyingTold (· ∈ q.reports) f c := by
  obtain ⟨counts, x, berth, fields⟩ := h
  by_cases lost : q.loss = true
  · exact .inl lost
  · exact .inr ⟨counts.resolve_left lost, x, berth.resolve_left lost, fields⟩

end Sys2Proof.Machine

namespace Sys2Proof.Proofs

open Sys2Proof.Machine

/-- Settles O25: the refusals by the checks, the entries to EMPTY by what such an entry leaves. -/
theorem berthEmptied : Obligations.BerthEmptied := by
  intro tag f s free settled here
  have face : byteAt [faceCode f] 0 = faceCode f := rfl
  have withdrawn {ans : Answer} {q : Part} (e : withdrawTrain f s.part = (ans, q)) :
      serve .withdrawTrain tag [faceCode f] s.part = ⟨ans, [], q⟩ :=
    (serve_face (k := .withdrawTrain) rfl rfl face rfl here).trans (congrArg Served.of e)
  have cleared {ans : Answer} {q : Part} (e : clearBerth f s.part = (ans, q)) :
      serve .clearBerth tag [faceCode f] s.part = ⟨ans, [], q⟩ :=
    (serve_face (k := .clearBerth) rfl rfl face rfl here).trans (congrArg Served.of e)
  refine ⟨fun busy => ⟨?_, ?_⟩, fun quiet closed => ?_, fun quiet opened => ?_, fun quiet unclear => ?_,
    fun quiet set clear => ⟨fun empty => ?_, fun occupied idle => ?_⟩⟩
  · exact unchanged_of_refused (k := .withdrawTrain) free settled nofun
      (withdrawn (withdrawTrain_refused (berthModeCheck_busy busy)))
  · exact unchanged_of_refused (k := .clearBerth) free settled nofun
      (cleared (clearBerth_busy busy))
  · exact unchanged_of_refused (k := .withdrawTrain) free settled nofun
      (withdrawn (withdrawTrain_refused (berthModeCheck_closed quiet closed)))
  · have check := berthModeCheck_open quiet opened
    refine ⟨fun engaged => ?_, fun without => ?_, fun announced idle => ?_, fun arriving held => ?_, fun stopped held => ?_,
      fun found held => ?_⟩
    · exact unchanged_of_refused (k := .withdrawTrain) free settled nofun
        (withdrawn (withdrawTrain_engaged check ((Berth.engaged_iff _).mpr engaged)))
    · exact unchanged_of_refused (k := .withdrawTrain) free settled nofun
        (withdrawn (withdrawTrain_noTrain check without))
    · exact ⟨_, exec_answered (k := .withdrawTrain) free nofun rfl (withdrawn (withdrawTrain_announced check announced)),
        emptied_of_enterEmpty idle rfl rfl rfl .withdraw,
        emptyingTold_queued (enterEmpty_told (by rw [announced]; decide) rfl rfl rfl (fun _ => rfl) .withdraw)⟩
    · obtain ⟨a, held⟩ := Option.ne_none_iff_exists'.mp held
      exact exec_stands (k := .withdrawTrain) free nofun rfl (withdrawn (withdrawTrain_arriving check held arriving))
        (settle_modFace settled ((settled f).withBerth _))
    · obtain ⟨a, held⟩ := Option.ne_none_iff_exists'.mp held
      have even (f' : Face) : ((s.part.modFace f fun r => r.modBerth dropAnnouncement).face f').Even := by
        rw [Part.modFace_face]
        split
        · exact (settled _).even.withBerth _
        · exact (settled f').even
      have gone : ((s.part.modFace f fun r => r.modBerth dropAnnouncement).face f).berth.ann = none := by
        rw [Part.modFace_self]; rfl
      obtain ⟨done, standing⟩ := computed_calm (unannounced_opensNothing gone .withdraw) even
      exact ⟨_, exec_answered (k := .withdrawTrain) free nofun rfl (withdrawn (withdrawTrain_stopped check held stopped)), done,
        (congrArg Standing.berth standing :)⟩
    · obtain ⟨a, held⟩ := Option.ne_none_iff_exists'.mp held
      exact exec_stands (k := .withdrawTrain) free nofun rfl (withdrawn (withdrawTrain_unreckoned check held found))
        (settle_modFace settled ((settled f).withBerth _))
  · exact unchanged_of_refused (k := .clearBerth) free settled nofun (cleared (clearBerth_unclear quiet unclear))
  · have e := clearBerth_clear quiet set clear
    rw [if_pos empty] at e
    exact exec_stands (k := .clearBerth) (ans := .plain .done) free nofun rfl (cleared e) (settle_settled settled)
  · have e := clearBerth_clear quiet set clear
    rw [if_neg occupied] at e
    have inside : (s.part.modFace f fun r => r.modBerth fun b =>
        { b with axles := 0, entry := b.entry.spoil, exit := b.exit.spoil }).face f = (s.part.face f).modBerth fun b =>
        { b with axles := 0, entry := b.entry.spoil, exit := b.exit.spoil } := Part.modFace_self ..
    have standing := settle_enterEmpty (f := f) (by rw [inside]; exact idle) .clear
    rw [inside] at standing
    refine ⟨_, exec_answered (k := .clearBerth) free nofun rfl (cleared e), ⟨?_, emptyingTold_queued ?_⟩, fun moves => ?_,
      fun moves => ?_⟩
    · exact emptied_of_enterEmpty (by rw [inside]; exact idle) (by rw [inside]; rfl) (by rw [inside]; rfl)
        (by rw [inside]; rfl) .clear
    · exact enterEmpty_told (by rw [inside]; exact occupied) (by rw [inside]; rfl) (by rw [inside]; rfl) (by rw [inside]; rfl)
        (fun _ => by rw [inside]; rfl) .clear
    · exact (congrArg (fun t => t.berth.entry.dec.spoiled) standing :).trans (AxleUnit.spoil_spoiled moves)
    · exact (congrArg (fun t => t.berth.exit.dec.spoiled) standing :).trans (AxleUnit.spoil_spoiled moves)

end Sys2Proof.Proofs

namespace Sys2Proof.Machine

/-! ### The payload of an ANNOUNCE_TRAIN (section 10.3) -/

/-- The unit bytes of a payload read back as the units they were written from. -/
theorem readUnitBytes_flatMap (units : List (Byte × Byte)) :
    readUnitBytes units.length (units.flatMap fun u => [u.1, u.2]) = units := by
  induction units with
  | nil => rfl
  | cons u units ih => exact congrArg (u :: ·) ih

theorem announce_length {f : Face} {auto : Byte} {units : List (Byte × Byte)} (h : units.length ≤ 118) :
    ReqKind.lengthOk .announceTrain (faceCode f :: auto :: byteOf units.length :: units.flatMap fun u => [u.1, u.2]) = true := by
  have count : (units.flatMap fun u => [u.1, u.2]).length = 2 * units.length := by
    induction units with
    | nil => rfl
    | cons u units ih =>
      have := ih (Nat.le_of_succ_le h)
      simp only [List.flatMap_cons, List.length_append, List.length_cons, List.length_nil, this]
      omega
  have most : (byteOf units.length).toNat = units.length := byteOf_toNat (by omega)
  simp only [ReqKind.lengthOk, countedLength, List.getElem?_cons_succ, List.getElem?_cons_zero, most, List.length_cons, count,
    Bool.and_eq_true, decide_eq_true_eq]
  omega

theorem serve_announceTrain {f : Face} {tag auto : Byte} {units : List (Byte × Byte)} {p : Part} (here : p.present f = true)
    (coded : auto.toNat ≤ 1) (short : units.length ≤ 118) :
    serve .announceTrain tag (faceCode f :: auto :: byteOf units.length :: units.flatMap fun u => [u.1, u.2]) p =
      .of (announceTrain f (decide (auto = 1)) units p) := by
  rw [serve_face (announce_length short) rfl rfl (decide_eq_true coded) here]
  have read : readUnitBytes (byteOf units.length).toNat (units.flatMap fun u => [u.1, u.2]) = units := by
    rw [byteOf_toNat (by omega)]; exact readUnitBytes_flatMap units
  exact congrArg (fun us => Served.of (announceTrain f (decide (auto = 1)) us p)) read

/-! ### ANNOUNCE_TRAIN (R36) -/

section
variable {f : Face} {p : Part} {auto : Bool} {units : List (Byte × Byte)}

theorem announceTrain_refused {ans : Answer} (h : berthModeCheck (p.face f) = some ans) :
    announceTrain f auto units p = (ans, p) := by
  unfold announceTrain; simp only [h]

variable (opened : berthModeCheck (p.face f) = none)
include opened

theorem announceTrain_engaged (h : (p.face f).berth.engaged = true) : announceTrain f auto units p = (.plain .busy, p) := by
  unfold announceTrain; simp only [opened, h, if_true]

variable (free : (p.face f).berth.engaged = false)
include free

theorem announceTrain_miscounted (h : units.length ≠ 1) (k : units.length ≠ 2) :
    announceTrain f auto units p = (badValue 255, p) := by
  unfold announceTrain; simp [opened, free, h, k]

variable (count : units.length = 1 ∨ units.length = 2)
include count

theorem announceTrain_badUnit {i : Nat} (h : readUnits p 0 units = .error i) :
    announceTrain f auto units p = (badValue (byteOf i), p) := by
  unfold announceTrain; simp only [opened, free, Bool.false_eq_true, if_false, if_pos count, h]

theorem announceTrain_taken {us : List UnitEntry} (h : readUnits p 0 units = .ok us) :
    announceTrain f auto units p = (.plain .done, takeAnnouncement f ⟨us, auto, expectedAxles p us⟩ p) := by
  unfold announceTrain; simp only [opened, free, Bool.false_eq_true, if_false, if_pos count, h]

end

section
variable {f : Face} {p : Part} (a : Announcement)

section
variable (awake : (p.face f).mode.mode ≠ .standby)
include awake

theorem takeAnnouncement_announced (s : (p.face f).berth.state = .announced) :
    takeAnnouncement f a p = p.modFace f fun r => r.modBerth fun b => { b with ann := some a } := by
  have woken : wakeFace f p = p := if_neg awake
  unfold takeAnnouncement; simp only
  rw [woken, Part.modFace_self]
  simp only [FaceRec.modBerth_berth, s]

theorem takeAnnouncement_arriving (s : (p.face f).berth.state = .arriving) :
    takeAnnouncement f a p = p.modFace f fun r => r.modBerth fun b => { b with ann := some a, unannounced := false } := by
  have woken : wakeFace f p = p := if_neg awake
  unfold takeAnnouncement; simp only
  rw [woken, Part.modFace_self]
  simp only [FaceRec.modBerth_berth, s]
  exact p.modFace_modFace ..

theorem takeAnnouncement_stopped (s : (p.face f).berth.state = .stopped) : takeAnnouncement f a p =
    computeAlign f .reannounce (p.modFace f fun r => r.modBerth fun b => { b with ann := some a, unannounced := false }) := by
  have woken : wakeFace f p = p := if_neg awake
  unfold takeAnnouncement; simp only
  rw [woken, Part.modFace_self]
  simp only [FaceRec.modBerth_berth, s]
  exact congrArg (computeAlign f .reannounce) (p.modFace_modFace ..)

theorem takeAnnouncement_unreckoned (s : (p.face f).berth.state = .unreckoned) : takeAnnouncement f a p =
    p.modFace f fun r => r.modBerth fun b =>
      { b with ann := some a, unchecked := true, axles := a.expected, settle := some r.params.tSettle } := by
  have woken : wakeFace f p = p := if_neg awake
  unfold takeAnnouncement; simp only
  rw [woken, Part.modFace_self]
  simp only [FaceRec.modBerth_berth, s]
  exact p.modFace_modFace ..

end

/-- An EMPTY berth enters ANNOUNCED, in STANDBY too, where it wakes (R27, R36, R153). -/
theorem takeAnnouncement_empty (empty : (p.face f).berth.state = .empty) : takeAnnouncement f a p =
    enterBerth f .announced .announce ((wakeFace f p).modFace f fun r => r.modBerth fun b => { b with ann := some a }) := by
  have state : ((wakeFace f p).face f).berth.state = .empty := by
    have woken : ((wakeFace f p).face f).standing = (p.face f).standing := congrFun (wakeFace_standing f p) f
    exact (congrArg (fun t => t.berth.state) woken :).trans empty
  unfold takeAnnouncement; simp only
  rw [Part.modFace_self]
  simp only [FaceRec.modBerth_berth, state]

end

/-- A computation leaves the berth in outline, at the end of its event too. -/
theorem settle_computeAlign_outline (f : Face) (c : AlignCause) (p : Part) :
    ((settle (computeAlign f c p)).face f).berth.outline = (p.face f).berth.outline := by
  have outline := congrFun (show outlines (settle (computeAlign f c p)).standing =
    outlines (writeAlign f (alignRecord p f c) p).standing by simp [computeAlign]) f
  rw [writeAlign_standing, outlines, outlines, Function.update_self] at outline
  exact (congrArg Standing.berth outline :)

end Sys2Proof.Machine

namespace Sys2Proof.Proofs

open Sys2Proof.Machine

/-- Settles O24: the refusals by the checks, a taken announcement by the state of the berth. -/
theorem announceTrain : Obligations.AnnounceTrain := by
  intro tag auto f units s free settled here coded short
  have announced {ans : Answer} {q : Part} (e : Machine.announceTrain f (decide (auto = 1)) units s.part = (ans, q)) :
      serve .announceTrain tag (faceCode f :: auto :: byteOf units.length :: units.flatMap fun u => [u.1, u.2]) s.part =
        ⟨ans, [], q⟩ :=
    (serve_announceTrain here coded short).trans (congrArg Served.of e)
  refine ⟨fun busy => ?_, fun quiet closed => ?_, fun quiet opened engaged => ?_, fun quiet opened held =>
    ⟨fun one two => ?_, fun count i bad => ?_, fun count us good => ?_⟩⟩
  · exact unchanged_of_refused (k := .announceTrain) free settled nofun
      (announced (announceTrain_refused (berthModeCheck_busy busy)))
  · exact unchanged_of_refused (k := .announceTrain) free settled nofun
      (announced (announceTrain_refused (berthModeCheck_closed quiet closed)))
  · exact unchanged_of_refused (k := .announceTrain) free settled nofun
      (announced (announceTrain_engaged (berthModeCheck_open quiet opened) ((Berth.engaged_iff _).mpr engaged)))
  all_goals
    have check := berthModeCheck_open quiet opened
    have idle : (s.part.face f).berth.engaged = false := by
      rw [← Bool.not_eq_true, Berth.engaged_iff]
      rcases held with e | e | e | e | e <;> rw [e] <;> decide
  · exact unchanged_of_refused (k := .announceTrain) free settled nofun
      (announced (announceTrain_miscounted check idle one two))
  · exact unchanged_of_refused (k := .announceTrain) free settled nofun
      (announced (announceTrain_badUnit check idle count bad))
  · intro a
    have taken {q : Part} (e : takeAnnouncement f a s.part = q) :
        exec (.announceTrain tag (faceCode f :: auto :: byteOf units.length :: units.flatMap fun u => [u.1, u.2])) s =
          .next (s.answered ⟨0xA0, tag, .done, 0, 0, []⟩ (settle q)) := by
      subst e
      exact exec_answered (k := .announceTrain) (sv := ⟨.plain .done, [], takeAnnouncement f a s.part⟩) free nofun rfl
        (announced (announceTrain_taken check idle count good))
    clear_value a
    refine ⟨fun empty => ?_, fun awake state => ?_, fun awake state => ?_, fun awake state => ?_, fun awake state => ?_⟩
    · refine ⟨_, taken (takeAnnouncement_empty a empty), ?_⟩
      have woken : ((wakeFace f s.part).face f).work = (s.part.face f).work := wakeFace_work f f s.part
      have quiet : (((wakeFace f s.part).modFace f fun r => r.modBerth fun b => { b with ann := some a }).face f).quiet := by
        rw [Part.modFace_self]
        unfold FaceRec.quiet
        rw [show (((wakeFace f s.part).face f).modBerth fun b => { b with ann := some a }).op = (s.part.face f).op from
          congrArg Prod.fst woken]
        exact (settled f).op
      have standing := settle_enterBerth .announced .announce quiet
      rw [Part.modFace_standing_eq, Function.update_self] at standing
      exact ⟨(congrArg (fun t => t.berth.state) standing :), (congrArg (fun t => t.berth.ann) standing :)⟩
    · rw [taken (takeAnnouncement_announced a awake state), settle_modFace settled ((settled f).withBerth _)]
    · rw [taken (takeAnnouncement_arriving a awake state), settle_modFace settled ((settled f).withBerth _)]
    · have even (f' : Face) : ((s.part.modFace f fun r => r.modBerth fun b =>
          { b with ann := some a, unannounced := false }).face f').Even := by
        rw [Part.modFace_face]
        split
        · exact (settled _).even.withBerth _
        · exact (settled f').even
      have outline := settle_computeAlign_outline f .reannounce
        (s.part.modFace f fun r => r.modBerth fun b => { b with ann := some a, unannounced := false })
      rw [Part.modFace_self] at outline
      refine ⟨_, taken (takeAnnouncement_stopped a awake state), computed .reannounce even,
        (congrArg Berth.ann outline :), (congrArg Berth.unannounced outline :), fun away => ?_⟩
      have calm : ((writeAlign f (alignRecord (s.part.modFace f fun r => r.modBerth fun b =>
          { b with ann := some a, unannounced := false }) f .reannounce) (s.part.modFace f fun r => r.modBerth fun b =>
          { b with ann := some a, unannounced := false })).face f).opensNothing := by
        refine .inl ?_
        unfold FaceRec.inFire
        rw [(FaceRec.mode_of_duties (writeAlign_duties ..)).1, Part.modFace_self]
        exact decide_eq_false away
      exact (congrArg Standing.berth (computed_calm calm even).2 :)
    · rw [taken (takeAnnouncement_unreckoned a awake state), settle_modFace settled ((settled f).withBerth _)]

end Sys2Proof.Proofs

namespace Sys2Proof.Machine

/-! ### The start arbiter as a change of a door finds it -/

/-- What reports and changes of a face leave alone. -/
theorem arb_noticeInv (a : Arbiter) : NoticeInv (fun _ => True) fun q => q.arb = a where
  report r p h := by
    obtain ⟨_, _, e⟩ := queueReport_eq r p
    rw [e]; exact h
  mod f g p _ _ h := by rw [Part.modFace_arb]; exact h

theorem changeDoor_arb (f : Face) (d : DoorIx) (c : DoorCause) (g : Door → Door) (p : Part) :
    (changeDoor f d c g p).arb = p.arb := by
  have hI := arb_noticeInv p.arb
  have told (x : Prop) [Decidable x] (r : Report) (q : Part) (h : q.arb = p.arb) :
      (if x then q else queueReport r q).arb = p.arb := by
    split
    · exact h
    · exact hI.report r q h
  unfold changeDoor; simp only
  rw [Part.modFace_arb]
  split
  · exact told _ _ _ (p.modFace_arb ..)
  · exact doorGap_notice hI trivial ((Part.modFace_arb ..).trans (told _ _ _ (p.modFace_arb ..))) d _

theorem queueFree_of_arb {p q : Part} {f : Face} (h : q.arb = p.arb) (k : p.queueFree f) : q.queueFree f := by
  unfold Part.queueFree; rw [h]; exact k

/-! ### The doors of a face of which no start is queued -/

/-- A part against one before it: still no start of the face is queued, the geometry stands, and of the doors only those of
`D` have changed, but for what entries of the berth hand them and the timers of a start. -/
structure Part.Spares (f : Face) (D : DoorIx → Prop) (p q : Part) : Prop where
  free : q.queueFree f
  geom : (q.face f).geom = (p.face f).geom
  doors : ∀ e : DoorIx, ¬ D e → (q.face f).doors[e.val].stance = (p.face f).doors[e.val].stance

section
variable {f : Face} {D : DoorIx → Prop} {p q t : Part}

theorem Part.Spares.rfl' (h : p.queueFree f) : p.Spares f D p := ⟨h, rfl, fun _ _ => rfl⟩

theorem Part.Spares.trans (h : p.Spares f D q) (k : q.Spares f D t) : p.Spares f D t :=
  ⟨k.free, k.geom.trans h.geom, fun e n => (k.doors e n).trans (h.doors e n)⟩

theorem Part.Spares.mono {D' : DoorIx → Prop} (h : p.Spares f D q) (sub : ∀ d, D d → D' d) : p.Spares f D' q :=
  ⟨h.free, h.geom, fun e n => h.doors e (mt (sub e) n)⟩

/-- A change of the face alone, of the doors only those of `D`. -/
theorem Part.Spares.modFace (h : p.queueFree f) {g : FaceRec → FaceRec} (geom : (g (p.face f)).geom = (p.face f).geom)
    (doors : ∀ e : DoorIx, ¬ D e → (g (p.face f)).doors[e.val].stance = (p.face f).doors[e.val].stance) :
    p.Spares f D (p.modFace f g) :=
  ⟨queueFree_of_arb (p.modFace_arb f g) h, by rw [Part.modFace_self]; exact geom,
    fun e n => by rw [Part.modFace_self]; exact doors e n⟩

/-- A change of the arbiter that queues no start of the face. -/
theorem Part.Spares.arb {a : Arbiter} (h : ∀ e ∈ a.queue, e.ref.face ≠ f) : p.Spares f D { p with arb := a } :=
  ⟨h, by rw [Part.face_mk], fun e _ => by rw [Part.face_mk]⟩

end

section
variable {f : Face} {p : Part} (free : p.queueFree f)
include free

/-- A grant event with no start of the face queued grants doors of the other face alone (R115). -/
theorem grantEvent_spares (D : DoorIx → Prop) : p.Spares f D (grantEvent p) := by
  have loop (n : Nat) (gs : List Grant) (q : Part) (k : q.queueFree f ∧ q.face f = p.face f) :
      (grantLoop n gs q).1.queueFree f ∧ (grantLoop n gs q).1.face f = p.face f := by
    induction n generalizing gs q with
    | zero => exact k
    | succ n ih =>
      unfold grantLoop
      split
      · exact k
      · next e mem =>
        have away : e.ref.face ≠ f := k.1 e (candidate_mem mem)
        split
        · refine ih _ _ ⟨?_, ?_⟩
          · refine queueFree_of_arb (changeDoor_arb ..) fun x inside => ?_
            exact k.1 x (List.mem_of_mem_filter inside)
          · exact changeDoor_frame (other_frameInv f (p.face f)) away (by rw [Part.face_mk]; exact k.2) _ _ fun _ => rfl
        · exact k
  have issued (gs : List Grant) (q : Part) : ((issueGrants gs q).face f).geom = (q.face f).geom ∧
      ((issueGrants gs q).face f).doors = (q.face f).doors ∧ (issueGrants gs q).arb = q.arb := by
    have placed (a : LinkAction) (ts : List MoveTarget) (r : FaceRec) : ((r.placeMove a ts).geom, (r.placeMove a ts).doors) =
        (r.geom, r.doors) := by
      unfold FaceRec.placeMove; simp only
      split <;> rfl
    have kept := foldl_keeps (fun q : Part => (((q.face f).geom, (q.face f).doors), q.arb))
      (fun q (k : Face × Action) => q.modFace k.1 (FaceRec.placeMove
        (match k.2 with
         | .toOpen => .unlockOpen
         | .toClose => .closeLock) (moveTargets gs k.1 k.2)))
      (fun q k => Prod.ext (q.modFace_keeps (fun r => (r.geom, r.doors)) k.1 f _ fun r => placed _ _ r) (q.modFace_arb ..))
      ((gs.map fun g => (g.ref.face, g.action)).eraseDups) q
    simp only [Prod.mk.injEq] at kept
    obtain ⟨⟨geom, doors⟩, arb⟩ := kept
    exact ⟨geom, doors, arb⟩
  obtain ⟨freed, same⟩ := loop p.arb.queue.length [] p ⟨free, rfl⟩
  obtain ⟨geom, doors, arb⟩ := issued (grantLoop p.arb.queue.length [] p).2 (grantLoop p.arb.queue.length [] p).1
  exact ⟨queueFree_of_arb arb freed, by rw [grantEvent, geom, same], fun e _ => by simp only [grantEvent, doors, same]⟩

theorem endStart_spares (D : DoorIx → Prop) (d : DoorIx) : p.Spares f D (endStart f d p) := by
  have out : p.Spares f D { p with arb := { p.arb with
      starting := p.arb.starting.filter fun x => decide (x ≠ (⟨f, d⟩ : DoorRef)) } } := .arb free
  unfold endStart onDoor; simp only
  split
  · have ended := out.trans (.modFace out.free (g := fun r => r.modDoor d fun x => { x with startT := none }) rfl
      fun e _ => FaceRec.modDoor_stance _ d e _ fun _ => rfl)
    exact ended.trans (grantEvent_spares ended.free D)
  · exact .rfl' free

theorem leaveMachinery_spares (D : DoorIx → Prop) (d : DoorIx) : p.Spares f D (leaveMachinery f d p) := by
  have left : p.Spares f D { p with arb := { p.arb with queue := p.arb.queue.filter fun x => decide (x.ref ≠ ⟨f, d⟩) } } :=
    .arb fun e mem => free e (List.mem_of_mem_filter mem)
  exact left.trans (endStart_spares left.free D d)

end

/-! ### A change of one door -/

/-- A door's change makes of that door's record what it says, and of the others nothing. -/
theorem changeDoor_stance (f : Face) (d e : DoorIx) (c : DoorCause) (g : Door → Door) (p : Part) :
    ((changeDoor f d c g p).face f).doors[e.val].stance =
      if d = e then (g (p.face f).doors[e.val]).stance else (p.face f).doors[e.val].stance := by
  obtain ⟨r, face, base⟩ := changeDoor_face f d c g p
  have doors : r.doors = ((p.face f).modDoor d fun _ => g (p.face f).doors[d.val]).doors := (congrArg FaceRec.doors base :)
  rw [face, chooseCue_view (fun r => r.doors[e.val].stance) (fun r d _ => r.modDoor_stance d e _ fun _ => rfl) fun _ _ _ => rfl]
  simp only [doors, FaceRec.modDoor_doors]
  split
  · next same => subst same; rfl
  · rfl

theorem changeDoor_geom (f : Face) (d : DoorIx) (c : DoorCause) (g : Door → Door) (p : Part) :
    ((changeDoor f d c g p).face f).geom = (p.face f).geom := by
  obtain ⟨r, face, base⟩ := changeDoor_face f d c g p
  rw [face, chooseCue_view FaceRec.geom (fun _ _ _ => rfl) fun _ _ _ => rfl]
  exact (congrArg FaceRec.geom base :)

section
variable {f : Face} {p : Part} (free : p.queueFree f) (d : DoorIx)
include free

theorem changeDoor_spares (c : DoorCause) (g : Door → Door) : p.Spares f (· = d) (changeDoor f d c g p) :=
  ⟨queueFree_of_arb (changeDoor_arb ..) free, changeDoor_geom .., fun e n => by
    rw [changeDoor_stance, if_neg fun q => n q.symm]⟩

/-- A door's change that also takes it out of the start machinery. -/
theorem changedOut_spares (c : DoorCause) (g : Door → Door) : p.Spares f (· = d) (leaveMachinery f d (changeDoor f d c g p)) ∧
    ((leaveMachinery f d (changeDoor f d c g p)).face f).doors[d.val].stance = (g (p.face f).doors[d.val]).stance := by
  have changed := changeDoor_spares free d c g
  refine ⟨changed.trans (leaveMachinery_spares changed.free _ d), ?_⟩
  rw [(leaveMachinery_spares changed.free (fun _ => False) d).doors d nofun, changeDoor_stance, if_pos rfl]

theorem issueStop_spares (D : DoorIx → Prop) : p.Spares f D (issueStop f d p) := by
  unfold issueStop
  split
  · exact .rfl' free
  · have placed : ((p.face f).placeStop d).geom = (p.face f).geom ∧ ((p.face f).placeStop d).doors = (p.face f).doors := by
      unfold FaceRec.placeStop
      split <;> exact ⟨rfl, rfl⟩
    exact .modFace free placed.1 fun e _ => by rw [placed.2]

end

/-! ### What the entry to ROLLING makes of a door (R93, R111) -/

/-- A door in motion that is not key-isolated, as its halt leaves it. -/
def Door.halt (x : Door) : Door :=
  if x.keyIso then x
  else
    match x.state with
    | .unlocking =>
      if x.seenLocked then { x.stopTimers.enter .discrepant with cause := some .noConfirm, order := none, forced := false }
      else x.standOpen true
    | .opening | .closing | .reopening => x.standOpen true
    | _ => x

/-- A door that a halt makes DISCREPANT, its lock last seen LOCKED. -/
def Door.haltedLocked (x : Door) : Door :=
  { x.stopTimers.enter .discrepant with cause := some .noConfirm, order := none, forced := false }

section
variable {x : Door}

theorem Door.halt_keyed (h : x.keyIso = true) : x.halt = x := if_pos h

theorem Door.halt_locked (h : x.keyIso = false) (s : x.state = .unlocking) (seen : x.seenLocked = true) :
    x.halt = x.haltedLocked := by
  unfold Door.halt; simp only [h, s, seen]; rfl

theorem Door.halt_unlocked (h : x.keyIso = false) (s : x.state = .unlocking) (seen : x.seenLocked = false) :
    x.halt = x.standOpen true := by
  unfold Door.halt; simp only [h, s, seen]; rfl

theorem Door.halt_moving (h : x.keyIso = false) (s : x.state = .opening ∨ x.state = .closing ∨ x.state = .reopening) :
    x.halt = x.standOpen true := by
  unfold Door.halt
  rcases s with s | s | s <;> simp only [h, s] <;> rfl

theorem Door.halt_still (h : x.state ≠ .unlocking) (k : ¬ (x.state = .opening ∨ x.state = .closing ∨ x.state = .reopening)) :
    x.halt = x := by
  obtain ⟨opening, closing, reopening⟩ := (not_or.trans (and_congr_right fun _ => not_or)).mp k
  unfold Door.halt
  split
  · rfl
  · split
    · next s => exact absurd s h
    · next s => exact absurd s opening
    · next s => exact absurd s closing
    · next s => exact absurd s reopening
    · rfl

end

/-- A warned or held door, as its return to OPEN leaves it. -/
def Door.returned (x : Door) : Door :=
  match x.state with
  | .preClose | .held => { x.standOpen x.partialOpen with forced := false }
  | _ => x

theorem Door.returned_warned {x : Door} (h : x.state = .preClose ∨ x.state = .held) :
    x.returned = { x.standOpen x.partialOpen with forced := false } := by
  unfold Door.returned
  rcases h with s | s <;> simp only [s]

theorem Door.returned_other {x : Door} (h : ¬ (x.state = .preClose ∨ x.state = .held)) : x.returned = x := by
  obtain ⟨preClose, held⟩ := not_or.mp h
  unfold Door.returned
  split
  · next s => exact absurd s preClose
  · next s => exact absurd s held
  · rfl

theorem Door.halt_stance (x : Door) : x.stance.halt.stance = x.halt.stance := by
  have key : x.stance.keyIso = x.keyIso := rfl
  have seen : x.stance.seenLocked = x.seenLocked := rfl
  have state : x.stance.state = x.state := rfl
  unfold Door.halt
  rw [key, seen, state]
  split
  · rfl
  · cases x.state
    case unlocking =>
      simp only
      split <;> rfl
    all_goals rfl

theorem Door.returned_stance (x : Door) : x.stance.returned.stance = x.returned.stance := by
  have state : x.stance.state = x.state := rfl
  unfold Door.returned
  rw [state]
  cases x.state <;> rfl

theorem Door.Halted.stanced {x y : Door} (h : Door.Halted x y) : Door.Halted x.stance y.stance :=
  ⟨h.moving, h.freed, h.locked, h.warned, h.keyed, h.resting⟩

theorem Door.Halted.of_stance {x y : Door} (h : Door.Halted x.stance y.stance) : Door.Halted x y :=
  ⟨h.moving, h.freed, h.locked, h.warned, h.keyed, h.resting⟩

/-- A door halted where it moves, and returned where it was warned or held, is halted as R93 says. -/
theorem Door.halted (x : Door) : Door.Halted x x.halt.returned := by
  have kept (k : x.halt = x) (n : ¬ (x.state = .preClose ∨ x.state = .held)) : x.halt.returned.state = x.state := by
    rw [k, Door.returned_other n]
  refine ⟨fun key moving => ?_, fun key unlocking unseen => ?_, fun key unlocking ⟨rep, held, seen⟩ => ?_, fun warned => ?_,
    fun key moving => ?_, fun resting => ?_⟩
  · rw [Door.halt_moving key moving]
    exact ⟨rfl, rfl, rfl⟩
  · have seen : x.seenLocked = false := by
      unfold Door.seenLocked
      split
      · rfl
      · next rep held => exact unseen rep held
    rw [Door.halt_unlocked key unlocking seen]
    exact ⟨rfl, rfl, rfl⟩
  · rw [Door.halt_locked key unlocking (by unfold Door.seenLocked; rw [held]; exact seen)]
    exact ⟨rfl, rfl, rfl⟩
  · rw [Door.halt_still (by rcases warned with s | s <;> rw [s] <;> decide) (by rcases warned with s | s <;> rw [s] <;> decide),
      Door.returned_warned warned]
    exact ⟨rfl, rfl, rfl, rfl⟩
  · refine kept (Door.halt_keyed key) ?_
    rcases moving with s | s | s | s <;> rw [s] <;> decide
  · refine kept (Door.halt_still ?_ ?_) ?_
    all_goals rcases resting with s | s | s | s | s | s | s | s <;> rw [s] <;> decide

/-- R93 says nothing of a door that waits for its start. -/
theorem Door.halted_of_waiting {x : Door} (h : x.state = .openQueued ∨ x.state = .closeQueued) (y : Door) : Door.Halted x y := by
  refine ⟨fun _ t => ?_, fun _ t => ?_, fun _ t => ?_, fun t => ?_, fun _ t => ?_, fun t => ?_⟩
  all_goals
    exfalso
    revert t
    rcases h with s | s <;> rw [s] <;> decide

section
variable {f : Face} {d : DoorIx} {p : Part}

/-- A halt leaves a key-isolated door and one that is not in motion alone (R93). -/
theorem haltingStop_still (h : (p.face f).doors[d.val].keyIso = true ∨ ((p.face f).doors[d.val].state ≠ .unlocking ∧
    ¬ ((p.face f).doors[d.val].state = .opening ∨ (p.face f).doors[d.val].state = .closing ∨
      (p.face f).doors[d.val].state = .reopening))) : haltingStop f d p = p := by
  unfold haltingStop
  rcases h with key | ⟨unlocking, moving⟩
  · exact if_pos key
  · simp only [not_or] at moving
    obtain ⟨opening, closing, reopening⟩ := moving
    simp only [Fin.getElem_fin]
    split <;> rfl

theorem haltingStop_locked (key : (p.face f).doors[d.val].keyIso = false) (s : (p.face f).doors[d.val].state = .unlocking)
    (seen : (p.face f).doors[d.val].seenLocked = true) :
    haltingStop f d p = issueStop f d (leaveMachinery f d (changeDoor f d .order Door.haltedLocked p)) := by
  unfold haltingStop
  simp only [Fin.getElem_fin, key, s, seen]
  rfl

theorem haltingStop_moving (key : (p.face f).doors[d.val].keyIso = false)
    (s : ((p.face f).doors[d.val].state = .unlocking ∧ (p.face f).doors[d.val].seenLocked = false) ∨
      (p.face f).doors[d.val].state = .opening ∨ (p.face f).doors[d.val].state = .closing ∨
      (p.face f).doors[d.val].state = .reopening) :
    haltingStop f d p = issueStop f d (leaveMachinery f d (changeDoor f d .order (Door.standOpen true) p)) := by
  unfold haltingStop
  rcases s with ⟨s, seen⟩ | s | s | s
  · simp only [Fin.getElem_fin, key, s, seen]
    rfl
  all_goals
    simp only [Fin.getElem_fin, key, s]
    rfl

end

section
variable {f : Face} {p : Part} (free : p.queueFree f) (d : DoorIx)
include free

theorem haltingStop_spares : p.Spares f (· = d) (haltingStop f d p) ∧
    ((haltingStop f d p).face f).doors[d.val].stance = (p.face f).doors[d.val].halt.stance := by
  have changed (g : Door → Door) : p.Spares f (· = d) (issueStop f d (leaveMachinery f d (changeDoor f d .order g p))) ∧
      ((issueStop f d (leaveMachinery f d (changeDoor f d .order g p))).face f).doors[d.val].stance =
        (g (p.face f).doors[d.val]).stance := by
    obtain ⟨out, own⟩ := changedOut_spares free d .order g
    exact ⟨out.trans (issueStop_spares out.free d _), ((issueStop_spares out.free d fun _ => False).doors d nofun).trans own⟩
  have key : (p.face f).doors[d.val].keyIso = true ∨ (p.face f).doors[d.val].keyIso = false := Bool.eq_false_or_eq_true _
  have seen : (p.face f).doors[d.val].seenLocked = true ∨ (p.face f).doors[d.val].seenLocked = false := Bool.eq_false_or_eq_true _
  rcases key with key | key
  · rw [haltingStop_still (.inl key), Door.halt_keyed key]
    exact ⟨.rfl' free, rfl⟩
  · by_cases unlocking : (p.face f).doors[d.val].state = .unlocking
    · rcases seen with seen | seen
      · rw [haltingStop_locked key unlocking seen, Door.halt_locked key unlocking seen]; exact changed _
      · rw [haltingStop_moving key (.inl ⟨unlocking, seen⟩), Door.halt_unlocked key unlocking seen]; exact changed _
    · by_cases moving : (p.face f).doors[d.val].state = .opening ∨ (p.face f).doors[d.val].state = .closing ∨
          (p.face f).doors[d.val].state = .reopening
      · rw [haltingStop_moving key (.inr moving), Door.halt_moving key moving]; exact changed _
      · rw [haltingStop_still (.inr ⟨unlocking, moving⟩), Door.halt_still unlocking moving]
        exact ⟨.rfl' free, rfl⟩

theorem returnToOpen_spares (h : (p.face f).doors[d.val].state = .preClose ∨ (p.face f).doors[d.val].state = .held) :
    p.Spares f (· = d) (returnToOpen f d p) ∧
    ((returnToOpen f d p).face f).doors[d.val].stance = (p.face f).doors[d.val].returned.stance := by
  have changed := changedOut_spares free d .order fun x => { x.standOpen x.partialOpen with forced := false }
  rw [Door.returned_warned h]
  unfold returnToOpen
  split
  · exact changed
  · exact changed
  · exact changed
  · next preClose held _ => exact absurd h (by rintro (s | s); exacts [preClose s, held s])

theorem withdrawDoor_spares : p.Spares f (· = d) (withdrawDoor f d p) := by
  have left : p.Spares f (· = d) (leaveOperation f d .excluded p) := .modFace free rfl fun _ _ => rfl
  unfold withdrawDoor
  split
  · exact left.trans (changedOut_spares left.free d _ _).1
  · exact left.trans (changedOut_spares left.free d _ _).1
  · exact .rfl' free

end

/-! ### One operation over the doors in given states -/

theorem doorsIn_nodup (r : FaceRec) (states : List DoorState) : (r.doorsIn states).Nodup :=
  ((List.nodup_finRange 24).filter _).filter _

theorem mem_doorsIn {r : FaceRec} {states : List DoorState} {d : DoorIx} :
    d ∈ r.doorsIn states ↔ r.configured d = true ∧ r.doors[d.val].state ∈ states := by
  simp [FaceRec.doorsIn, mem_configuredDoors]

/-- An operation that changes of the doors its own alone changes those of a list. -/
theorem forDoors_spared {f : Face} {op : DoorIx → Part → Part} {p : Part} (free : p.queueFree f)
    (one : ∀ (d : DoorIx) (q : Part), q.queueFree f → q.Spares f (· = d) (op d q)) (ds : List DoorIx) :
    p.Spares f (· ∈ ds) (forDoors ds op p) := by
  induction ds generalizing p with
  | nil => exact .rfl' free
  | cons d ds ih =>
    have step := one d p free
    exact (step.mono fun e same => same ▸ List.mem_cons_self).trans ((ih step.free).mono fun e => List.mem_cons_of_mem d)

/-- An operation that changes of the doors its own alone, where the door's state is one of those given, changes the doors
of a list of different ones each once. -/
theorem forDoors_spares {f : Face} {op : DoorIx → Part → Part} {φ : Door → Door} {states : List DoorState}
    (commutes : ∀ x : Door, (φ x.stance).stance = (φ x).stance)
    (one : ∀ (d : DoorIx) (q : Part), q.queueFree f → (q.face f).doors[d.val].state ∈ states →
      q.Spares f (· = d) (op d q) ∧ ((op d q).face f).doors[d.val].stance = (φ (q.face f).doors[d.val]).stance)
    {ds : List DoorIx} (each : ds.Nodup) {p : Part} (free : p.queueFree f)
    (inside : ∀ d ∈ ds, (p.face f).doors[d.val].state ∈ states) :
    p.Spares f (· ∈ ds) (forDoors ds op p) ∧
    ∀ d ∈ ds, ((forDoors ds op p).face f).doors[d.val].stance = (φ (p.face f).doors[d.val]).stance := by
  induction ds generalizing p with
  | nil => exact ⟨.rfl' free, nofun⟩
  | cons d ds ih =>
    obtain ⟨apart, each⟩ := List.nodup_cons.mp each
    obtain ⟨step, own⟩ := one d p free (inside d List.mem_cons_self)
    have before (e : DoorIx) (mem : e ∈ ds) := step.doors e fun same => apart (same ▸ mem)
    obtain ⟨rest, others⟩ := ih each step.free fun e mem => by
      rw [show ((op d p).face f).doors[e.val].state = (p.face f).doors[e.val].state from (congrArg Door.state (before e mem) :)]
      exact inside e (List.mem_cons_of_mem d mem)
    refine ⟨(step.mono fun e same => same ▸ List.mem_cons_self).trans (rest.mono fun e => List.mem_cons_of_mem d),
      fun e mem => ?_⟩
    rcases List.mem_cons.mp mem with rfl | mem
    · exact (rest.doors e apart).trans own
    · refine (others e mem).trans ?_
      rw [← commutes, before e mem, commutes]

/-- The same over all configured doors in the given states, where those in others stand. -/
theorem forDoorsIn_spares {f : Face} {op : DoorIx → Part → Part} {φ : Door → Door} {states : List DoorState}
    (commutes : ∀ x : Door, (φ x.stance).stance = (φ x).stance)
    (one : ∀ (d : DoorIx) (q : Part), q.queueFree f → (q.face f).doors[d.val].state ∈ states →
      q.Spares f (· = d) (op d q) ∧ ((op d q).face f).doors[d.val].stance = (φ (q.face f).doors[d.val]).stance)
    (other : ∀ x : Door, x.state ∉ states → φ x = x) {p : Part} (free : p.queueFree f) :
    p.Spares f (fun _ => True) (forDoors ((p.face f).doorsIn states) op p) ∧
    ∀ d : DoorIx, (p.face f).configured d = true →
      ((forDoors ((p.face f).doorsIn states) op p).face f).doors[d.val].stance = (φ (p.face f).doors[d.val]).stance := by
  obtain ⟨spares, own⟩ := forDoors_spares commutes one (doorsIn_nodup _ states) free fun d mem => (mem_doorsIn.mp mem).2
  refine ⟨spares.mono fun _ _ => trivial, fun d set => ?_⟩
  by_cases moves : (p.face f).doors[d.val].state ∈ states
  · exact own d (mem_doorsIn.mpr ⟨set, moves⟩)
  · rw [spares.doors d fun mem => moves (mem_doorsIn.mp mem).2, other _ moves]

end Sys2Proof.Machine

namespace Sys2Proof.Machine

/-! ### The end of an operation in ROLLING (R101, R111) -/

section
variable {f : Face} {p : Part} (rolls : (p.face f).berth.state = .rolling)
include rolls

/-- A CLOSE that ends in ROLLING clears no train (R30). -/
theorem closeEndNotice_rolling : closeEndNotice f p = p := by
  unfold closeEndNotice; simp only
  rw [if_neg]
  rintro ⟨_, s | ⟨s, _⟩⟩
  all_goals rw [rolls] at s; cases s

/-- Of the face the early end of an operation in ROLLING leaves all but the operation and the warning timer. -/
theorem endOpEarly_rolling (e : EndCause) : ∃ w, (w = (p.face f).warning ∨ w = none) ∧
    (endOpEarly f e p).face f = { p.face f with op := none, warning := w } := by
  unfold endOpEarly
  split
  · next none' => exact ⟨(p.face f).warning, .inl rfl, by rw [← none']⟩
  · next op running =>
    unfold endOp
    rw [Part.modFace_self]; simp only
    have told (q : Part) (r : Report) : ((queueReport r q).modFace f fun r => { r with op := none }).face f =
        { q.face f with op := none } := by rw [Part.modFace_self, queueReport_face]
    have still : ∀ q : Part, (q.face f).berth.state = (p.face f).berth.state → closeEndNotice f q = q := fun q same =>
      closeEndNotice_rolling (same.trans rolls)
    split
    · refine ⟨_, .inl rfl, (told _ _).trans ?_⟩
      rw [Part.modFace_self]
      next opens => rw [show op.kind = .opn from opens]
    · next closes =>
      rw [still _ (by rw [told, Part.modFace_self])]
      refine ⟨none, .inr rfl, (told _ _).trans ?_⟩
      rw [Part.modFace_self, show op.kind = .close from closes]

end

/-- An abandoned check neither runs nor stands FAILED (R133). -/
theorem abandonGap_gap (f : Face) (p : Part) :
    ((abandonGap f p).face f).gap.state ≠ .running ∧ ((abandonGap f p).face f).gap.state ≠ .failed := by
  unfold abandonGap; simp only
  split
  · rw [gapTo_state]; decide
  · rw [gapTo_state]; decide
  · next s => rw [s]; decide
  · next s => rw [s]; decide
  · next s => rw [s]; decide

theorem abandonGap_doors (f f' : Face) (p : Part) : ((abandonGap f p).face f').doors = (p.face f').doors := by
  have ended : ((p.modFace f endCycles).face f').doors = (p.face f').doors := p.modFace_keeps FaceRec.doors f f' _ fun _ => rfl
  have set (c : GapCause) (q : Part) : ((gapTo f .pending c none q).face f').doors = (q.face f').doors :=
    gapTo_view FaceRec.doors (fun _ _ => rfl) (fun _ _ => rfl) (fun _ _ => rfl) ..
  unfold abandonGap; simp only
  split
  · exact (set ..).trans ended
  · exact (set ..).trans ended
  all_goals exact ended

theorem abandonGap_work (f f' : Face) (p : Part) : ((abandonGap f p).face f').work = (p.face f').work := by
  have ended : ((p.modFace f endCycles).face f').work = (p.face f').work := p.modFace_work f f' _ fun _ => rfl
  unfold abandonGap; simp only
  split
  · exact (gapTo_work ..).trans ended
  · exact (gapTo_work ..).trans ended
  all_goals exact ended

/-! ### What the entry to ROLLING does to the doors and the face (R93, R111) -/

/-- The part at an entry to ROLLING, its doors halted, warned doors returned to OPEN. -/
def rolledDoors (f : Face) (p : Part) : Part :=
  let p := forDoors ((p.face f).doorsIn [.openQueued, .closeQueued]) (withdrawDoor f) p
  let p := forDoors ((p.face f).doorsIn [.unlocking, .opening, .closing, .reopening]) (haltingStop f) p
  forDoors ((p.face f).doorsIn [.preClose, .held]) (returnToOpen f) p

theorem sequencerRolling_eq (f : Face) (p : Part) : sequencerRolling f p =
    endOpEarly f .rolling (abandonGap f ((rolledDoors f p).modFace f fun r => { r with warning := none })) := rfl

theorem rolledDoors_standing (f : Face) (p : Part) : (rolledDoors f p).standing = p.standing := by
  simp [rolledDoors, forDoors_standing]

/-- At an entry to ROLLING the face keeps its standing, and its operation, its warning and a gap check end (R111, R133). -/
theorem sequencerRolling_face {f : Face} {p : Part} (rolls : (p.face f).berth.state = .rolling) :
    ((sequencerRolling f p).face f).standing = (p.face f).standing ∧ ((sequencerRolling f p).face f).op = none ∧
    ((sequencerRolling f p).face f).warning = none ∧ ((sequencerRolling f p).face f).gap.state ≠ .running ∧
    ((sequencerRolling f p).face f).gap.state ≠ .failed ∧
    ((sequencerRolling f p).face f).doors = ((rolledDoors f p).face f).doors := by
  rw [sequencerRolling_eq]
  have before : ((rolledDoors f p).modFace f fun r => { r with warning := none }).standing = p.standing :=
    (Part.modFace_standing _ _ _ rfl).trans (rolledDoors_standing f p)
  have standing := congrFun ((abandonGap_standing f _).trans before) f
  have warning : ((abandonGap f ((rolledDoors f p).modFace f fun r => { r with warning := none })).face f).warning = none := by
    refine (congrArg Prod.snd (abandonGap_work ..)).trans ?_
    rw [Part.modFace_self]
    rfl
  have doors := abandonGap_doors f f ((rolledDoors f p).modFace f fun r => { r with warning := none })
  obtain ⟨running, failed⟩ := abandonGap_gap f ((rolledDoors f p).modFace f fun r => { r with warning := none })
  rw [Part.modFace_self] at doors
  generalize abandonGap f ((rolledDoors f p).modFace f fun r => { r with warning := none }) = q at standing warning running failed doors
  have still : (q.face f).berth.state = .rolling := (congrArg (fun t => t.berth.state) standing :).trans rolls
  obtain ⟨w, stopped, face⟩ := endOpEarly_rolling still .rolling
  rw [face]
  refine ⟨standing, rfl, ?_, running, failed, doors⟩
  rcases stopped with rfl | rfl
  · exact warning
  · rfl

/-- The halt of a face's doors at an entry to ROLLING, with no start of the face queued (R93). -/
theorem rolledDoors_halted {f : Face} {p : Part} (free : p.queueFree f) (d : DoorIx) (set : (p.face f).configured d = true) :
    Door.Halted (p.face f).doors[d.val] ((rolledDoors f p).face f).doors[d.val] := by
  by_cases waits : (p.face f).doors[d.val].state = .openQueued ∨ (p.face f).doors[d.val].state = .closeQueued
  · exact Door.halted_of_waiting waits _
  unfold rolledDoors; simp only
  have withdrawn : p.Spares f (· ∈ (p.face f).doorsIn [.openQueued, .closeQueued])
      (forDoors ((p.face f).doorsIn [.openQueued, .closeQueued]) (withdrawDoor f) p) :=
    forDoors_spared free (fun d q k => withdrawDoor_spares k d) _
  generalize forDoors ((p.face f).doorsIn [.openQueued, .closeQueued]) (withdrawDoor f) p = q at withdrawn
  obtain ⟨halts, halted⟩ := forDoorsIn_spares (f := f) (op := haltingStop f) (φ := Door.halt)
    (states := [.unlocking, .opening, .closing, .reopening]) Door.halt_stance (fun d q k _ => haltingStop_spares k d)
    (fun x n => Door.halt_still (fun s => n (by rw [s]; decide)) fun s => n (by rcases s with s | s | s <;> rw [s] <;> decide))
    withdrawn.free
  generalize forDoors ((q.face f).doorsIn [.unlocking, .opening, .closing, .reopening]) (haltingStop f) q = t at halts halted
  obtain ⟨_, returned⟩ := forDoorsIn_spares (f := f) (op := returnToOpen f) (φ := Door.returned)
    (states := [.preClose, .held]) Door.returned_stance
    (fun d q k s => returnToOpen_spares k d (by simpa using s))
    (fun x n => Door.returned_other fun s => n (by rcases s with s | s <;> rw [s] <;> decide)) halts.free
  have own : (q.face f).doors[d.val].stance = (p.face f).doors[d.val].stance :=
    withdrawn.doors d fun mem => waits (by simpa using (mem_doorsIn.mp mem).2)
  have setq : (q.face f).configured d = true := by rw [FaceRec.configured_of_geom withdrawn.geom]; exact set
  have sett : (t.face f).configured d = true := by rw [FaceRec.configured_of_geom halts.geom]; exact setq
  refine Door.Halted.of_stance ?_
  rw [returned d sett, ← Door.returned_stance, halted d setq, ← Door.halt_stance, own, Door.halt_stance,
    Door.returned_stance]
  exact (Door.halted _).stanced

end Sys2Proof.Machine

namespace Sys2Proof.Machine

/-! ### The record set aside (R52) -/

/-- The record set aside, every configured door is UNKNOWN without overlap. -/
theorem moveAlign_standing (f : Face) (c : AlignCause) (p : Part) :
    (moveAlign f c p).standing = Function.update p.standing f
      { p.standing f with
        align := (p.face f).recordMoved c
        doors := fun d => if (p.face f).configured d then (.vUnknown, 0) else (p.standing f).doors d } := by
  have entries (d : DoorIx) : ((p.face f).recordMoved c).entryOf d = .unknown := by
    unfold FaceRec.recordMoved AlignRec.entryOf
    rw [List.getElem?_map]
    cases (p.face f).align.doors[d.val]? <;> rfl
  have written : (moveAlign f c p).standing = (writeAlign f ((p.face f).recordMoved c) p).standing := queueReport_standing _ _
  rw [written, writeAlign_standing]
  simp only [Standing.write, entries]
  rfl

theorem moveAlign_duties (f f' : Face) (c : AlignCause) (p : Part) :
    ((moveAlign f c p).face f').duties = (p.face f').duties := by
  unfold moveAlign; simp only
  rw [queueReport_face]
  exact writeAlign_duties ..

theorem moveAlign_stance (f f' : Face) (c : AlignCause) (p : Part) (d : DoorIx) :
    ((moveAlign f c p).face f').doors[d.val].stance = (p.face f').doors[d.val].stance := by
  unfold moveAlign; simp only
  rw [queueReport_face]
  exact writeAlign_stance ..

theorem moveAlign_arb (f : Face) (c : AlignCause) (p : Part) : (moveAlign f c p).arb = p.arb :=
  (arb_noticeInv p.arb).report _ _ (p.modFace_arb ..)

theorem enterBerth_arb (f : Face) (new : BerthState) (c : BerthCause) (p : Part) : (enterBerth f new c p).arb = p.arb :=
  enterBerth_inv (F := fun _ => True) (I := fun q => q.arb = p.arb)
    ⟨(arb_noticeInv p.arb).report, fun _ _ _ _ _ h => (Part.modFace_arb ..).trans h⟩ f trivial new c rfl

/-! ### What a movement makes of a face (R25, R29, R31, R32) -/

/-- A face whose train has left its stop: the berth in a new state, the record set aside (R31, R32, R52). -/
def FaceRec.left (r : FaceRec) (new : BerthState) (c : AlignCause) : Standing :=
  { r.standing.enter new with
    align := r.recordMoved c
    doors := fun d => if r.configured d then (.vUnknown, 0) else r.standing.doors d }

/-- A face whose train moves again before service: ARRIVING, the record cleared (R29, R51). -/
def FaceRec.arrivesAgain (r : FaceRec) : Standing :=
  { r.standing.enter .arriving with
    align := r.recordCleared .arriving
    doors := fun d => if r.configured d then (.vUnknown, 0) else r.standing.doors d }

/-- Movement of a served train, tested against the doors (R31, R32). -/
def FaceRec.departs (r : FaceRec) : Standing := if r.allClosed then r.left .departing .departing else r.left .rolling .rolling

/-- What a movement makes of a face while something is left in the berth. -/
def FaceRec.onward (r : FaceRec) (arrives : Bool) : Standing :=
  match r.berth.state with
  | .empty => if arrives then ((r.modBerth fun b => { b with unannounced := true }).standing.enter .arriving) else r.standing
  | .announced => if arrives then r.standing.enter .arriving else r.standing
  | .arriving | .unreckoned => (restartSettle r).standing
  | .stopped => if r.berth.served then r.departs else r.arrivesAgain
  | .serving | .cleared => r.departs
  | .rolling => if r.allClosed then r.left .departing .departing else (restartSettle r).standing
  | .departing => r.standing

/-- A movement, but for the emptying of its berth. -/
def moved (f : Face) (arrives : Bool) (p : Part) : Part :=
  let r := p.face f
  match r.berth.state with
  | .empty =>
    if arrives then
      (p.modFace f fun r => r.modBerth fun b => { b with unannounced := true }) |> enterBerth f .arriving .sensors
    else p
  | .announced => if arrives then enterBerth f .arriving .sensors p else p
  | .arriving | .unreckoned => p.modFace f restartSettle
  | .stopped =>
    if r.berth.served then if r.allClosed then enterDeparting f p else enterRolling f p
    else p |> enterBerth f .arriving .sensors |> clearAlign f .arriving
  | .serving | .cleared => if r.allClosed then enterDeparting f p else enterRolling f p
  | .rolling => if r.allClosed then enterDeparting f p else p.modFace f restartSettle
  | .departing => p

theorem movement_eq (f : Face) (arrives : Bool) (p : Part) : movement f arrives p = emptyIfVacant f (moved f arrives p) := by
  unfold movement moved; simp only
  cases (p.face f).berth.state <;> rfl

section
variable {f : Face} {p : Part}

theorem entered_face (new : BerthState) (c : BerthCause) :
    ((enterBerth f new c p).face f).standing = (p.face f).standing.enter new :=
  (congrFun (enterBerth_standing f new c p) f).trans (Function.update_self ..)

theorem entered_moved (new : BerthState) (c : AlignCause) :
    ((moveAlign f c (enterBerth f new .sensors p)).face f).standing = (p.face f).left new c := by
  have entered := entered_face (f := f) (p := p) new .sensors
  have standing := (congrFun (moveAlign_standing f c (enterBerth f new .sensors p)) f).trans (Function.update_self ..)
  have geom : ((enterBerth f new .sensors p).face f).geom = (p.face f).geom := (congrArg Standing.geom entered :)
  have align : ((enterBerth f new .sensors p).face f).align = (p.face f).align := (congrArg Standing.align entered :)
  refine standing.trans ?_
  rw [show (enterBerth f new .sensors p).standing f = (p.face f).standing.enter new from entered,
    FaceRec.configured_of_geom geom]
  unfold FaceRec.recordMoved
  rw [align]
  rfl

theorem entered_cleared :
    ((clearAlign f .arriving (enterBerth f .arriving .sensors p)).face f).standing = (p.face f).arrivesAgain := by
  have entered := entered_face (f := f) (p := p) .arriving .sensors
  have standing := (congrFun (clearAlign_standing f .arriving (enterBerth f .arriving .sensors p)) f).trans (Function.update_self ..)
  have geom : ((enterBerth f .arriving .sensors p).face f).geom = (p.face f).geom := (congrArg Standing.geom entered :)
  have align : ((enterBerth f .arriving .sensors p).face f).align = (p.face f).align := (congrArg Standing.align entered :)
  refine standing.trans ?_
  rw [show (enterBerth f .arriving .sensors p).standing f = (p.face f).standing.enter .arriving from entered,
    FaceRec.configured_of_geom geom]
  unfold FaceRec.recordCleared FaceRec.n
  rw [align, geom]
  rfl

/-- The entry to ROLLING, by the part before its doors are halted. -/
theorem enterRolling_face : ((enterRolling f p).face f).standing = (p.face f).left .rolling .rolling ∧
    ((enterRolling f p).face f).op = none ∧ ((enterRolling f p).face f).warning = none ∧
    ((enterRolling f p).face f).gap.state ≠ .running ∧ ((enterRolling f p).face f).gap.state ≠ .failed ∧
    (p.queueFree f → ∀ d : DoorIx, (p.face f).configured d = true →
      Door.Halted (p.face f).doors[d.val] ((enterRolling f p).face f).doors[d.val]) := by
  have before := entered_moved (f := f) (p := p) .rolling .rolling
  have stance (d : DoorIx) : ((moveAlign f .rolling (enterBerth f .rolling .sensors p)).face f).doors[d.val].stance =
      (p.face f).doors[d.val].stance := (moveAlign_stance ..).trans (enterBerth_stance ..)
  have arb : (moveAlign f .rolling (enterBerth f .rolling .sensors p)).arb = p.arb :=
    (moveAlign_arb ..).trans (enterBerth_arb ..)
  unfold enterRolling
  generalize moveAlign f .rolling (enterBerth f .rolling .sensors p) = q at before stance arb
  have rolls : (q.face f).berth.state = .rolling := (congrArg (fun t => t.berth.state) before :)
  have geom : (q.face f).geom = (p.face f).geom := (congrArg Standing.geom before :)
  obtain ⟨standing, op, warning, running, failed, doors⟩ := sequencerRolling_face rolls
  refine ⟨standing.trans before, op, warning, running, failed, fun free d set => ?_⟩
  have halted := rolledDoors_halted (queueFree_of_arb arb free) d (by rw [FaceRec.configured_of_geom geom]; exact set)
  rw [doors]
  refine Door.Halted.of_stance ?_
  rw [← stance d]
  exact halted.stanced

/-- A movement while something is left in the berth. -/
theorem moved_standing (arrives : Bool) : ((moved f arrives p).face f).standing = (p.face f).onward arrives := by
  have tested : ((if (p.face f).allClosed then enterDeparting f p else enterRolling f p).face f).standing = (p.face f).departs := by
    unfold FaceRec.departs
    split
    · exact entered_moved ..
    · exact enterRolling_face.1
  have restarted : ((p.modFace f restartSettle).face f).standing = (restartSettle (p.face f)).standing := by
    rw [Part.modFace_self]
  unfold moved FaceRec.onward; simp only
  cases (p.face f).berth.state
  case empty =>
    simp only
    split
    · refine (entered_face .arriving .sensors).trans ?_
      rw [Part.modFace_self]
    · rfl
  case announced =>
    simp only
    split
    · exact entered_face ..
    · rfl
  case stopped =>
    simp only
    split
    · exact tested
    · exact entered_cleared
  case rolling =>
    simp only
    split
    · exact entered_moved ..
    · exact restarted
  case departing => rfl
  case arriving => exact restarted
  case unreckoned => exact restarted
  all_goals exact tested

end

end Sys2Proof.Machine

namespace Sys2Proof.Machine

/-! ### The operation at a movement -/

/-- The face keeps its operation, or has none any more. -/
def FaceRec.keepsOp (r x : FaceRec) : Prop := x.op = r.op ∨ x.op = none

theorem FaceRec.keepsOp.quiet {r x : FaceRec} (h : r.keepsOp x) (k : r.quiet) : x.quiet := by
  unfold FaceRec.quiet
  rcases h with h | h <;> rw [h]
  · exact k
  · nofun

theorem FaceRec.keepsOp.idle {r x : FaceRec} (h : r.keepsOp x) (k : r.op = none) : x.op = none := h.elim (·.trans k) id

theorem FaceRec.keepsOp_of_work {r x : FaceRec} (h : x.work = r.work) : r.keepsOp x := .inl (congrArg Prod.fst h)

section
variable {f : Face} {p : Part}

/-- Of the operation a movement makes nothing, or its end in ROLLING (R111). -/
theorem moved_keepsOp (arrives : Bool) : (p.face f).keepsOp ((moved f arrives p).face f) := by
  have entered (new : BerthState) (q : Part) (same : (q.face f).work = (p.face f).work) :
      (p.face f).keepsOp ((enterBerth f new .sensors q).face f) :=
    FaceRec.keepsOp_of_work ((enterBerth_work ..).trans same)
  have departing : (p.face f).keepsOp ((enterDeparting f p).face f) :=
    FaceRec.keepsOp_of_work ((FaceRec.work_of_duties (moveAlign_duties ..)).trans (enterBerth_work ..))
  have tested : (p.face f).keepsOp ((if (p.face f).allClosed then enterDeparting f p else enterRolling f p).face f) := by
    split
    · exact departing
    · exact .inr enterRolling_face.2.1
  have restarted : (p.face f).keepsOp ((p.modFace f restartSettle).face f) :=
    FaceRec.keepsOp_of_work (p.modFace_work f f _ fun _ => rfl)
  have still : (p.face f).keepsOp (p.face f) := .inl rfl
  unfold moved; simp only
  cases (p.face f).berth.state
  case empty =>
    simp only
    split
    · exact entered _ _ (p.modFace_work f f _ fun _ => rfl)
    · exact still
  case announced =>
    simp only
    split
    · exact entered _ _ rfl
    · exact still
  case stopped =>
    simp only
    split
    · exact tested
    · exact FaceRec.keepsOp_of_work ((FaceRec.work_of_duties (writeAlign_duties ..)).trans (enterBerth_work ..))
  case rolling =>
    simp only
    split
    · exact departing
    · exact restarted
  case departing => exact still
  case arriving => exact restarted
  case unreckoned => exact restarted
  all_goals exact tested

/-! ### A movement to the end of its event -/

/-- A movement leaves nothing in an ARRIVING or DEPARTING berth, which gives way to EMPTY (R33). -/
def FaceRec.empties (r : FaceRec) (arrives : Bool) : Prop :=
  ((r.onward arrives).berth.state = .arriving ∨ (r.onward arrives).berth.state = .departing) ∧
    (r.onward arrives).berth.vacant = true

theorem movement_stays {arrives : Bool} (h : ¬ (p.face f).empties arrives) : movement f arrives p = moved f arrives p := by
  rw [movement_eq]
  unfold emptyIfVacant; simp only
  refine if_neg fun k => h ?_
  unfold FaceRec.empties
  rw [← moved_standing]
  exact k

theorem movement_empties {arrives : Bool} (h : (p.face f).empties arrives) :
    movement f arrives p = enterEmpty f .sensors (moved f arrives p) := by
  rw [movement_eq]
  unfold emptyIfVacant; simp only
  refine if_pos ?_
  unfold FaceRec.empties at h
  rw [← moved_standing] at h
  exact h

theorem settle_movement_stays {arrives : Bool} (quiet : (p.face f).quiet) (h : ¬ (p.face f).empties arrives) :
    ((settle (movement f arrives p)).face f).standing = (p.face f).onward arrives := by
  rw [movement_stays h]
  exact (settle_rests ((moved_keepsOp arrives).quiet quiet)).standing.trans (moved_standing arrives)

/-- What the sensors hold of a berth: its filters and decoders, and the dwell. -/
def Berth.seen (b : Berth) : List Filter × AxleUnit × AxleUnit × Byte := (b.detectors, b.entry, b.exit, b.dwell)

theorem FaceRec.onward_seen (r : FaceRec) (arrives : Bool) : (r.onward arrives).berth.seen = r.berth.seen := by
  unfold FaceRec.onward FaceRec.departs
  repeat' split
  all_goals rfl

/-- Whatever a movement makes of the berth, its filters and decoders stand, with any operation. -/
theorem settle_movement_seen (f : Face) (arrives : Bool) (p : Part) :
    ((settle (movement f arrives p)).face f).berth.seen = (p.face f).berth.seen := by
  have before : ((moved f arrives p).face f).berth.seen = (p.face f).berth.seen :=
    (congrArg (fun t => t.berth.seen) (moved_standing arrives)).trans ((p.face f).onward_seen arrives)
  have same : ((movement f arrives p).face f).berth.seen = ((moved f arrives p).face f).berth.seen := by
    by_cases h : (p.face f).empties arrives
    · have outline := congrFun (show outlines (enterEmpty f .sensors (moved f arrives p)).standing =
          outlines (emptied f .sensors (moved f arrives p)).standing by rw [enterEmpty_eq]; simp) f
      rw [movement_empties h]
      rw [emptied_standing, outlines, outlines, Function.update_self] at outline
      exact (congrArg (fun t => t.berth.seen) outline :)
    · rw [movement_stays h]
  have ends := congrFun (settle_outlines (movement f arrives p)) f
  exact ((congrArg (fun t => t.berth.seen) ends :).trans same).trans before

/-- The entry to EMPTY at a movement of a face with no operation in flight, seen from a face of which it started. -/
theorem settle_movement_emptied {r : FaceRec} {arrives : Bool} (idle : (p.face f).op = none) (geom : (p.face f).geom = r.geom)
    (dwell : (p.face f).berth.dwell = r.berth.dwell) (align : (p.face f).align = r.align) (h : (p.face f).empties arrives) :
    r.Emptied ((settle (movement f arrives p)).face f) := by
  have standing := moved_standing (f := f) (p := p) arrives
  rw [movement_empties h]
  refine emptied_of_enterEmpty ((moved_keepsOp arrives).idle idle) ?_ ?_ ?_ _
  · refine (congrArg Standing.geom standing :).trans (Eq.trans ?_ geom)
    unfold FaceRec.onward FaceRec.departs
    repeat' split
    all_goals rfl
  · exact ((congrArg (fun t => t.berth.seen.2.2.2) standing).trans
      (congrArg (·.2.2.2) ((p.face f).onward_seen arrives))).trans dwell
  · refine (congrArg (fun t => t.align.dwell) standing :).trans (Eq.trans ?_ (congrArg AlignRec.dwell align))
    unfold FaceRec.onward FaceRec.departs
    repeat' split
    all_goals rfl

end

end Sys2Proof.Machine

namespace Sys2Proof.Machine

/-! ### A movement, state by state of the berth (R25, R29, R31, R32) -/

theorem FaceRec.allClosed_iff (r : FaceRec) : r.allClosed = true ↔ r.shutUp := by
  simp [FaceRec.allClosed, FaceRec.shutUp, mem_configuredDoors]

section
variable {r : FaceRec} (arrives : Bool)

/-- A movement leaves the count, OVERRUN and the pattern. -/
theorem FaceRec.onward_counts (r : FaceRec) : (r.onward arrives).berth.axles = r.berth.axles ∧
    (r.onward arrives).berth.overrun = r.berth.overrun ∧ (r.onward arrives).berth.vacant = r.berth.vacant := by
  unfold FaceRec.onward FaceRec.departs
  repeat' split
  all_goals exact ⟨rfl, rfl, rfl⟩

theorem FaceRec.onward_restarts (h : r.berth.state = .arriving ∨ r.berth.state = .unreckoned) :
    r.onward arrives = (restartSettle r).standing := by
  unfold FaceRec.onward
  rcases h with h | h <;> rw [h]

theorem FaceRec.onward_unserved (h : r.berth.state = .stopped) (unserved : r.berth.served = false) :
    r.onward arrives = r.arrivesAgain := by
  unfold FaceRec.onward; simp only [h, unserved]; rfl

theorem FaceRec.onward_shut (h : r.berth.underTest) (shut : r.allClosed = true) :
    r.onward arrives = r.left .departing .departing := by
  unfold FaceRec.onward FaceRec.departs
  rcases h with ⟨h, served⟩ | h | h | h
  · simp only [h, served, shut, if_true]
  all_goals simp only [h, shut, if_true]

theorem FaceRec.onward_rollsOn (h : r.berth.state = .rolling) (ajar : ¬ r.allClosed = true) :
    r.onward arrives = (restartSettle r).standing := by
  unfold FaceRec.onward; simp only [h, ajar]; rfl

theorem FaceRec.onward_leaving (h : r.berth.state = .departing) : r.onward arrives = r.standing := by
  unfold FaceRec.onward; simp only [h]

/-- A served train that moves with a door not shut enters ROLLING. -/
theorem movement_rolling {f : Face} {p : Part} (h : (p.face f).berth.underTest) (fresh : (p.face f).berth.state ≠ .rolling)
    (ajar : ¬ (p.face f).allClosed = true) : movement f arrives p = enterRolling f p := by
  have rolls : moved f arrives p = enterRolling f p := by
    unfold moved
    rcases h with ⟨h, served⟩ | h | h | h
    · simp only [h, served, ajar, if_true]; rfl
    · simp only [h, ajar]; rfl
    · simp only [h, ajar]; rfl
    · exact absurd h fresh
  have onward := moved_standing (f := f) (p := p) arrives
  rw [rolls, enterRolling_face.1] at onward
  refine (movement_stays fun ⟨state, _⟩ => ?_).trans rolls
  rw [← onward] at state
  exact state.elim nofun nofun

/-- A movement that leaves nothing in the berth empties it, but for ROLLING with a door not shut and UNRECKONED (R29, R33). -/
theorem FaceRec.empties_of_vacant (vacant : r.berth.vacant = true) (h : r.berth.state = .arriving ∨
    (r.berth.state = .stopped ∧ r.berth.served = false) ∨ (r.berth.underTest ∧ r.allClosed = true) ∨
      r.berth.state = .departing) : r.empties arrives := by
  refine ⟨?_, (r.onward_counts arrives).2.2.trans vacant⟩
  rcases h with h | ⟨h, unserved⟩ | ⟨h, shut⟩ | h
  · rw [FaceRec.onward_restarts arrives (.inl h)]; exact .inl h
  · rw [FaceRec.onward_unserved arrives h unserved]; exact .inl rfl
  · rw [FaceRec.onward_shut arrives h shut]; exact .inr rfl
  · rw [FaceRec.onward_leaving arrives h]; exact .inr h

end

/-! ### A movement, seen from the face before its event -/

theorem FaceRec.verdictsUnknown_of {r x : FaceRec} {v : DoorIx → Verdict × Nat} (geom : x.geom = r.geom)
    (h : x.standing.doors = fun d => if r.configured d then (.vUnknown, 0) else v d) : x.verdictsUnknown := fun d set => by
  have judged := congrFun h d
  rw [FaceRec.configured_of_geom geom] at set
  simp only [set, if_true] at judged
  exact ⟨congrArg Prod.fst judged, congrArg Prod.snd judged⟩

theorem FaceRec.left_of {r x : FaceRec} {b : Berth} {new : BerthState} {c : AlignCause}
    (h : x.standing = ({ r with berth := b } : FaceRec).left new c) : x.berth.state = new ∧
    x.berth.settle = (r.standing.enter new).berth.settle ∧ x.align = r.recordMoved c ∧ x.verdictsUnknown :=
  ⟨(congrArg (fun t => t.berth.state) h :), (congrArg (fun t => t.berth.settle) h :), (congrArg Standing.align h :),
    FaceRec.verdictsUnknown_of (congrArg Standing.geom h :) (congrArg Standing.doors h :)⟩

theorem FaceRec.arrivesAgain_of {r x : FaceRec} {b : Berth} (h : x.standing = ({ r with berth := b } : FaceRec).arrivesAgain) :
    x.berth.state = .arriving ∧ x.berth.settle = some r.params.tSettle ∧ x.align = r.recordCleared .arriving ∧
      x.verdictsUnknown :=
  ⟨(congrArg (fun t => t.berth.state) h :), (congrArg (fun t => t.berth.settle) h :), (congrArg Standing.align h :),
    FaceRec.verdictsUnknown_of (congrArg Standing.geom h :) (congrArg Standing.doors h :)⟩

theorem FaceRec.restarts_of {r x : FaceRec} {b : Berth} (h : x.standing = (restartSettle { r with berth := b }).standing) :
    x.berth.state = b.state ∧ x.berth.settle = some r.params.tSettle ∧ x.align = r.align :=
  ⟨(congrArg (fun t => t.berth.state) h :), (congrArg (fun t => t.berth.settle) h :), (congrArg Standing.align h :)⟩

section
variable {f : Face} {p : Part} {r : FaceRec} {b : Berth} (face : p.face f = { r with berth := b })
  (state : b.state = r.berth.state) (served : b.served = r.berth.served) (arrives : Bool)
include state served

theorem underTest_iff : ({ r with berth := b } : FaceRec).berth.underTest ↔ r.berth.underTest := by
  unfold Berth.underTest
  simp only [state, served]

include face

theorem movement_rolling_of (h : r.berth.underTest) (fresh : r.berth.state ≠ .rolling) (ajar : ¬ r.shutUp) :
    movement f arrives p = enterRolling f p := by
  refine movement_rolling arrives ?_ ?_ ?_
  all_goals rw [face]
  · exact (underTest_iff state served).mpr h
  · exact state ▸ fresh
  · exact fun k => ajar ((FaceRec.allClosed_iff _).mp k)

omit state served in
/-- A face that enters ROLLING: its operation, its warning and a gap check end (R111, R133). -/
theorem enters_of_rolling (rolls : movement f arrives p = enterRolling f p) :
    ((settle (movement f arrives p)).face f).berth.state = .rolling ∧
    ((settle (movement f arrives p)).face f).berth.settle = some r.params.tSettle ∧
    ((settle (movement f arrives p)).face f).align = r.recordMoved .rolling ∧
    ((settle (movement f arrives p)).face f).verdictsUnknown ∧ ((settle (movement f arrives p)).face f).op = none ∧
    ((settle (movement f arrives p)).face f).warning = none ∧
    ((settle (movement f arrives p)).face f).gap.state ≠ .running ∧
    ((settle (movement f arrives p)).face f).gap.state ≠ .failed := by
  obtain ⟨standing, op, warning, running, failed, _⟩ := enterRolling_face (f := f) (p := p)
  rw [rolls]
  have ends := settle_rests (FaceRec.quiet_of_none op)
  rw [face] at standing
  obtain ⟨rolls, settles, align, verdicts⟩ := FaceRec.left_of (ends.standing.trans standing)
  have gap := ends.gap failed
  exact ⟨rolls, settles, align, verdicts, ends.op.trans op, ends.warning.trans warning, by rwa [gap], by rwa [gap]⟩

/-- A movement of a face of which the event has so far changed the berth record alone, with something left in the berth. -/
theorem movedOn_of_movement (timed : r.berth.state = .departing → b.settle = r.berth.settle) (quiet : r.quiet)
    (held : ¬ b.vacant = true) : r.MovedOn ((settle (movement f arrives p)).face f) := by
  have stays : ¬ (p.face f).empties arrives := fun k => held (by
    have left := ((p.face f).onward_counts arrives).2.2.symm.trans k.2
    rwa [face] at left)
  have standing := settle_movement_stays (by rw [face]; exact quiet) stays
  have entered (h : r.berth.underTest) (fresh : r.berth.state ≠ .rolling) (ajar : ¬ r.shutUp) :=
    enters_of_rolling face arrives (movement_rolling_of face state served arrives h fresh ajar)
  rw [face] at standing
  generalize (settle (movement f arrives p)).face f = x at standing entered
  have restarts (h : ({ r with berth := b } : FaceRec).onward arrives = (restartSettle { r with berth := b }).standing) :=
    FaceRec.restarts_of (standing.trans h)
  constructor
  · intro arriving
    obtain ⟨at', settles, align⟩ := restarts (FaceRec.onward_restarts _ (.inl (state.trans arriving)))
    exact ⟨at'.trans (state.trans arriving), settles, align⟩
  · intro stopped unserved
    exact FaceRec.arrivesAgain_of (standing.trans (FaceRec.onward_unserved _ (state.trans stopped) (served.trans unserved)))
  · intro under shut
    exact FaceRec.left_of (standing.trans (FaceRec.onward_shut _ ((underTest_iff state served).mpr under)
      ((FaceRec.allClosed_iff _).mpr shut)))
  · exact entered
  · intro rolling ajar
    obtain ⟨at', settles, align⟩ := restarts (FaceRec.onward_rollsOn _ (state.trans rolling)
      fun k => ajar ((FaceRec.allClosed_iff _).mp k))
    exact ⟨at'.trans (state.trans rolling), settles, align⟩
  · intro departing
    have leaves := standing.trans (FaceRec.onward_leaving _ (state.trans departing))
    exact ⟨(congrArg (fun t => t.berth.state) leaves :).trans (state.trans departing),
      (congrArg (fun t => t.berth.settle) leaves :).trans (timed departing)⟩
  · intro found
    obtain ⟨at', settles, _⟩ := restarts (FaceRec.onward_restarts _ (.inr (state.trans found)))
    exact ⟨at'.trans (state.trans found), settles⟩

/-- A movement of a face of which the event has so far changed the berth record alone. -/
theorem movement_of_movement (dwell : b.dwell = r.berth.dwell)
    (timed : r.berth.state = .departing → b.settle = r.berth.settle) (quiet : r.quiet) {vacant : Prop} (gone : b.vacant = true ↔ vacant) :
    r.Movement vacant (p.queueFree f) ((settle (movement f arrives p)).face f) := by
  refine ⟨fun held => movedOn_of_movement face state served arrives timed quiet (mt gone.mp held), fun none' idle why => ?_,
    fun free under fresh ajar d set => ?_⟩
  · refine settle_movement_emptied (by rw [face]; exact idle) (by rw [face]) (by rw [face]; exact dwell) (by rw [face]) ?_
    rw [face]
    refine FaceRec.empties_of_vacant _ (gone.mpr none') ?_
    rw [underTest_iff state served, FaceRec.allClosed_iff]
    simp only [state, served]
    exact why
  · rw [movement_rolling_of face state served arrives under fresh ajar]
    have halted := (enterRolling_face (f := f) (p := p)).2.2.2.2.2 free d (by rw [face]; exact set)
    rw [face] at halted
    refine Door.Halted.of_stance ?_
    rw [Fin.getElem_fin, Fin.getElem_fin, Door.stance_of_core (settle_doors f (enterRolling f p) d)]
    exact halted.stanced

end

end Sys2Proof.Machine

namespace Sys2Proof.Machine

/-! ### One sample of a stop detector (R24, R25, R27) -/

/-- A berth record with one detector's filter in place. -/
def Berth.setDetector (i : Nat) (x : Filter) (b : Berth) : Berth := { b with detectors := b.detectors.set i x }

theorem Berth.setDetector_occupied {i : Nat} {b : Berth} (h : i < b.detectors.length) :
    ¬ (b.setDetector i (.taken true)).vacant = true := by
  rw [Berth.vacant_iff, Berth.allClear_iff]
  exact fun k => absurd (k.2 (.taken true) (List.mem_set h _)) nofun

section
variable {f : Face} {i : Fin 16} {occupied : Bool} {p : Part} {x : Filter}
  (held : (p.face f).berth.detectors[i.val]? = some x)
include held

theorem detectorSample_passed (h : ¬ x.Accepts (p.face f).params.fAxle occupied) : detectorSample f i occupied p =
    p.modFace f fun r => r.modBerth (Berth.setDetector i.val (x.passed occupied)) := by
  unfold detectorSample; simp only [held, Filter.sample_passed h]
  rfl

theorem detectorSample_taken (h : x.Accepts (p.face f).params.fAxle occupied) : detectorSample f i occupied p =
    movement f occupied (p.modFace f fun r => r.modBerth (Berth.setDetector i.val (.taken occupied))) := by
  unfold detectorSample; simp only [held, Filter.sample_taken h]
  rfl

end

/-- What a movement by arrival makes of a face: ARRIVING, with the settle timer running (R25, R27). -/
theorem FaceRec.onward_arrives {r : FaceRec} (h : r.berth.state = .empty ∨ r.berth.state = .announced ∨ r.berth.state = .arriving) :
    (r.onward true).berth.state = .arriving ∧ (r.onward true).berth.settle = some r.params.tSettle ∧
    (r.onward true).berth.unannounced = if r.berth.state = .empty then true else r.berth.unannounced := by
  unfold FaceRec.onward
  rcases h with h | h | h
  all_goals simp only [h]
  · exact ⟨rfl, rfl, rfl⟩
  · exact ⟨rfl, rfl, rfl⟩
  · exact ⟨h, rfl, rfl⟩

end Sys2Proof.Machine

namespace Sys2Proof.Proofs

open Sys2Proof.Machine

/-- Settles O28: an accepted sample is the movement of the face with that detector's filter in place. -/
theorem detectorSample : Obligations.DetectorSample := by
  intro f i occupied s x settled here held
  refine ⟨fun passed => congrArg Host.Outcome.next (faceEvent_berth settled here (detectorSample_passed held passed)),
    fun taken => ⟨_, rfl, ?_⟩⟩
  have inside : i.val < (s.part.face f).berth.detectors.length := (List.getElem?_eq_some_iff.mp held).1
  have face : (s.part.modFace f fun r => r.modBerth (Berth.setDetector i.val (.taken occupied))).face f =
      (s.part.face f).modBerth (Berth.setDetector i.val (.taken occupied)) := Part.modFace_self ..
  have seen := settle_movement_seen f occupied (s.part.modFace f fun r => r.modBerth (Berth.setDetector i.val (.taken occupied)))
  have quiet := (settled.faces f).even.op
  rw [faceEvent_eq settled here, detectorSample_taken held taken, transmit_face]
  refine ⟨(congrArg Prod.fst seen).trans (by rw [face]; rfl), fun arrives state => ?_, fun _ _ _ => ?_⟩
  · subst arrives
    have stays : ¬ ((s.part.modFace f fun r => r.modBerth (Berth.setDetector i.val (.taken true))).face f).empties true := by
      rintro ⟨_, vacant⟩
      rw [FaceRec.onward_counts _ _ |>.2.2, face] at vacant
      exact Berth.setDetector_occupied inside vacant
    have standing := settle_movement_stays (by rw [face]; exact quiet) stays
    rw [face] at standing
    obtain ⟨arriving, settles, unannounced⟩ := FaceRec.onward_arrives
      (r := (s.part.face f).modBerth (Berth.setDetector i.val (.taken true))) state
    have unannounced := (congrArg (fun t => t.berth.unannounced) standing :).trans unannounced
    exact ⟨(congrArg (fun t => t.berth.state) standing :).trans arriving,
      (congrArg (fun t => t.berth.settle) standing :).trans settles, fun empty => unannounced.trans (if_pos empty),
      fun other => unannounced.trans (if_neg other)⟩
  · have moves := movement_of_movement (r := s.part.face f) (b := (s.part.face f).berth.setDetector i.val (.taken occupied))
      face rfl rfl occupied rfl (fun _ => rfl) quiet ((Berth.vacant_iff _).trans (and_congr_right fun _ => Berth.allClear_iff _))
    unfold Part.queueFree at moves
    rw [Part.modFace_arb] at moves
    exact moves

end Sys2Proof.Proofs

namespace Sys2Proof.Machine

/-! ### A counted axle (R21, R22, R23) -/

/-- The berth record as a counted axle leaves it before its movement. -/
def Berth.afterAxle (sensor : AxleSensor) (dir : AxleDir) (b : Berth) : Berth :=
  overrunAt sensor dir { b with axles := b.counted dir }

section
variable (sensor : AxleSensor) (dir : AxleDir) (b : Berth)

@[simp] theorem Berth.afterAxle_axles : (b.afterAxle sensor dir).axles = b.counted dir := overrunAt_axles ..
@[simp] theorem Berth.afterAxle_state : (b.afterAxle sensor dir).state = b.state := overrunAt_state ..
@[simp] theorem Berth.afterAxle_detectors : (b.afterAxle sensor dir).detectors = b.detectors := overrunAt_detectors ..

theorem Berth.afterAxle_kept : (b.afterAxle sensor dir).seen = b.seen ∧ (b.afterAxle sensor dir).served = b.served ∧
    (b.afterAxle sensor dir).settle = b.settle := by
  unfold Berth.afterAxle overrunAt
  split <;> exact ⟨rfl, rfl, rfl⟩

/-- OVERRUN by an outward count at the exit sensor (R22). -/
theorem Berth.afterAxle_overrun : (b.afterAxle sensor dir).overrun = true ↔ b.overrun = true ∨
    (sensor = .exit ∧ dir = .outward ∧ (b.state = .arriving ∨ b.state = .stopped)) := by
  unfold Berth.afterAxle overrunAt
  split
  · next s => exact iff_of_true rfl (.inr ⟨rfl, rfl, .inl s⟩)
  · next s => exact iff_of_true rfl (.inr ⟨rfl, rfl, .inr s⟩)
  · next arriving stopped =>
    refine (or_iff_left ?_).symm
    rintro ⟨rfl, rfl, s | s⟩
    · exact arriving rfl rfl s
    · exact stopped rfl rfl s

theorem Berth.countsHeld_iff : b.countsHeld = true ↔ b.state = .unreckoned ∧ b.ann = none := by
  simp [Berth.countsHeld]

variable {b}

theorem Berth.counted_held (h : b.state = .unreckoned ∧ b.ann = none) : b.counted dir = b.axles :=
  if_pos (b.countsHeld_iff.mpr h)

theorem Berth.counted_inward (h : ¬ (b.state = .unreckoned ∧ b.ann = none)) :
    b.counted .inward = if b.axles < 255 then b.axles + 1 else b.axles := by
  unfold Berth.counted
  rw [if_neg (mt b.countsHeld_iff.mp h)]
  simp only
  split <;> split <;> omega

theorem Berth.counted_outward (h : ¬ (b.state = .unreckoned ∧ b.ann = none)) : b.counted .outward = b.axles - 1 :=
  if_neg (mt b.countsHeld_iff.mp h)

/-- What a counted axle makes of the count, in one (R21). -/
theorem Berth.counted_eq : b.counted dir =
    if b.state = .unreckoned ∧ b.ann = none then b.axles
    else if some dir = some AxleDir.inward then (if b.axles < 255 then b.axles + 1 else b.axles) else b.axles - 1 := by
  by_cases h : b.state = .unreckoned ∧ b.ann = none
  · rw [if_pos h, Berth.counted_held dir h]
  · rw [if_neg h]
    cases dir with
    | inward => rw [if_pos rfl, Berth.counted_inward h]
    | outward => rw [if_neg nofun, Berth.counted_outward h]

theorem Berth.afterAxle_vacant : (b.afterAxle sensor dir).vacant = true ↔ b.counted dir = 0 ∧ b.allClear = true := by
  rw [Berth.vacant_iff, Berth.allClear_iff, Berth.allClear_iff, Berth.afterAxle_axles, Berth.afterAxle_detectors]

end

/-- The part as a counted axle's movement finds it: the wake, the count and OVERRUN (R21, R22, R153). -/
def axleTaken (f : Face) (sensor : AxleSensor) (dir : AxleDir) (p : Part) : Part :=
  (countAxle f sensor dir (if sensor = .entry ∧ dir = .inward then wakeFace f p else p)).modFace f fun r =>
    r.modBerth (overrunAt sensor dir)

section
variable {f : Face} {p : Part} (sensor : AxleSensor) (dir : AxleDir)

/-- The part that a counted axle finds, woken or not. -/
theorem axleWoken_face : ((if sensor = .entry ∧ dir = .inward then wakeFace f p else p).face f).standing = (p.face f).standing ∧
    ((if sensor = .entry ∧ dir = .inward then wakeFace f p else p).face f).work = (p.face f).work := by
  split
  · exact ⟨congrFun (wakeFace_standing f p) f, wakeFace_work ..⟩
  · exact ⟨rfl, rfl⟩

theorem axleTaken_of (q : Part) : ((countAxle f sensor dir q).modFace f fun r => r.modBerth (overrunAt sensor dir)).face f =
    { q.face f with berth := (q.face f).berth.afterAxle sensor dir } := by
  rw [Part.modFace_self, countAxle_face, Part.modFace_self]
  rfl

theorem axleTaken_face : ((axleTaken f sensor dir p).face f).standing =
      { (p.face f).standing with berth := (p.face f).berth.afterAxle sensor dir } ∧
    ((axleTaken f sensor dir p).face f).work = (p.face f).work := by
  obtain ⟨standing, work⟩ := axleWoken_face (f := f) (p := p) sensor dir
  unfold axleTaken
  rw [axleTaken_of]
  refine ⟨?_, work⟩
  exact congrArg (fun t : Standing => { t with berth := t.berth.afterAxle sensor dir }) standing

theorem axleCounted_eq : axleCounted f sensor dir p =
    movement f (decide ((p.face f).berth.counted dir > (p.face f).berth.axles)) (axleTaken f sensor dir p) := by
  obtain ⟨standing, _⟩ := axleWoken_face (f := f) (p := p) sensor dir
  obtain ⟨taken, _⟩ := axleTaken_face (f := f) (p := p) sensor dir
  have before : ((if sensor = .entry ∧ dir = .inward then wakeFace f p else p).face f).berth.axles = (p.face f).berth.axles :=
    (congrArg (fun t => t.berth.axles) standing :)
  have after : ((axleTaken f sensor dir p).face f).berth.axles = (p.face f).berth.counted dir :=
    (congrArg (fun t => t.berth.axles) taken :).trans (Berth.afterAxle_axles ..)
  rw [← after, ← before]
  rfl

section
variable (awake : (p.face f).mode.mode ≠ .standby)
include awake

theorem axleTaken_awake : axleTaken f sensor dir p =
    (countAxle f sensor dir p).modFace f fun r => r.modBerth (overrunAt sensor dir) := by
  unfold axleTaken
  rw [show wakeFace f p = p from if_neg awake, ite_self]

/-- Outside STANDBY a counted axle changes of the face the berth record alone. -/
theorem axleTaken_berth : (axleTaken f sensor dir p).face f = { p.face f with berth := (p.face f).berth.afterAxle sensor dir } := by
  rw [axleTaken_awake sensor dir awake, axleTaken_of]

theorem axleTaken_arb : (axleTaken f sensor dir p).arb = p.arb := by
  have hI := arb_noticeInv p.arb
  rw [axleTaken_awake sensor dir awake, Part.modFace_arb]
  unfold countAxle queueAxleFault; simp only
  split
  · rfl
  · split
    all_goals
      split
      · exact hI.report _ _ rfl
      · exact p.modFace_arb ..

end

/-! ### The faults of a count (R21, R23) -/

/-- The AXLE_FAULT report of a face whose berth stands in a record. -/
def axleFaultOf (f : Face) (sensor : AxleSensor) (why : AxleFault) (m : Option (AxlePos × AxlePos)) (b : Berth) : Report :=
  .axleFault f ⟨sensor, why, b.state, b.axles, b.dwell, m⟩

theorem queueAxleFault_told (why : AxleFault) (m : Option (AxlePos × AxlePos)) :
    (queueAxleFault f sensor why m p).told (axleFaultOf f sensor why m (p.face f).berth) := queueReport_told _ _

/-- What a counted axle is told of, its movement and the end of its event keep. -/
theorem settle_axleCounted_told {x : Report} (h : x.doorKey = none) (k : p.told x) : (settle (axleCounted f sensor dir p)).told x :=
  settle_told h (axleCounted_closed (told_closed (Report.sameDoor_other h)) f trivial k sensor dir)

/-- A count beyond its range is told of (R21). -/
theorem settle_axleCounted_fault {why : AxleFault} (free : ¬ ((p.face f).berth.state = .unreckoned ∧ (p.face f).berth.ann = none))
    (h : (dir = .inward ∧ 255 ≤ (p.face f).berth.axles ∧ why = .overflow) ∨
      (dir = .outward ∧ (p.face f).berth.axles = 0 ∧ why = .underflow)) :
    (settle (axleCounted f sensor dir p)).told (axleFaultOf f sensor why none (p.face f).berth) := by
  have C := told_closed (x := axleFaultOf f sensor why none (p.face f).berth) (Report.sameDoor_other rfl)
  obtain ⟨standing, _⟩ := axleWoken_face (f := f) (p := p) sensor dir
  have berth := congrArg Standing.berth standing
  rw [axleCounted_eq]
  refine settle_told rfl (movement_closed C f trivial (modBerth_closed C f trivial ?_ _) _)
  generalize (if sensor = .entry ∧ dir = .inward then wakeFace f p else p) = q at berth
  have berth : (q.face f).berth = (p.face f).berth := berth
  rw [← berth] at free h ⊢
  have told : countAxle f sensor dir q = queueAxleFault f sensor why none q := by
    unfold countAxle; simp only
    rw [if_neg (mt (Berth.countsHeld_iff _).mp free)]
    rcases h with ⟨rfl, full, rfl⟩ | ⟨rfl, none', rfl⟩
    · exact if_pos full
    · exact if_pos none'
  rw [told]
  exact queueAxleFault_told sensor why none

end

/-! ### A counted axle to the end of its event -/

/-- In an EMPTY berth nothing that leaves is a movement (R25). -/
theorem FaceRec.onward_waits {r : FaceRec} (h : r.berth.state = .empty) : r.onward false = r.standing := by
  unfold FaceRec.onward; simp only [h]; rfl

section
variable {f : Face} {p : Part} (sensor : AxleSensor) (dir : AxleDir)

theorem settle_axleCounted_seen : ((settle (axleCounted f sensor dir p)).face f).berth.seen = (p.face f).berth.seen := by
  rw [axleCounted_eq, settle_movement_seen]
  exact (congrArg (fun t => t.berth.seen) (axleTaken_face sensor dir).1).trans (Berth.afterAxle_kept ..).1

variable (quiet : (p.face f).quiet)
include quiet

/-- Where the count leaves something in the berth, or the berth is one that nothing empties, the face stands as the
movement of the count leaves it. -/
theorem settle_axleCounted_stays (stays : ¬ ((p.face f).berth.afterAxle sensor dir).vacant = true ∨
      (p.face f).berth.state = .unreckoned ∨
      ((p.face f).berth.state = .empty ∧ (p.face f).berth.counted dir ≤ (p.face f).berth.axles)) :
    ((settle (axleCounted f sensor dir p)).face f).standing =
      ((axleTaken f sensor dir p).face f).onward (decide ((p.face f).berth.counted dir > (p.face f).berth.axles)) := by
  obtain ⟨standing, work⟩ := axleTaken_face (f := f) (p := p) sensor dir
  have op : ((axleTaken f sensor dir p).face f).op = (p.face f).op := congrArg Prod.fst work
  have berth : ((axleTaken f sensor dir p).face f).berth = (p.face f).berth.afterAxle sensor dir :=
    (congrArg Standing.berth standing :)
  rw [axleCounted_eq]
  refine settle_movement_stays (by unfold FaceRec.quiet; rw [op]; exact quiet) fun ⟨state, vacant⟩ => ?_
  rcases stays with held | found | ⟨empty, held⟩
  · rw [(FaceRec.onward_counts ..).2.2, berth] at vacant
    exact held vacant
  · have found : ((axleTaken f sensor dir p).face f).berth.state = .unreckoned := by rw [berth]; simpa using found
    rw [FaceRec.onward_restarts _ (.inr found), show (restartSettle _).standing.berth.state = _ from found] at state
    exact state.elim nofun nofun
  · rw [decide_eq_false (by omega)] at state
    have empty : ((axleTaken f sensor dir p).face f).berth.state = .empty := by rw [berth]; simpa using empty
    rw [FaceRec.onward_waits empty, show ((axleTaken f sensor dir p).face f).standing.berth.state = _ from empty] at state
    exact state.elim nofun nofun

theorem settle_axleCounted_counts (stays : ¬ ((p.face f).berth.afterAxle sensor dir).vacant = true ∨
      (p.face f).berth.state = .unreckoned ∨
      ((p.face f).berth.state = .empty ∧ (p.face f).berth.counted dir ≤ (p.face f).berth.axles)) :
    ((settle (axleCounted f sensor dir p)).face f).berth.axles = (p.face f).berth.counted dir ∧
    ((settle (axleCounted f sensor dir p)).face f).berth.overrun = ((p.face f).berth.afterAxle sensor dir).overrun := by
  have standing := settle_axleCounted_stays sensor dir quiet stays
  have berth : ((axleTaken f sensor dir p).face f).berth = (p.face f).berth.afterAxle sensor dir :=
    (congrArg Standing.berth (axleTaken_face sensor dir).1 :)
  obtain ⟨axles, overrun', _⟩ := FaceRec.onward_counts (decide ((p.face f).berth.counted dir > (p.face f).berth.axles))
    ((axleTaken f sensor dir p).face f)
  rw [berth] at axles overrun'
  exact ⟨((congrArg (fun t => t.berth.axles) standing :).trans axles).trans (Berth.afterAxle_axles ..),
    (congrArg (fun t => t.berth.overrun) standing :).trans overrun'⟩

/-- A count in UNRECKONED restarts the settle timer (R35). -/
theorem settle_axleCounted_unreckoned (found : (p.face f).berth.state = .unreckoned) :
    ((settle (axleCounted f sensor dir p)).face f).berth.state = .unreckoned ∧
    ((settle (axleCounted f sensor dir p)).face f).berth.settle = some (p.face f).params.tSettle := by
  obtain ⟨taken, _⟩ := axleTaken_face (f := f) (p := p) sensor dir
  have params : ((axleTaken f sensor dir p).face f).params = (p.face f).params := (congrArg Standing.params taken :)
  have still : ((axleTaken f sensor dir p).face f).berth.state = .unreckoned :=
    (congrArg (fun t => t.berth.state) taken :).trans ((Berth.afterAxle_state ..).trans found)
  have standing := settle_axleCounted_stays sensor dir quiet (.inr (.inl found))
  rw [FaceRec.onward_restarts _ (.inr still)] at standing
  exact ⟨(congrArg (fun t => t.berth.state) standing :).trans still,
    (congrArg (fun t => t.berth.settle) standing :).trans (congrArg (fun x : FaceParams => some x.tSettle) params :)⟩

/-- A count that raises A from an empty berth brings ARRIVING (R25, R27). -/
theorem settle_axleCounted_arrives (h : (p.face f).berth.state = .empty ∨ (p.face f).berth.state = .announced)
    (raised : (p.face f).berth.counted dir > (p.face f).berth.axles) :
    ((settle (axleCounted f sensor dir p)).face f).berth.state = .arriving := by
  have state : ((axleTaken f sensor dir p).face f).berth.state = (p.face f).berth.state :=
    (congrArg (fun t => t.berth.state) (axleTaken_face sensor dir).1 :).trans (Berth.afterAxle_state ..)
  have standing := settle_axleCounted_stays sensor dir quiet (.inl fun vacant => by
    rw [Berth.vacant_iff, Berth.afterAxle_axles] at vacant; omega)
  rw [decide_eq_true raised] at standing
  refine (congrArg (fun t => t.berth.state) standing :).trans (FaceRec.onward_arrives ?_).1
  rw [state]
  exact h.imp_right .inl

/-- A count that does not raise A leaves an EMPTY berth EMPTY (R25). -/
theorem settle_axleCounted_waits (empty : (p.face f).berth.state = .empty)
    (held : (p.face f).berth.counted dir ≤ (p.face f).berth.axles) :
    ((settle (axleCounted f sensor dir p)).face f).berth.state = .empty := by
  have state : ((axleTaken f sensor dir p).face f).berth.state = .empty :=
    (congrArg (fun t => t.berth.state) (axleTaken_face sensor dir).1 :).trans ((Berth.afterAxle_state ..).trans empty)
  have standing := settle_axleCounted_stays sensor dir quiet (.inr (.inr ⟨empty, held⟩))
  rw [decide_eq_false (by omega), FaceRec.onward_waits state] at standing
  exact (congrArg (fun t => t.berth.state) standing :).trans state

end

end Sys2Proof.Machine

namespace Sys2Proof.Machine

/-! ### One sample of a sensor's heads (R17 to R21, R35) -/

/-- The move of a sensor's decoder at one sample of its heads. -/
def AxleUnit.move (u : AxleUnit) (n : Nat) (s1 s2 : Bool) : AxleDecoder × Option AxleDir × Bool :=
  u.dec.move (axlePos (u.s1.sample n s1).1.level (u.s2.sample n s2).1.level)

/-- The axle unit after an accepted sample. -/
def AxleUnit.next (u : AxleUnit) (n : Nat) (s1 s2 : Bool) : AxleUnit :=
  ⟨(u.s1.sample n s1).1, (u.s2.sample n s2).1, (u.move n s1 s2).1⟩

/-- The berth record as an accepted sample leaves it, before any count: in UNRECKONED the settle timer restarts (R35). -/
def FaceRec.sampled (r : FaceRec) (sensor : AxleSensor) (u : AxleUnit) : Berth :=
  { r.berth.setAxleUnit sensor u with settle := if r.berth.state = .unreckoned then some r.params.tSettle else r.berth.settle }

section
variable (r : FaceRec) (sensor : AxleSensor) (u : AxleUnit)

@[simp] theorem FaceRec.sampled_state : (r.sampled sensor u).state = r.berth.state := by cases sensor <;> rfl
@[simp] theorem FaceRec.sampled_axles : (r.sampled sensor u).axles = r.berth.axles := by cases sensor <;> rfl
@[simp] theorem FaceRec.sampled_ann : (r.sampled sensor u).ann = r.berth.ann := by cases sensor <;> rfl
@[simp] theorem FaceRec.sampled_served : (r.sampled sensor u).served = r.berth.served := by cases sensor <;> rfl
@[simp] theorem FaceRec.sampled_overrun : (r.sampled sensor u).overrun = r.berth.overrun := by cases sensor <;> rfl
@[simp] theorem FaceRec.sampled_dwell : (r.sampled sensor u).dwell = r.berth.dwell := by cases sensor <;> rfl
@[simp] theorem FaceRec.sampled_detectors : (r.sampled sensor u).detectors = r.berth.detectors := by cases sensor <;> rfl
@[simp] theorem FaceRec.sampled_unit : (r.sampled sensor u).axleUnit sensor = u := by cases sensor <;> rfl

@[simp] theorem FaceRec.sampled_counted (dir : AxleDir) : (r.sampled sensor u).counted dir = r.berth.counted dir := by
  cases sensor <;> rfl
@[simp] theorem FaceRec.sampled_allClear : (r.sampled sensor u).allClear = r.berth.allClear := by cases sensor <;> rfl

theorem FaceRec.sampled_settle : (r.sampled sensor u).settle =
    if r.berth.state = .unreckoned then some r.params.tSettle else r.berth.settle := rfl

end

theorem Berth.axleUnit_of_seen {a b : Berth} (h : a.seen = b.seen) (sensor : AxleSensor) : a.axleUnit sensor = b.axleUnit sensor := by
  cases sensor
  · exact congrArg (·.2.1) h
  · exact congrArg (·.2.2.1) h

section
variable {f : Face} {p : Part} {sensor : AxleSensor} {s1 s2 : Bool} (set : (p.face f).geom ≠ none)
include set

/-- A sample that no filter accepts changes the two filters alone (R17). -/
theorem axleSample_passed (h1 : ¬ ((p.face f).berth.axleUnit sensor).s1.Accepts (p.face f).params.fAxle s1)
    (h2 : ¬ ((p.face f).berth.axleUnit sensor).s2.Accepts (p.face f).params.fAxle s2) :
    axleSample f sensor s1 s2 p = p.modFace f fun r => r.modBerth (Berth.setAxleUnit sensor
      ⟨((p.face f).berth.axleUnit sensor).s1.passed s1, ((p.face f).berth.axleUnit sensor).s2.passed s2,
        ((p.face f).berth.axleUnit sensor).dec⟩) := by
  unfold axleSample; simp only [Filter.sample_passed h1, Filter.sample_passed h2]
  rw [if_pos (Option.isSome_iff_ne_none.mpr set)]
  rfl

/-- An accepted sample moves the decoder, tells of its error, and goes on with a counted axle (R19, R20). -/
theorem axleSample_taken (h : ((p.face f).berth.axleUnit sensor).s1.Accepts (p.face f).params.fAxle s1 ∨
      ((p.face f).berth.axleUnit sensor).s2.Accepts (p.face f).params.fAxle s2) :
    let u := (p.face f).berth.axleUnit sensor
    let n := (p.face f).params.fAxle
    ∃ q : Part, q.face f = { p.face f with berth := (p.face f).sampled sensor (u.next n s1 s2) } ∧ q.arb = p.arb ∧
      ((u.move n s1 s2).2.2 = true → q.told (axleFaultOf f sensor .decode
        (some (u.dec.pos, axlePos (u.s1.sample n s1).1.level (u.s2.sample n s2).1.level)) (p.face f).berth)) ∧
      axleSample f sensor s1 s2 p =
        match (u.move n s1 s2).2.1 with
        | none => q
        | some dir => axleCounted f sensor dir q := by
  intro u n
  have accepted : ((u.s1.sample n s1).2 || (u.s2.sample n s2).2) = true := by
    rw [Bool.or_eq_true, Filter.sample_accepts, Filter.sample_accepts]; exact h
  have stored : ∃ q : Part, q.face f = { p.face f with berth := (p.face f).sampled sensor (u.next n s1 s2) } ∧ q.arb = p.arb ∧
      q = (let q := p.modFace f fun r => r.modBerth fun b => b.setAxleUnit sensor (u.next n s1 s2)
        if (q.face f).berth.state = .unreckoned then q.modFace f restartSettle else q) := by
    have state : ((p.face f).berth.setAxleUnit sensor (u.next n s1 s2)).state = (p.face f).berth.state := by
      cases sensor <;> rfl
    have settle : ((p.face f).berth.setAxleUnit sensor (u.next n s1 s2)).settle = (p.face f).berth.settle := by
      cases sensor <;> rfl
    refine ⟨_, ?_, ?_, rfl⟩
    · simp only [Part.modFace_self, FaceRec.modBerth_berth, state]
      unfold FaceRec.sampled
      split
      · rw [Part.modFace_self, Part.modFace_self]; rfl
      · rw [Part.modFace_self, ← settle]; rfl
    · simp only
      split
      · rw [Part.modFace_arb, Part.modFace_arb]
      · rw [Part.modFace_arb]
  obtain ⟨q, face, arb, eq⟩ := stored
  have fault : axleFaultOf f sensor .decode (some (u.dec.pos, axlePos (u.s1.sample n s1).1.level (u.s2.sample n s2).1.level))
      (q.face f).berth = axleFaultOf f sensor .decode
        (some (u.dec.pos, axlePos (u.s1.sample n s1).1.level (u.s2.sample n s2).1.level)) (p.face f).berth := by
    rw [face]; unfold axleFaultOf; simp
  refine ⟨if (u.move n s1 s2).2.2 then queueAxleFault f sensor .decode
    (some (u.dec.pos, axlePos (u.s1.sample n s1).1.level (u.s2.sample n s2).1.level)) q else q, ?_, ?_, fun err => ?_, ?_⟩
  · split
    · exact (queueReport_face _ _ _).trans face
    · exact face
  · split
    · exact (arb_noticeInv p.arb).report _ _ arb
    · exact arb
  · rw [if_pos err, ← fault]
    exact queueAxleFault_told sensor .decode _
  · subst eq
    unfold axleSample; simp only
    rw [if_pos (Option.isSome_iff_ne_none.mpr set), if_pos accepted]
    rfl

end

/-! ### A counted axle, seen from the face before its sample -/

section
variable {f : Face} {q : Part} {r : FaceRec} {sensor : AxleSensor} {u : AxleUnit}
  (face : q.face f = { r with berth := r.sampled sensor u }) (dir : AxleDir)
include face

/-- A count beyond its range is told of with the berth as the sample found it (R21, R23). -/
theorem fault_of_axle {why : AxleFault} (free : ¬ (r.berth.state = .unreckoned ∧ r.berth.ann = none))
    (h : (dir = .inward ∧ 255 ≤ r.berth.axles ∧ why = .overflow) ∨ (dir = .outward ∧ r.berth.axles = 0 ∧ why = .underflow)) :
    (settle (axleCounted f sensor dir q)).told (axleFaultOf f sensor why none r.berth) := by
  have told := settle_axleCounted_fault (f := f) (p := q) sensor dir (why := why)
  rw [face] at told
  unfold axleFaultOf at told ⊢
  simp only [FaceRec.sampled_state, FaceRec.sampled_axles, FaceRec.sampled_ann, FaceRec.sampled_dwell] at told
  exact told free h

variable (quiet : r.quiet)
include quiet

/-- A count that leaves something in the berth, or that stays in UNRECKONED, or that finds nothing in an EMPTY berth. -/
theorem counts_of_axle (h : r.berth.counted dir ≠ 0 ∨ r.berth.state = .unreckoned ∨
      (r.berth.state = .empty ∧ r.berth.counted dir ≤ r.berth.axles)) :
    ((settle (axleCounted f sensor dir q)).face f).berth.axles = r.berth.counted dir := by
  have counts := settle_axleCounted_counts (f := f) (p := q) sensor dir (by rw [face]; exact quiet)
  rw [face] at counts
  simp only [Berth.afterAxle_vacant, FaceRec.sampled_state, FaceRec.sampled_axles, FaceRec.sampled_counted] at counts
  exact (counts (h.imp_left fun some' gone => some' gone.1)).1

theorem unreckoned_of_axle (found : r.berth.state = .unreckoned) :
    ((settle (axleCounted f sensor dir q)).face f).berth.state = .unreckoned ∧
    ((settle (axleCounted f sensor dir q)).face f).berth.settle = some r.params.tSettle := by
  have restarts := settle_axleCounted_unreckoned (f := f) (p := q) sensor dir (by rw [face]; exact quiet)
  rw [face] at restarts
  exact restarts ((r.sampled_state sensor u).trans found)

theorem arrives_of_axle (h : r.berth.state = .empty ∨ r.berth.state = .announced) (raised : r.berth.counted dir > r.berth.axles) :
    ((settle (axleCounted f sensor dir q)).face f).berth.state = .arriving := by
  have arrives := settle_axleCounted_arrives (f := f) (p := q) sensor dir (by rw [face]; exact quiet)
  rw [face] at arrives
  simp only [FaceRec.sampled_state, FaceRec.sampled_axles, FaceRec.sampled_counted] at arrives
  exact arrives h raised

theorem waits_of_axle (empty : r.berth.state = .empty) (held : r.berth.counted dir ≤ r.berth.axles) :
    ((settle (axleCounted f sensor dir q)).face f).berth.state = .empty := by
  have waits := settle_axleCounted_waits (f := f) (p := q) sensor dir (by rw [face]; exact quiet)
  rw [face] at waits
  simp only [FaceRec.sampled_state, FaceRec.sampled_axles, FaceRec.sampled_counted] at waits
  exact waits empty held

end

/-- A counted axle outside STANDBY, as the movement of the face before its sample (R21, R22, R25). -/
theorem movement_of_axle {f : Face} {q : Part} {r : FaceRec} {sensor : AxleSensor} {u : AxleUnit}
    (face : q.face f = { r with berth := r.sampled sensor u }) (quiet : r.quiet) (awake : r.mode.mode ≠ .standby) (dir : AxleDir) :
    r.Movement (r.berth.counted dir = 0 ∧ r.berth.allClear = true) (q.queueFree f)
      ((settle (axleCounted f sensor dir q)).face f) ∧
    (¬ (r.berth.counted dir = 0 ∧ r.berth.allClear = true) →
      ((settle (axleCounted f sensor dir q)).face f).berth.axles = r.berth.counted dir ∧
      (((settle (axleCounted f sensor dir q)).face f).berth.overrun = true ↔ r.berth.overrun = true ∨
        (sensor = .exit ∧ dir = .outward ∧ (r.berth.state = .arriving ∨ r.berth.state = .stopped)))) := by
  have berth : (q.face f).berth = r.sampled sensor u := by rw [face]
  have awake' : (q.face f).mode.mode ≠ .standby := by rw [face]; exact awake
  have quiet' : (q.face f).quiet := by rw [face]; exact quiet
  have taken : (axleTaken f sensor dir q).face f = { r with berth := (r.sampled sensor u).afterAxle sensor dir } := by
    rw [axleTaken_berth sensor dir awake', face]
  obtain ⟨seen, served, settle'⟩ := Berth.afterAxle_kept sensor dir (r.sampled sensor u)
  have gone : ((r.sampled sensor u).afterAxle sensor dir).vacant = true ↔ r.berth.counted dir = 0 ∧ r.berth.allClear = true := by
    rw [Berth.afterAxle_vacant]; simp
  constructor
  · have moves := movement_of_movement taken (by simp) (served.trans (by simp))
      (decide ((q.face f).berth.counted dir > (q.face f).berth.axles)) ((congrArg (·.2.2.2) seen).trans (r.sampled_dwell sensor u))
      (fun leaving => settle'.trans (by rw [FaceRec.sampled_settle, if_neg (by rw [leaving]; decide)])) quiet gone
    unfold Part.queueFree at moves ⊢
    rw [axleTaken_arb sensor dir awake'] at moves
    rw [axleCounted_eq]
    exact moves
  · intro held
    obtain ⟨axles, overrun'⟩ := settle_axleCounted_counts sensor dir quiet' (.inl (by rw [berth]; exact mt gone.mp held))
    rw [axles, overrun', Berth.afterAxle_overrun, berth]
    simp

end Sys2Proof.Machine

namespace Sys2Proof.Proofs

open Sys2Proof.Machine

/-- Settles O27: an accepted sample is the decoder's move, and a counted axle the movement of the face with its count. -/
theorem axleSample : Obligations.AxleSample := by
  intro f sensor s1 s2 s settled here set
  refine ⟨fun h1 h2 => congrArg Host.Outcome.next (faceEvent_berth settled here (axleSample_passed set h1 h2)), fun taken => ?_⟩
  obtain ⟨q, face, arb, decode, eq⟩ := axleSample_taken set taken
  have even := (settled.faces f).even.op
  have berth : (q.face f).berth = (s.part.face f).sampled sensor _ := congrArg FaceRec.berth face
  have told {p : Part} {x : Report} (h : (settle p).told x) : (transmit { s with part := settle p }).lossy ∨
      (transmit { s with part := settle p }).tells x := (transmit_told (s := { s with part := settle p }) h h).imp_right And.left
  have unit {p : Part} (seen : (p.face f).berth.seen = (q.face f).berth.seen) :=
    (Berth.axleUnit_of_seen seen sensor).trans (berth ▸ (s.part.face f).sampled_unit sensor _)
  simp only [← Filter.sample_level]
  refine ⟨_, rfl, ?_⟩
  rw [faceEvent_eq settled here, eq, transmit_face]
  rw [show AxleDecoder.move _ _ = ((s.part.face f).berth.axleUnit sensor).move (s.part.face f).params.fAxle s1 s2 from rfl]
  cases counted : (((s.part.face f).berth.axleUnit sensor).move (s.part.face f).params.fAxle s1 s2).2.1 with
  | none =>
    have still : ((settle q).face f).berth = (s.part.face f).sampled sensor _ :=
      (congrArg Standing.berth (settle_rests (by rw [face]; exact even)).standing :).trans berth
    have own := unit (congrArg Berth.seen (still.trans berth.symm))
    refine ⟨congrArg AxleUnit.dec own, fun err => told (settle_told rfl (decode err)), nofun, nofun,
      congrArg (fun u => u.s1.level) own, congrArg (fun u => u.s2.level) own, fun _ _ => ?_, fun found => ?_, fun _ => ?_,
      fun _ => nofun, fun _ => nofun, fun _ => nofun, nofun, fun moves => absurd rfl moves⟩
    all_goals simp only [still, FaceRec.sampled_axles, FaceRec.sampled_state, FaceRec.sampled_settle]
    · exact ⟨found, if_pos found⟩
    · exact ⟨trivial, trivial⟩
  | some dir =>
    have own := unit (settle_axleCounted_seen sensor dir)
    have plainly (plain : (s.part.face f).berth.state = .empty ∨ (s.part.face f).berth.state = .announced ∨
        (s.part.face f).berth.state = .arriving ∨ (s.part.face f).berth.state = .departing ∨
        ((s.part.face f).berth.state = .stopped ∧ (s.part.face f).berth.served = false)) :
        ¬ ((s.part.face f).berth.state = .unreckoned ∧ (s.part.face f).berth.ann = none) := by
      rintro ⟨found, _⟩
      simp [found] at plain
    refine ⟨congrArg AxleUnit.dec own, fun err => told (settle_axleCounted_told sensor dir rfl (decode err)),
      fun out none' free => told (fault_of_axle face dir free (.inr ⟨Option.some.inj out, none', rfl⟩)),
      fun inw full free => told (fault_of_axle face dir free (.inl ⟨Option.some.inj inw, full, rfl⟩)),
      congrArg (fun u => u.s1.level) own, congrArg (fun u => u.s2.level) own,
      fun found none' => (counts_of_axle face dir even (.inr (.inl found))).trans (Berth.counted_held dir ⟨found, none'⟩),
      unreckoned_of_axle face dir even, nofun, fun plain inw => ?_, fun plain inw empty below => ?_, fun plain out two => ?_,
      fun out none' empty => ?_, fun _ awake _ _ => ?_⟩
    · obtain rfl := Option.some.inj inw
      have count := Berth.counted_inward (plainly plain)
      rw [counts_of_axle face .inward even (.inl (by rw [count]; split <;> omega)), count]
    · obtain rfl := Option.some.inj inw
      have count := Berth.counted_inward (plainly plain)
      exact arrives_of_axle face .inward even empty (by rw [count, if_pos below]; omega)
    · obtain rfl := Option.some.inj out
      have count := Berth.counted_outward (plainly plain)
      rw [counts_of_axle face .outward even (.inl (by rw [count]; omega)), count]
    · obtain rfl := Option.some.inj out
      have count := Berth.counted_outward (plainly (.inl empty))
      have held : (s.part.face f).berth.counted .outward ≤ (s.part.face f).berth.axles := by rw [count]; omega
      exact ⟨(counts_of_axle face .outward even (.inr (.inr ⟨empty, held⟩))).trans (by rw [count, none']),
        waits_of_axle face .outward even empty held⟩
    · have moves := movement_of_axle face even awake dir
      unfold Part.queueFree at moves ⊢
      rw [arb, Berth.counted_eq] at moves
      simpa only [Option.some.injEq] using moves

end Sys2Proof.Proofs

namespace Sys2Proof.Machine

/-! ### The overlap of two intervals (R47) -/

theorem overlap_eq (x y : Interval) : ((overlap x y : Nat) : Int) = max 0 (min x.hi y.hi - max x.lo y.lo) := by
  rw [overlap, Int.toNat_eq_max, max_comm]

/-- Two intervals share a width just where each is so wide and each ends so far beyond the other's beginning. -/
theorem le_overlap_iff {n : Nat} (x y : Interval) : n ≤ overlap x y ↔ n = 0 ∨
    ((n : Int) ≤ x.hi - x.lo ∧ (n : Int) ≤ x.hi - y.lo ∧ (n : Int) ≤ y.hi - x.lo ∧ (n : Int) ≤ y.hi - y.lo) := by
  unfold overlap
  omega

theorem worstOverlap_eq (h : Nat) (o t : Interval) :
    worstOverlap h o t = min (overlap o ⟨t.lo - h, t.hi - h⟩) (overlap o ⟨t.lo + h, t.hi + h⟩) := rfl

/-- A width that both ends of the uncertainty leave is left everywhere between them: it bounds widths and distances that
grow or shrink evenly with the shift. -/
theorem worstOverlap_le {h : Nat} {shift : Int} (back : -(h : Int) ≤ shift) (forth : shift ≤ h) (o t : Interval) :
    worstOverlap h o t ≤ overlap o ⟨t.lo + shift, t.hi + shift⟩ := by
  obtain ⟨first, last⟩ := le_min_iff.mp (worstOverlap_eq h o t).le
  rw [le_overlap_iff] at first last ⊢
  dsimp only at first last ⊢
  omega

end Sys2Proof.Machine

namespace Sys2Proof.Proofs

open Sys2Proof.Machine

/-- Settles O32: what both ends leave is left between them. -/
theorem overlapExact : Obligations.OverlapExact :=
  ⟨fun _ => rfl, fun h o t _ _ => ⟨overlap_eq, worstOverlap_eq h o t, fun _ back forth => worstOverlap_le back forth o t⟩⟩

end Sys2Proof.Proofs

namespace Sys2Proof.Machine

/-! ### The best train door of a platform door (R48) -/

/-- The largest worst-case overlap over the train doors, and the first train door that gives it, absent at 0. -/
structure BestOf (h : Nat) (o : Interval) (ts : List PlacedDoor) (ov : Nat) (best : Option TrainDoorRef) : Prop where
  largest : ∀ t ∈ ts, worstOverlap h o t.span ≤ ov
  absent : ov = 0 → best = none
  first : 0 < ov → ∃ (i : Nat) (t : PlacedDoor), ts[i]? = some t ∧ best = some t.ref ∧ worstOverlap h o t.span = ov ∧
    ∀ (j : Nat) (u : PlacedDoor), j < i → ts[j]? = some u → worstOverlap h o u.span < ov

theorem bestOf_concat (h : Nat) (o : Interval) (ts : List PlacedDoor) (t : PlacedDoor) : bestOf h o (ts ++ [t]) =
    if worstOverlap h o t.span > (bestOf h o ts).1 then (worstOverlap h o t.span, some t.ref) else bestOf h o ts :=
  List.foldl_concat ..

theorem bestOf_best (h : Nat) (o : Interval) (ts : List PlacedDoor) :
    BestOf h o ts (bestOf h o ts).1 (bestOf h o ts).2 := by
  induction ts using List.reverseRecOn with
  | nil => exact ⟨nofun, fun _ => rfl, nofun⟩
  | append_singleton ts t ih =>
    obtain ⟨largest, absent, first⟩ := ih
    rw [bestOf_concat]
    split
    · next wider =>
      refine ⟨fun u mem => ?_, fun zero => by omega, fun _ => ⟨ts.length, t, by simp, rfl, rfl, fun j u before at' => ?_⟩⟩
      · rcases List.mem_append.mp mem with mem | mem
        · exact (largest u mem).trans wider.le
        · exact (List.mem_singleton.mp mem ▸ le_rfl)
      · rw [List.getElem?_append_left before] at at'
        exact (largest u (List.mem_of_getElem? at')).trans_lt wider
    · next narrow =>
      refine ⟨fun u mem => ?_, absent, fun some' => ?_⟩
      · rcases List.mem_append.mp mem with mem | mem
        · exact largest u mem
        · rw [List.mem_singleton.mp mem]; omega
      · obtain ⟨i, u, at', best, width, before⟩ := first some'
        have inside : i < ts.length := (List.getElem?_eq_some_iff.mp at').1
        refine ⟨i, u, by rw [List.getElem?_append_left inside]; exact at', best, width, fun j v lt at' => ?_⟩
        rw [List.getElem?_append_left (lt.trans inside)] at at'
        exact before j v lt at'

theorem verdictOf_match (oMin ov : Nat) : verdictOf oMin ov = .vMatch ↔ oMin ≤ ov := by
  unfold verdictOf; split_ifs <;> simp <;> omega

theorem verdictOf_partial (oMin ov : Nat) : verdictOf oMin ov = .vPartial ↔ 0 < ov ∧ ov < oMin := by
  unfold verdictOf; split_ifs <;> simp <;> omega

theorem verdictOf_none {oMin : Nat} (positive : 0 < oMin) (ov : Nat) : verdictOf oMin ov = .vNone ↔ ov = 0 := by
  unfold verdictOf; split_ifs <;> simp <;> omega

end Sys2Proof.Machine

namespace Sys2Proof.Proofs

open Sys2Proof.Machine

/-- Settles O33: the best train door by induction over the train doors, the verdict by the overlap it gives. -/
theorem doorVerdicts : Obligations.DoorVerdicts := by
  intro oMin h ts g positive e
  obtain ⟨largest, absent, first⟩ := bestOf_best h (opening g) ts
  exact ⟨largest, fun zero => ⟨absent zero, (verdictOf_none positive _).mpr zero⟩, first, verdictOf_match oMin _,
    verdictOf_partial oMin _, verdictOf_none positive _⟩

end Sys2Proof.Proofs

namespace Sys2Proof.Machine

/-! ### The train doors along the face (R45, R46) -/

/-- The order of R45: unit 0 first, each unit in its profile's door order. -/
def TrainDoorRef.before (x y : TrainDoorRef) : Prop := x.unitIx < y.unitIx ∨ (x.unitIx = y.unitIx ∧ x.doorIx < y.doorIx)

theorem TrainDoorRef.ne_of_before {x y : TrainDoorRef} (h : x.before y) : x ≠ y := by
  rintro rfl
  exact h.elim (lt_irrefl _) fun same => lt_irrefl _ same.2

section
variable (i : Nat) (base : Int) (o : Orientation) (pr : Profile)

theorem placeUnit_length : (placeUnit i base o pr).length = pr.doors.length := by simp [placeUnit]

/-- The train doors of a unit are named in its profile's door order. -/
theorem placeUnit_refs : (placeUnit i base o pr).map PlacedDoor.ref = (List.range pr.doors.length).map (⟨i, ·⟩) := by
  rw [List.range_eq_range', ← List.zipIdx_map_snd, List.map_map, placeUnit, List.map_map]
  rfl

theorem placeUnit_before : ((placeUnit i base o pr).map PlacedDoor.ref).Pairwise TrainDoorRef.before := by
  rw [placeUnit_refs]
  exact List.pairwise_lt_range.map _ fun _ _ lt => .inr ⟨rfl, lt⟩

theorem unitIx_of_mem_placeUnit {x : TrainDoorRef} (h : x ∈ (placeUnit i base o pr).map PlacedDoor.ref) : x.unitIx = i := by
  rw [placeUnit_refs] at h
  obtain ⟨_, _, rfl⟩ := List.mem_map.mp h
  rfl

variable {i base o pr}

/-- A train door stands at its unit's base and its own offset (R46). -/
theorem mem_placeUnit {j : Nat} {t : TrainDoor} (h : pr.doors[j]? = some t) :
    (⟨⟨i, j⟩, ⟨base + placedOffset o pr.len t, base + placedOffset o pr.len t + t.t⟩⟩ : PlacedDoor) ∈ placeUnit i base o pr :=
  List.mem_map.mpr ⟨(t, j), List.mk_mem_zipIdx_iff_getElem?.mpr h, rfl⟩

end

section
variable (p : Part) (us : List UnitEntry) (n : Nat)

theorem placeTrain_before : ((placeTrain p us n).map PlacedDoor.ref).Pairwise TrainDoorRef.before := by
  match us with
  | [] => exact .nil
  | [u] => exact placeUnit_before ..
  | u :: v :: _ =>
    rw [placeTrain, List.map_append]
    refine List.pairwise_append.mpr ⟨placeUnit_before .., placeUnit_before .., fun x first y second => .inl ?_⟩
    rw [unitIx_of_mem_placeUnit _ _ _ _ first, unitIx_of_mem_placeUnit _ _ _ _ second]
    exact Nat.zero_lt_one

/-- A train of profiles of at most 40 doors has at most 80, its first two units alone being placed. -/
theorem placeTrain_length_le (h : ∀ u ∈ us, (p.profileOf u).doors.length ≤ 40) : (placeTrain p us n).length ≤ 80 := by
  match us with
  | [] => exact Nat.zero_le _
  | [u] =>
    rw [placeTrain, placeUnit_length]
    exact (h u (by simp)).trans (by decide)
  | u :: v :: _ =>
    rw [placeTrain, List.length_append, placeUnit_length, placeUnit_length]
    exact Nat.add_le_add (h u (by simp)) (h v (by simp))

end

/-! ### The unserved train doors (R49) -/

section
variable (oMin h : Nat) (ts : List PlacedDoor) (gs : List DoorGeom)

theorem mem_unservedOf (x : TrainDoorRef) : x ∈ unservedOf oMin h ts gs ↔
    ∃ t ∈ ts, t.ref = x ∧ ∀ g ∈ gs, worstOverlap h (opening g) t.span < oMin := by
  simp only [unservedOf, List.mem_map, List.mem_filter, List.all_eq_true, decide_eq_true_eq]
  exact exists_congr fun _ => and_assoc.trans (and_congr_right fun _ => and_comm)

theorem unservedOf_sublist : List.Sublist (unservedOf oMin h ts gs) (ts.map PlacedDoor.ref) :=
  List.filter_sublist.map _

end

end Sys2Proof.Machine

namespace Sys2Proof.Proofs

open Sys2Proof.Machine

/-- Settles O34: the doors are placed in their order, and the unserved list is a sublist of theirs. -/
theorem trainDoorsPlaced : Obligations.TrainDoorsPlaced := by
  refine ⟨fun p u v n => ⟨fun us alone j t at' => ?_, fun j t at' => ?_, placeUnit_length .., ?_⟩,
    fun p us n oMin h gs => ⟨fun _ => mem_unservedOf .., ?_, ?_, fun short => ?_⟩⟩
  · have placed := mem_placeUnit (i := 0) (base := n) (o := u.orientation) at'
    rcases alone with rfl | rfl
    · exact placed
    · exact List.mem_append_left _ placed
  · exact List.mem_append_right _ (mem_placeUnit at')
  · rw [placeTrain, List.length_append, placeUnit_length, placeUnit_length]
  all_goals have sub := unservedOf_sublist oMin h (placeTrain p us n) gs
  · exact ((placeTrain_before p us n).sublist sub).imp TrainDoorRef.ne_of_before
  · exact (placeTrain_before p us n).sublist sub
  · exact (sub.length_le.trans (by rw [List.length_map])).trans (placeTrain_length_le p us n short)

end Sys2Proof.Proofs

namespace Sys2Proof.Machine

/-! ### The checks of an OPEN, in their order (R54, R102) -/

section
variable {f : Face} {q : OpenReq} {p : Part} (here : p.present f = true)
include here

theorem openCheck_busy (busy : (p.face f).enumerating = true) : openCheck f q p = some (.plain .busy) := by
  simp [openCheck, firstFail, here, busy]

variable (quiet : (p.face f).enumerating = false)
include quiet

theorem openCheck_mode {ans : Answer} (closed : modeCheck (p.face f) q.source = some ans) : openCheck f q p = some ans := by
  simp [openCheck, firstFail, here, quiet, closed]

variable (mode : modeCheck (p.face f) q.source = none)
include mode

theorem openCheck_blocked (blocked : openBlocked (p.face f) = true) : openCheck f q p = some (.plain .busy) := by
  simp [openCheck, firstFail, here, quiet, mode, blocked]

variable (free : openBlocked (p.face f) = false)
include free

theorem openCheck_noTrain (away : noTrainFor q.source (p.face f).berth.state = true) :
    openCheck f q p = some (.plain .noTrain) := by
  simp [openCheck, firstFail, here, quiet, mode, free, away]

variable (train : noTrainFor q.source (p.face f).berth.state = false)
include train

theorem openCheck_notAligned (byVerdict : q.source ≠ .panelAll) (off : openable (p.face f).align q.marginal = false) :
    openCheck f q p = some (.plain .notAligned) := by
  simp [openCheck, firstFail, here, quiet, mode, free, train, byVerdict, off]

variable (stands : q.source = .panelAll ∨ openable (p.face f).align q.marginal = true)
include stands

/-- Where all but the mask has passed, the mask is looked at. -/
theorem openCheck_mask : openCheck f q p = firstFail
    [(q.mask.isSome && ((p.face f).configuredDoors.filter q.selects).isEmpty, badValue 255),
      (q.mask.isSome && ((p.face f).configuredDoors.filter q.selects).any fun d =>
        decide ((p.face f).doors[d].verdict ≠ .vMatch), .plain .notAligned)] := by
  have aligned : (decide (q.source ≠ .panelAll) && !openable (p.face f).align q.marginal) = false := by
    rcases stands with all | stands
    · simp [all]
    · simp [stands]
  simp only [openCheck, firstFail, here, quiet, mode, free, train, aligned]
  rfl

theorem openCheck_unmasked (unmasked : q.mask = none) : openCheck f q p = none := by
  rw [openCheck_mask here quiet mode free train stands, unmasked]
  rfl

section
variable {m : Nat} (masked : q.mask = some m)
include masked

theorem openCheck_namesNone (none' : ∀ d : DoorIx, (p.face f).configured d = true → m.testBit d.val = false) :
    openCheck f q p = some (badValue 255) := by
  have empty : (p.face f).configuredDoors.filter q.selects = [] := by
    refine List.filter_eq_nil_iff.mpr fun d mem => ?_
    simp [OpenReq.selects, masked, none' d (mem_configuredDoors.mp mem)]
  rw [openCheck_mask here quiet mode free train stands, masked, empty]
  rfl

theorem openCheck_masked (some' : ∃ d, (p.face f).configured d = true ∧ m.testBit d.val = true) : openCheck f q p =
    if ∃ d : DoorIx, (p.face f).configured d = true ∧ m.testBit d.val = true ∧ (p.face f).doors[d].verdict ≠ .vMatch then
      some (.plain .notAligned) else none := by
  have selects (d : DoorIx) : q.selects d = m.testBit d.val := by simp [OpenReq.selects, masked]
  have full : ((p.face f).configuredDoors.filter q.selects).isEmpty = false := by
    obtain ⟨d, set, named⟩ := some'
    rw [List.isEmpty_eq_false_iff_exists_mem]
    exact ⟨d, List.mem_filter.mpr ⟨mem_configuredDoors.mpr set, (selects d).trans named⟩⟩
  rw [openCheck_mask here quiet mode free train stands, masked]
  simp only [firstFail, full, Option.isSome_some, Bool.and_false, Bool.true_and, List.any_eq_true, List.mem_filter,
    mem_configuredDoors, selects, and_assoc, decide_eq_true_eq]
  rfl

end

end

/-! ### What the checks of an OPEN read -/

section
variable {r : FaceRec}

theorem openable_iff (a : AlignRec) (marginal : Bool) : openable a marginal = true ↔
    a.status = .aligned ∨ (a.status = .marginal ∧ marginal = true) := by
  simp [openable]

/-- The host opens in AUTO with no handover PENDING (R102). -/
theorem modeCheck_auto {source : OpSource} (asked : source = .host ∨ source = .auto) (auto : r.mode.mode = .auto)
    (kept : r.mode.handover = false) : modeCheck r source = none := by
  rcases asked with rfl | rfl <;> simp [modeCheck, auto, kept]

theorem modeCheck_local {source : OpSource} (asked : source = .panel ∨ source = .panelAll)
    (localCtl : r.mode.mode = .localCtl) : modeCheck r source = none := by
  rcases asked with rfl | rfl <;> simp [modeCheck, localCtl]

theorem openBlocked_idle (idle : r.op = none) : openBlocked r = false := by simp [openBlocked, idle]

/-- A CLOSE in SERVING is overtaken; any other operation in flight is not (R102). -/
theorem openBlocked_op {op : Op} (running : r.op = some op) : openBlocked r = true ↔
    op.kind = .opn ∨ r.berth.state ≠ .serving := by
  unfold openBlocked
  rw [running]
  cases k : op.kind <;> simp [k]

theorem noTrainFor_standing {s : BerthState} (source : OpSource) (h : s = .stopped ∨ s = .serving ∨ s = .cleared) :
    noTrainFor source s = false := by
  rcases h with rfl | rfl | rfl <;> rfl

end

/-! ### OPEN_FACE (R54) -/

/-- The OPEN an OPEN_FACE asks for: bit 0 of its flags accepts MARGINAL, bit 1 says that a mask is sent (R54). -/
def hostReq (tag flag m1 m2 m3 : Byte) : OpenReq :=
  ⟨.host, tag, flag.getLsbD 0, if flag.getLsbD 1 then some (65536 * m1.toNat + 256 * m2.toNat + m3.toNat) else none⟩

theorem beNat_three (a b c : Byte) : beNat [a, b, c] = 65536 * a.toNat + 256 * b.toNat + c.toNat := by
  simp only [beNat, List.foldl_cons, List.foldl_nil]
  omega

section
variable {f : Face} {tag flag m1 m2 m3 : Byte}

theorem serve_openFace {p : Part} (here : p.present f = true) : serve .openFace tag [faceCode f, flag, m1, m2, m3] p =
    match openCheck f (hostReq tag flag m1 m2 m3) p with
    | some ans => .refused ans p
    | none => ⟨.plain .accepted, [], takeOpen f (hostReq tag flag m1 m2 m3) p⟩ := by
  have asked : (⟨.host, tag, flag.getLsbD 0, if flag.getLsbD 1 then some (beNat [m1, m2, m3]) else none⟩ : OpenReq) =
      hostReq tag flag m1 m2 m3 := by rw [beNat_three]; rfl
  rw [serve_face rfl rfl rfl rfl here, ← asked]
  rfl

theorem openFace_refused {s : State} (free : s.HostFree) (settled : ∀ f, (s.part.face f).Settled)
    (here : s.part.present f = true) {result : Result} {a : Byte} (notDone : result ≠ .done)
    (h : openCheck f (hostReq tag flag m1 m2 m3) s.part = some ⟨result, a, 0⟩) :
    Unchanged (.openFace tag [faceCode f, flag, m1, m2, m3]) .openFace tag result a s :=
  unchanged_of_refused (k := .openFace) free settled notDone (by rw [serve_openFace here, h])

theorem openFace_taken {s : State} (free : s.HostFree) (here : s.part.present f = true)
    (h : openCheck f (hostReq tag flag m1 m2 m3) s.part = none) :
    exec (.openFace tag [faceCode f, flag, m1, m2, m3]) s = .next (s.answered ⟨0xA2, tag, .accepted, 0, 0, []⟩
      (settle (takeOpen f (hostReq tag flag m1 m2 m3) s.part))) :=
  exec_answered (k := .openFace) (sv := ⟨.plain .accepted, [], takeOpen f (hostReq tag flag m1 m2 m3) s.part⟩) free nofun rfl
    (by rw [serve_openFace here, h])

end

end Sys2Proof.Machine

namespace Sys2Proof.Proofs

open Sys2Proof.Machine

/-- Settles O43: each check in its order, those before it passed. -/
theorem openingRefused : Obligations.OpeningRefused := by
  intro tag flag m1 m2 m3 f s free settled here r i auto
  have refused {result : Result} {a : Byte} := openFace_refused (f := f) (tag := tag) (flag := flag) (m1 := m1) (m2 := m2)
    (m3 := m3) (result := result) (a := a) free settled here
  have passes (h : auto) : modeCheck r .host = none := modeCheck_auto (.inl rfl) h.1 h.2
  have closed (quiet : r.enumerating = false) {result : Result} (notDone : result ≠ .done)
      (h : modeCheck r .host = some (.plain result)) : Unchanged i .openFace tag result 0 s :=
    refused notDone (openCheck_mode here quiet h)
  refine ⟨fun busy => refused nofun (openCheck_busy here busy), fun quiet mode => closed quiet nofun ?_,
    fun quiet mode => closed quiet nofun ?_, fun quiet mode => closed quiet nofun ?_,
    fun quiet mode pending => closed quiet nofun ?_, fun quiet h op running kept => ?_, fun quiet h idle away => ?_,
    fun quiet h idle train off notMarginal => ?_, fun quiet h idle train stands masked => ?_⟩
  · rcases mode with mode | mode | mode <;> simp [modeCheck, mode]
  · simp [modeCheck, mode]
  · simp [modeCheck, mode]
  · simp [modeCheck, mode, pending]
  · exact refused nofun (openCheck_blocked here quiet (passes h) ((openBlocked_op running).mpr kept))
  all_goals have unblocked := openBlocked_idle idle
  · refine refused nofun (openCheck_noTrain here quiet (passes h) unblocked ?_)
    rcases away with e | e | e | e | e <;> rw [e] <;> rfl
  all_goals have trained : noTrainFor .host r.berth.state = false := by rcases train with e | e | e | e <;> rw [e] <;> rfl
  · refine refused nofun (openCheck_notAligned here quiet (passes h) unblocked trained nofun ?_)
    rw [← Bool.not_eq_true, openable_iff]
    rintro (aligned | ⟨marginal, accepts⟩)
    · exact off aligned
    · exact notMarginal.elim (absurd marginal) fun k => Bool.false_ne_true (k.symm.trans accepts)
  · have openable := (openable_iff _ _).mpr stands
    have sent : (hostReq tag flag m1 m2 m3).mask = some (65536 * m1.toNat + 256 * m2.toNat + m3.toNat) := if_pos masked
    intro mask
    refine ⟨fun none' => refused nofun ?_, fun ⟨d, set, named, other⟩ => refused nofun ?_⟩
    · exact openCheck_namesNone here quiet (passes h) unblocked trained (.inr openable) sent none'
    · rw [openCheck_masked here quiet (passes h) unblocked trained (.inr openable) sent ⟨d, set, named⟩]
      exact if_pos ⟨d, set, named, other⟩

end Sys2Proof.Proofs

namespace Sys2Proof.Machine

/-! ### A face of which an OPEN is given out (R103) -/

/-- What the orders and the grants of an OPEN leave of a face: all but its doors, its link and health, the state and the
timer of its gap check, ALARM and the secured state. -/
structure Backdrop where
  op : Option Op
  warning : Timer
  notice : Bool
  mode : ModeRec
  sense : Vector Sense 24
  standing : Standing

def FaceRec.backdrop (r : FaceRec) : Backdrop :=
  ⟨r.op, r.warning, r.notice, { r.mode with alarm := false }, r.sense, r.standing⟩

/-- What an OPEN that is given out is seen by: the backdrop, the gap check and the doors but for their cues. -/
def FaceRec.scene (r : FaceRec) : Backdrop × GapRec × (DoorIx → Door) := (r.backdrop, r.gap, fun d => r.doors[d.val].core)

theorem FaceRec.backdrop_modDoor (r : FaceRec) (d : DoorIx) (g : Door → Door)
    (h : (g r.doors[d.val]).judged = r.doors[d.val].judged) : (r.modDoor d g).backdrop = r.backdrop := by
  unfold FaceRec.backdrop
  rw [FaceRec.modDoor_standing r d g h]
  rfl

theorem FaceRec.backdrop_gap (r : FaceRec) {y : GapRec} (h : y.base = r.gap.base) :
    ({ r with gap := y } : FaceRec).backdrop = r.backdrop := by
  unfold FaceRec.backdrop FaceRec.standing
  rw [h]

theorem FaceRec.modDoor_scene (r : FaceRec) (d : DoorIx) (g : Door → Door) (h : ∀ x, (g x).core = x.core) :
    (r.modDoor d g).scene = r.scene := by
  have doors : (fun e : DoorIx => (r.modDoor d g).doors[e.val].core) = fun e : DoorIx => r.doors[e.val].core :=
    funext fun e => by
      rw [FaceRec.modDoor_doors]
      split
      · exact h _
      · rfl
  unfold FaceRec.scene
  rw [doors, r.backdrop_modDoor d g (congrArg Door.judged (h _) :)]
  rfl

theorem chooseCue_scene (d : DoorIx) (r : FaceRec) : (chooseCue d r).scene = r.scene :=
  chooseCue_view FaceRec.scene (fun r d _ => r.modDoor_scene d _ fun _ => rfl) (fun _ _ _ => rfl) d r

theorem refreshCues_scene (r : FaceRec) : (refreshCues r).scene = r.scene :=
  refreshCues_view FaceRec.scene (fun r d _ => r.modDoor_scene d _ fun _ => rfl) (fun _ _ _ => rfl) r

theorem linkPump_scene (r : FaceRec) : (linkPump r).scene = r.scene :=
  linkPump_view FaceRec.scene (fun _ _ => rfl) (fun _ _ _ => rfl) (fun r d g h => r.modDoor_scene d g h) r

theorem placeMove_scene (a : LinkAction) (ts : List MoveTarget) (r : FaceRec) : (r.placeMove a ts).scene = r.scene := by
  unfold FaceRec.placeMove; simp only
  split <;> rfl

/-- A door goes from CLOSED_LOCKED by way of OPEN_QUEUED to UNLOCKING, and a gap check it means something to becomes PENDING
(R84, R85, R127). -/
def FaceRec.unlocks (r x : FaceRec) (d : DoorIx) : Prop :=
  x.doors[d.val].state = .unlocking ∧ r.watched d = true ∧ r.sense[d.val].inCycle = false

/-- The face `x` is the face `r` but that the doors of `D`, shut in `r`, are queued to open or unlock. -/
structure FaceRec.Opens (r : FaceRec) (D : DoorIx → Prop) (x : FaceRec) : Prop where
  backdrop : x.backdrop = r.backdrop
  shut : ∀ d : DoorIx, D d → r.doors[d.val].state = .closedLocked
  opened : ∀ d : DoorIx, D d → x.doors[d.val].state.openingUp ∧ x.doors[d.val].iso = r.doors[d.val].iso
  others : ∀ d : DoorIx, ¬ D d → x.doors[d.val].core = r.doors[d.val].core
  gap : (x.gap = r.gap ∧ ∀ d, D d → r.unlocks x d → r.gap.state = .pending) ∨
    ((∃ d, D d ∧ r.unlocks x d) ∧ x.gap.state = .pending ∧ x.gap.timer = none)

section
variable {r x y : FaceRec} {D : DoorIx → Prop}

theorem FaceRec.Opens.start (r : FaceRec) : r.Opens (fun _ => False) r :=
  ⟨rfl, nofun, nofun, fun _ _ => rfl, .inl ⟨rfl, nofun⟩⟩

theorem FaceRec.Opens.congr (h : r.Opens D x) (same : y.scene = x.scene) : r.Opens D y := by
  simp only [FaceRec.scene, Prod.mk.injEq] at same
  obtain ⟨backdrop, gap, doors⟩ := same
  have core (d : DoorIx) : y.doors[d.val].core = x.doors[d.val].core := congrFun doors d
  have state (d : DoorIx) : y.doors[d.val].state = x.doors[d.val].state := (congrArg Door.state (core d) :)
  have iso (d : DoorIx) : y.doors[d.val].iso = x.doors[d.val].iso := (congrArg Door.iso (core d) :)
  refine ⟨backdrop.trans h.backdrop, h.shut, fun d mem => ?_, fun d out => (core d).trans (h.others d out), ?_⟩
  · rw [state, iso]; exact h.opened d mem
  · unfold FaceRec.unlocks
    simp only [gap, state]
    exact h.gap

/-- The berth has no part in the doors and the gap check. -/
theorem FaceRec.Opens.withBerth (h : r.Opens D x) (b : Berth) : ({ r with berth := b } : FaceRec).Opens D { x with berth := b } :=
  ⟨(congrArg (fun t : Backdrop => { t with standing := { t.standing with berth := b } }) h.backdrop :), h.shut, h.opened,
    h.others, h.gap⟩

/-- Nor has the operation. -/
theorem FaceRec.Opens.withOp (h : r.Opens D x) (o : Option Op) : ({ r with op := o } : FaceRec).Opens D { x with op := o } :=
  ⟨(congrArg (fun t : Backdrop => { t with op := o }) h.backdrop :), h.shut, h.opened, h.others, h.gap⟩

theorem FaceRec.Opens.warning (h : r.Opens D x) : x.warning = r.warning := (congrArg Backdrop.warning h.backdrop :)

theorem FaceRec.Opens.notice (h : r.Opens D x) : x.notice = r.notice := (congrArg Backdrop.notice h.backdrop :)

theorem FaceRec.Opens.handover (h : r.Opens D x) : x.mode.handover = r.mode.handover :=
  (congrArg (fun t => t.mode.handover) h.backdrop :)

theorem FaceRec.Opens.panel (h : r.Opens D x) : x.mode.panel = r.mode.panel := (congrArg (fun t => t.mode.panel) h.backdrop :)

theorem FaceRec.Opens.berth (h : r.Opens D x) : x.berth = r.berth := (congrArg (fun t => t.standing.berth) h.backdrop :)

theorem FaceRec.Opens.sense (h : r.Opens D x) : x.sense = r.sense := (congrArg Backdrop.sense h.backdrop :)

theorem FaceRec.Opens.op (h : r.Opens D x) : x.op = r.op := (congrArg Backdrop.op h.backdrop :)

theorem FaceRec.Opens.geom (h : r.Opens D x) : x.geom = r.geom := (congrArg (fun t => t.standing.geom) h.backdrop :)

theorem FaceRec.Opens.mode (h : r.Opens D x) : x.mode.mode = r.mode.mode := (congrArg (fun t => t.mode.mode) h.backdrop :)

theorem FaceRec.Opens.iso (h : r.Opens D x) (d : DoorIx) : x.doors[d.val].iso = r.doors[d.val].iso := by
  by_cases mem : D d
  · exact (h.opened d mem).2
  · exact (congrArg Door.iso (h.others d mem) :)

theorem FaceRec.Opens.watched (h : r.Opens D x) : x.watched = r.watched := by
  funext d
  unfold FaceRec.watched
  rw [FaceRec.configured_of_geom h.geom, Fin.getElem_fin, Fin.getElem_fin, h.iso d]

end

/-! ### What a door on its way open means to the operation, the sensing and the gap check (R99, R125, R127) -/

/-- The operation in flight, if any, is an OPEN. -/
def FaceRec.opensOnly (r : FaceRec) : Prop := ∀ op, r.op = some op → op.kind = .opn ∧ op.phase = none

theorem FaceRec.opensOnly.notWaiting {r : FaceRec} (h : r.opensOnly) : r.gapWaiting = false := by
  unfold FaceRec.gapWaiting
  split
  · rfl
  · next op running => rw [(h op running).2]; rfl

/-- A train stands at the face, or rolls. -/
def FaceRec.hasTrain (r : FaceRec) : Prop := r.berth.state ≠ .empty ∧ r.berth.state ≠ .announced

theorem sequencerNotice_opening {r : FaceRec} (h : r.opensOnly) {new : Door} (goes : new.state.openingUp) (d : DoorIx) :
    sequencerNotice d new r = r := by
  have outcome (t : Target) : outcomeAt .opn new t = t := by
    unfold outcomeAt
    rcases goes with goes | goes <;> simp only [goes] <;> rfl
  have same : (r.op.map fun op => op.modTarget d (outcomeAt op.kind new)) = r.op := by
    cases running : r.op with
    | none => rfl
    | some op =>
      have kept : (op.targets.map fun t => if t.door = d ∧ t.followed then outcomeAt op.kind new t else t) = op.targets := by
        simp only [(h op running).1, outcome, ite_self, List.map_id']
      simp only [Option.map_some, Op.modTarget, kept]
  unfold sequencerNotice
  rw [same]

theorem senseAt_opening {old new : DoorState} (unheld : old ≠ .held) (goes : new.openingUp) (params : FaceParams) (x : Sense) :
    senseAt params old new x = x := by
  unfold senseAt
  rcases goes with rfl | rfl <;> exact if_neg unheld

theorem FaceRec.modSense_id {r : FaceRec} {d : DoorIx} {g : Sense → Sense} (h : g r.sense[d.val] = r.sense[d.val]) :
    r.modSense d g = r := by
  have same : r.sense.set d.val (g r.sense[d.val]) = r.sense := by rw [h]; exact Vector.set_getElem_self ..
  unfold FaceRec.modSense
  simp only [Fin.getElem_fin, same]

/-- A change of the gap state is seen in the gap check alone. -/
theorem gapTo_scene (f : Face) (s : GapState) (c : GapCause) (d : Option DoorIx) (p : Part) :
    ((gapTo f s c d p).face f).scene =
      ({ p.face f with gap := { (p.face f).gap with state := s, timer := none } } : FaceRec).scene := by
  have set : (p.modFace f fun r => r.modGap fun g => { g with state := s, timer := none }).face f =
      { p.face f with gap := { (p.face f).gap with state := s, timer := none } } := Part.modFace_self ..
  have sounded (a : Bool) (q : Part) : ((q.modFace f fun r => r.modMode fun m => { m with alarm := a }).face f).scene =
      (q.face f).scene := q.modFace_keeps FaceRec.scene f f _ fun _ => rfl
  have proved (q : Part) : ((recomputeSecured f .gap false q).face f).scene = (q.face f).scene := by
    have kept := q.modFace_keeps FaceRec.scene f f (fun r => { r with secured := (q.face f).proofMet }) fun _ => rfl
    unfold recomputeSecured; simp only
    split
    · rw [queueReport_face]; exact kept
    · exact kept
  unfold gapTo; simp only
  split
  · rw [set]
  · rw [proved, queueGapReport, queueReport_face, sounded, set]

/-- What a door's UNLOCKING means to the gap check of a face with a train and no CLOSE in flight (R127). -/
theorem doorGap_unlocking {f : Face} {p : Part} (opens : (p.face f).opensOnly) (train : (p.face f).hasTrain) (d : DoorIx) :
    ∃ g, ((doorGap f d .unlocking p).face f).scene = ({ p.face f with gap := g } : FaceRec).scene ∧
      g.base = (p.face f).gap.base ∧
      ((g = (p.face f).gap ∧ ((p.face f).watched d = true → (p.face f).sense[d.val].inCycle = false →
          (p.face f).gap.state = .pending)) ∨
        ((p.face f).watched d = true ∧ (p.face f).sense[d.val].inCycle = false ∧ g.state = .pending ∧ g.timer = none)) := by
  have away : (decide ((p.face f).berth.state ≠ .empty) && decide ((p.face f).berth.state ≠ .announced)) = true := by
    simp [train.1, train.2]
  unfold doorGap gapPending
  simp only [opens.notWaiting, away]
  split
  · next means =>
    have turned : ∃ g, ((gapTo f .pending .unlock (some d) p).face f).scene = ({ p.face f with gap := g } : FaceRec).scene ∧
        g.base = (p.face f).gap.base ∧ ((p.face f).watched d = true ∧
          (p.face f).sense[d.val].inCycle = false ∧ g.state = .pending ∧ g.timer = none) :=
      ⟨_, gapTo_scene .., rfl, means.1, means.2, rfl, rfl⟩
    obtain ⟨g, scene, base, spec⟩ := turned
    cases state : (p.face f).gap.state
    case pending => exact ⟨_, rfl, rfl, .inl ⟨rfl, fun _ _ => rfl⟩⟩
    all_goals exact ⟨g, scene, base, .inr spec⟩
  · next idle => exact ⟨_, rfl, rfl, .inl ⟨rfl, fun w c => absurd ⟨w, c⟩ idle⟩⟩

section
variable {f : Face} {d : DoorIx} {c : DoorCause} {g : Door → Door} {p : Part} (opens : (p.face f).opensOnly)
  (unheld : (p.face f).doors[d.val].state ≠ .held)
include opens unheld

/-- A change of a door on its way open leaves its operation and its sensing, and is seen beside it in the gap check alone. -/
theorem changeDoor_opening (goes : (g (p.face f).doors[d.val]).state.openingUp)
    (moves : (p.face f).doors[d.val].state ≠ (g (p.face f).doors[d.val]).state) : ∃ q : Part,
    q.face f = (p.face f).modDoor d g ∧ ((changeDoor f d c g p).face f).scene =
      ((doorGap f d (g (p.face f).doors[d.val]).state q).face f).scene := by
  have told (x : Prop) [Decidable x] (rep : Report) (q : Part) : (if x then q else queueReport rep q).face f = q.face f := by
    split
    · rfl
    · exact queueReport_face ..
  unfold changeDoor; simp only [Fin.getElem_fin]
  rw [Part.modFace_self, chooseCue_scene, if_neg moves]
  refine ⟨_, ?_, rfl⟩
  rw [Part.modFace_self, told, Part.modFace_self]
  exact (FaceRec.modSense_id (senseAt_opening unheld goes ..)).trans
    (sequencerNotice_opening (r := (p.face f).modDoor d g) opens goes d)

theorem changeDoor_queued (goes : (g (p.face f).doors[d.val]).state = .openQueued)
    (moves : (p.face f).doors[d.val].state ≠ .openQueued) :
    ((changeDoor f d c g p).face f).scene = ((p.face f).modDoor d g).scene := by
  obtain ⟨q, face, scene⟩ := changeDoor_opening (c := c) opens unheld (.inl goes) (by rwa [goes])
  rw [scene, goes, ← face]
  rfl

theorem changeDoor_unlocking (train : (p.face f).hasTrain) (goes : (g (p.face f).doors[d.val]).state = .unlocking)
    (moves : (p.face f).doors[d.val].state ≠ .unlocking) (iso : (g (p.face f).doors[d.val]).iso = (p.face f).doors[d.val].iso) :
    ∃ x, ((changeDoor f d c g p).face f).scene = ({ (p.face f).modDoor d g with gap := x } : FaceRec).scene ∧
      x.base = (p.face f).gap.base ∧
      ((x = (p.face f).gap ∧ ((p.face f).watched d = true → (p.face f).sense[d.val].inCycle = false →
          (p.face f).gap.state = .pending)) ∨
        ((p.face f).watched d = true ∧ (p.face f).sense[d.val].inCycle = false ∧ x.state = .pending ∧ x.timer = none)) := by
  obtain ⟨q, face, scene⟩ := changeDoor_opening (c := c) opens unheld (.inr goes) (by rwa [goes])
  obtain ⟨x, seen, base, means⟩ := doorGap_unlocking (f := f) (p := q) (by rw [face]; exact opens) (by rw [face]; exact train) d
  have watched : (q.face f).watched d = (p.face f).watched d := by
    unfold FaceRec.watched
    rw [face, Fin.getElem_fin, FaceRec.modDoor_doors_self, iso]
    rfl
  rw [scene, goes, seen, face]
  rw [watched, face] at means
  rw [face] at base
  exact ⟨x, rfl, base, means⟩

end

end Sys2Proof.Machine

namespace Sys2Proof.Machine

/-! ### The orders and the grants of an OPEN (R84, R85, R103, R115) -/

/-- One more door of the face is queued to open, or its start is granted. -/
theorem FaceRec.Opens.door {r x : FaceRec} {D : DoorIx → Prop} {d : DoorIx} {g : Door → Door} {y : GapRec} (h : r.Opens D x)
    (shut : r.doors[d.val].state = .closedLocked) (locked : x.doors[d.val].state ≠ .unlocking)
    (goes : (g x.doors[d.val]).state.openingUp) (iso : (g x.doors[d.val]).iso = x.doors[d.val].iso)
    (judged : (g x.doors[d.val]).judged = x.doors[d.val].judged) (base : y.base = x.gap.base)
    (means : (y = x.gap ∧ (r.unlocks (x.modDoor d g) d → x.gap.state = .pending)) ∨
      (r.unlocks (x.modDoor d g) d ∧ y.state = .pending ∧ y.timer = none)) :
    r.Opens (fun e => D e ∨ e = d) { x.modDoor d g with gap := y } := by
  have own : (x.modDoor d g).doors[d.val] = g x.doors[d.val] := x.modDoor_doors_self d g
  have other {e : DoorIx} (n : e ≠ d) : (x.modDoor d g).doors[e.val] = x.doors[e.val] := x.modDoor_doors_other n.symm g
  have kept {e : DoorIx} (n : e ≠ d) : r.unlocks (x.modDoor d g) e ↔ r.unlocks x e := by
    unfold FaceRec.unlocks; rw [other n]
  refine ⟨((x.modDoor d g).backdrop_gap base).trans ((x.backdrop_modDoor d g judged).trans h.backdrop),
    fun e mem => ?_, fun e mem => ?_, fun e out => ?_, ?_⟩
  · rcases mem with mem | rfl
    · exact h.shut e mem
    · exact shut
  · by_cases n : e = d
    · subst n
      exact ⟨own ▸ goes, own ▸ iso.trans (h.iso e)⟩
    · exact (other n).symm ▸ h.opened e (mem.resolve_right n)
  · obtain ⟨out, n⟩ := not_or.mp out
    exact (other n).symm ▸ h.others e out
  · rcases means with ⟨rfl, means⟩ | ⟨unlocks, pending, stopped⟩
    · refine h.gap.imp (fun ⟨same, all⟩ => ⟨same, fun e mem unlocks => ?_⟩)
        fun ⟨⟨e, mem, unlocks⟩, gap⟩ => ⟨⟨e, .inl mem, ?_⟩, gap⟩
      · by_cases n : e = d
        · subst n
          exact same ▸ means unlocks
        · exact all e (mem.resolve_right n) ((kept n).mp unlocks)
      · exact (kept fun n => locked (n ▸ unlocks.1)).mpr unlocks
    · exact .inr ⟨⟨d, .inr rfl, unlocks⟩, pending, stopped⟩

/-- A door as an open order that it takes leaves it (R84). -/
def Door.openOrdered (k : OrderKind) (x : Door) : Door :=
  { x.enter .openQueued with order := some ⟨.toOpen, k, decide (x.state = .opened)⟩ }

theorem openOrder_taken {f : Face} {d : DoorIx} {k : OrderKind} {c : DoorCause} {p : Part}
    (takes : (p.face f).doors[d.val].takesOpen k = true) :
    openOrder f d k c p = joinQueue ⟨⟨f, d⟩, .toOpen, k⟩ (changeDoor f d c (Door.openOrdered k) p) := if_pos takes

/-- An OPEN is being given out to the doors of `D` of a face that stood in `r`: those that wait in the start queue wait to
open, and no other door of the face waits there. -/
structure Part.Opening (f : Face) (r : FaceRec) (D : DoorIx → Prop) (q : Part) : Prop where
  face : r.Opens D (q.face f)
  queued : ∀ e ∈ q.arb.queue, e.ref.face = f →
    D e.ref.door ∧ (q.face f).doors[e.ref.door.val].state = .openQueued ∧ e.action = .toOpen

section
variable {f : Face} {r : FaceRec} {D : DoorIx → Prop} {q t : Part}

theorem Part.Opening.congr (h : q.Opening f r D) (scene : (t.face f).scene = (q.face f).scene)
    (queue : ∀ e ∈ t.arb.queue, e ∈ q.arb.queue) : t.Opening f r D := by
  have state (d : DoorIx) : (t.face f).doors[d.val].state = (q.face f).doors[d.val].state :=
    (congrArg (fun s : Backdrop × GapRec × (DoorIx → Door) => (s.2.2 d).state) scene :)
  refine ⟨h.face.congr scene, fun e mem own => ?_⟩
  rw [state]
  exact h.queued e (queue e mem) own

variable (opens : r.opensOnly)
include opens

theorem FaceRec.Opens.opensOnly {x : FaceRec} (h : r.Opens D x) : x.opensOnly := by
  unfold FaceRec.opensOnly; rw [h.op]; exact opens

/-- A door that takes an open order is queued to open (R84). -/
theorem openOrder_opening (h : q.Opening f r D) {d : DoorIx} (fresh : ¬ D d) (shut : r.doors[d.val].state = .closedLocked)
    {k : OrderKind} (takes : r.doors[d.val].takesOpen k = true) :
    (openOrder f d k .order q).Opening f r (fun e => D e ∨ e = d) := by
  have core := h.face.others d fresh
  have closed : (q.face f).doors[d.val].state = .closedLocked := (congrArg Door.state core :).trans shut
  have taken : (q.face f).doors[d.val].takesOpen k = true := (congrArg (Door.takesOpen k) core :).trans takes
  rw [openOrder_taken taken]
  have goes : ((q.face f).doors[d.val].openOrdered k).state = .openQueued := rfl
  have scene := changeDoor_queued (c := .order) (h.face.opensOnly opens) (by rw [closed]; decide) goes (by rw [closed]; decide)
  have opened : r.Opens (fun e => D e ∨ e = d) ((q.face f).modDoor d (Door.openOrdered k)) :=
    h.face.door (y := (q.face f).gap) shut (by rw [closed]; decide) (.inl goes) rfl rfl rfl
      (.inl ⟨rfl, fun unlocks => by
        have := unlocks.1
        rw [FaceRec.modDoor_doors_self, goes] at this
        cases this⟩)
  have joined : (joinQueue ⟨⟨f, d⟩, .toOpen, k⟩ (changeDoor f d .order (Door.openOrdered k) q)).face f =
      (changeDoor f d .order (Door.openOrdered k) q).face f :=
    Part.face_mk ..
  refine ⟨joined.symm ▸ opened.congr scene, fun e mem own => ?_⟩
  rw [joined]
  rcases List.mem_append.mp mem with mem | mem
  · rw [changeDoor_arb] at mem
    obtain ⟨inside, state, action⟩ := h.queued e mem own
    have other : d ≠ e.ref.door := fun same => fresh (same ▸ inside)
    exact ⟨.inl inside, by rw [changeDoor_doors_other other]; exact state, action⟩
  · obtain rfl := List.mem_singleton.mp mem
    have state := (congrArg Door.state (changeDoor_stance f d d .order (Door.openOrdered k) q) :)
    rw [if_pos rfl] at state
    exact ⟨.inr rfl, state.trans goes, rfl⟩

theorem openOrders_opening {k : OrderKind} (ds : List DoorIx) (each : ds.Nodup) (fresh : ∀ d ∈ ds, ¬ D d)
    (takes : ∀ d ∈ ds, r.doors[d.val].state = .closedLocked ∧ r.doors[d.val].takesOpen k = true) (h : q.Opening f r D) :
    (forDoors ds (fun d => openOrder f d k .order) q).Opening f r (fun e => D e ∨ e ∈ ds) := by
  induction ds generalizing q D with
  | nil =>
    simp only [List.not_mem_nil, or_false]
    exact h
  | cons d ds ih =>
    obtain ⟨apart, each⟩ := List.nodup_cons.mp each
    obtain ⟨shut, taken⟩ := takes d List.mem_cons_self
    have rest := ih each (fun e mem => not_or.mpr ⟨fresh e (List.mem_cons_of_mem d mem), fun same : e = d => apart (same ▸ mem)⟩)
      (fun e mem => takes e (List.mem_cons_of_mem d mem)) (openOrder_opening opens h (fresh d List.mem_cons_self) shut taken)
    simp only [List.mem_cons, ← or_assoc]
    exact rest

variable (train : r.hasTrain)
include train

/-- A grant takes a door of the OPEN to UNLOCKING, or is of the other face (R85, R115). -/
theorem grantDoor_opening (h : q.Opening f r D) {e : QEntry} (mem : e ∈ q.arb.queue) (codes : Codes) :
    (grantDoor e codes q).Opening f r D := by
  generalize out : ({ q with arb :=
      { queue := q.arb.queue.filter fun x => decide (x.ref ≠ e.ref), starting := q.arb.starting ++ [e.ref] } } : Part) = t
  have face : t.face f = q.face f := by subst out; exact Part.face_mk ..
  have left {x : QEntry} (mem : x ∈ t.arb.queue) : x ∈ q.arb.queue ∧ x.ref ≠ e.ref := by
    subst out
    simpa using mem
  have granted : grantDoor e codes q = changeDoor e.ref.face e.ref.door .grant
      (Door.granted e.action t.params.tStart codes.timeout) t := by subst out; rfl
  rw [granted]
  by_cases own : e.ref.face = f
  · obtain ⟨inside, queued, action⟩ := h.queued e mem own
    rw [own, action]
    rw [← face] at queued
    have before : r.Opens D (t.face f) := face ▸ h.face
    obtain ⟨y, scene, base, means⟩ := changeDoor_unlocking (c := .grant) (g := Door.granted .toOpen t.params.tStart codes.timeout)
      (before.opensOnly opens) (by rw [queued]; decide) (by unfold FaceRec.hasTrain; rw [before.berth]; exact train) rfl
      (by rw [queued]; decide) rfl
    rw [before.watched, before.sense] at means
    have unlocking : ((t.face f).modDoor e.ref.door (Door.granted .toOpen t.params.tStart codes.timeout)).doors[e.ref.door.val].state =
        .unlocking := by rw [FaceRec.modDoor_doors_self]; rfl
    have opened := before.door (d := e.ref.door) (g := Door.granted .toOpen t.params.tStart codes.timeout) (y := y)
      (before.shut _ inside) (by rw [queued]; decide) (.inr rfl) rfl rfl base
      (means.imp (fun ⟨same, pending⟩ => ⟨same, fun unlocks => pending unlocks.2.1 unlocks.2.2⟩)
        fun ⟨watched, out, pending⟩ => ⟨⟨unlocking, watched, out⟩, pending⟩)
    have same : (fun x => D x ∨ x = e.ref.door) = D := funext fun x => propext (or_iff_left_of_imp fun is => is ▸ inside)
    rw [same] at opened
    refine ⟨opened.congr scene, fun x mem here => ?_⟩
    rw [changeDoor_arb] at mem
    obtain ⟨waits, other⟩ := left mem
    obtain ⟨inside', state, action⟩ := h.queued x waits here
    have differs : e.ref.door ≠ x.ref.door := fun same =>
      other (congrArg₂ DoorRef.mk (here.trans own.symm) same.symm)
    exact ⟨inside', by rw [changeDoor_doors_other differs, face]; exact state, action⟩
  · have away : (changeDoor e.ref.face e.ref.door .grant (Door.granted e.action t.params.tStart codes.timeout) t).face f = q.face f :=
      changeDoor_frame (other_frameInv f (q.face f)) own face _ _ fun _ => rfl
    refine h.congr (by rw [away]) fun x mem => ?_
    rw [changeDoor_arb] at mem
    exact (left mem).1

theorem grantEvent_opening (h : q.Opening f r D) : (grantEvent q).Opening f r D := by
  have loop (n : Nat) (gs : List Grant) {q : Part} (h : q.Opening f r D) : (grantLoop n gs q).1.Opening f r D := by
    induction n generalizing gs q with
    | zero => exact h
    | succ n ih =>
      unfold grantLoop
      split
      · exact h
      · next e first =>
        split
        · exact ih _ (grantDoor_opening opens train h (candidate_mem first) _)
        · exact h
  have placed (g : Face) (a : LinkAction) (ts : List MoveTarget) {q : Part} (h : q.Opening f r D) :
      (q.modFace g (FaceRec.placeMove a ts)).Opening f r D :=
    h.congr (q.modFace_keeps FaceRec.scene g f _ fun r => placeMove_scene a ts r) fun e mem => by rwa [Part.modFace_arb] at mem
  have issued (gs : List Grant) {q : Part} (h : q.Opening f r D) : (issueGrants gs q).Opening f r D := by
    unfold issueGrants
    generalize (gs.map fun g => (g.ref.face, g.action)).eraseDups = ks
    induction ks generalizing q with
    | nil => exact h
    | cons k ks ih => exact ih (placed k.1 _ _ h)
  exact issued _ (loop _ _ h)

end

end Sys2Proof.Machine

namespace Sys2Proof.Machine

/-! ### The end of the event in which an OPEN is given out (R30, R104) -/

section
variable {f : Face} {p : Part}

/-- A face's own rules and its line alone reach it at the end of an event. -/
theorem settle_face_eq (f : Face) (p : Part) :
    ∃ q : Part, q.face f = p.face f ∧ (settle p).face f = linkPump ((settleFace f q).face f) := by
  have other (f' : Face) (hf : f' ≠ f) (q : Part) : (settleFace f' q).face f = q.face f :=
    settleFace_inv (F := (· ≠ f)) (I := fun q' => q'.face f = q.face f)
      ⟨fun _ _ k => by rwa [queueReport_face], fun _ _ _ k _ e => by rwa [Part.modFace_other _ k]⟩ f' hf rfl
  unfold settle; simp only
  cases f with
  | A =>
    refine ⟨p, rfl, ?_⟩
    rw [Part.modFace_other _ (by decide), Part.modFace_self, other .B (by decide)]
  | B =>
    refine ⟨settleFace .A p, other .A (by decide) p, ?_⟩
    rw [Part.modFace_self, Part.modFace_other _ (by decide)]

/-- A face on which nothing is due begins at most a frame of its link. -/
theorem settle_of_even (even : (p.face f).Even) : (settle p).face f = linkPump (p.face f) := by
  obtain ⟨q, face, settles⟩ := settle_face_eq f p
  rw [settles, settleFace_even (by rw [face]; exact even), face]

/-- A complete OPEN ends (R104). -/
theorem settle_of_complete {op : Op} (running : (p.face f).op = some op) (kind : op.kind = .opn) (complete : op.complete = true)
    (even : ({ p.face f with op := none } : FaceRec).Even) : (settle p).face f = linkPump { p.face f with op := none } := by
  obtain ⟨q, face, settles⟩ := settle_face_eq f p
  have ended : seqCheck f q = (queueReport (.opDone f op .completed .notRequired) q).modFace f fun r => { r with op := none } := by
    unfold seqCheck endOp
    simp only [face, running, complete, kind]
    rfl
  have alone : ((queueReport (.opDone f op .completed .notRequired) q).modFace f fun r => { r with op := none }).face f =
      { p.face f with op := none } := by rw [Part.modFace_self, queueReport_face, face]
  have rests : settleFace f q = handoverCheck f (gapUpdate f (seqCheck f q)) := rfl
  rw [settles, rests, ended, gapUpdate_even (by rw [alone]; exact even), handoverCheck_even (by rw [alone]; exact even), alone]

end

section
variable {r x : FaceRec} {D : DoorIx → Prop}

/-- What the gap check reads stands as it stood. -/
theorem FaceRec.Opens.gapClear (h : r.Opens D x) : x.gapClear = r.gapClear := by
  have head : x.gap.headBeam = r.gap.headBeam := (congrArg (fun t => t.standing.gap.headBeam) h.backdrop :)
  have tail : x.gap.tailBeam = r.gap.tailBeam := (congrArg (fun t => t.standing.gap.tailBeam) h.backdrop :)
  unfold FaceRec.gapClear FaceRec.blockedDoors
  rw [h.watched, h.sense, head, tail]

theorem FaceRec.Opens.waitingDoors (h : r.Opens D x) : x.waitingDoors = r.waitingDoors := by
  have released (d : DoorIx) : decide (x.doors[d.val].state = .released) = decide (r.doors[d.val].state = .released) := by
    by_cases mem : D d
    · rw [h.shut d mem]
      rcases (h.opened d mem).1 with s | s <;> rw [s] <;> rfl
    · rw [show x.doors[d.val].state = r.doors[d.val].state from (congrArg Door.state (h.others d mem) :)]
  unfold FaceRec.waitingDoors
  simp only [h.watched, h.sense, Fin.getElem_fin, released]

/-- Nothing is due on a face of which an OPEN has been given out, but that the OPEN may be complete. -/
theorem FaceRec.Opens.even (h : r.Opens D x) (even : ({ r with op := none } : FaceRec).Even)
    (kept : r.mode.mode = .auto → r.mode.handover = false) : ({ x with op := none } : FaceRec).Even := by
  refine ⟨nofun, ?_, ?_, fun auto pending => ?_⟩
  · show x.gap.state = .failed → x.gapClear = false
    rcases h.gap with ⟨same, _⟩ | ⟨_, pending, _⟩
    · rw [same, h.gapClear]
      exact even.failed
    · rw [pending]
      exact nofun
  · show x.gap.timer.isSome = true ↔ x.gap.state = .running ∧ x.gapClear = true ∧ x.waitingDoors = []
    rcases h.gap with ⟨same, _⟩ | ⟨_, pending, stopped⟩
    · rw [same, h.gapClear, h.waitingDoors]
      exact even.timer
    · simp [pending, stopped]
  · have auto : x.mode.mode = .auto := auto
    have pending : x.mode.handover = true := pending
    rw [h.mode] at auto
    rw [h.handover, kept auto] at pending
    cases pending

end

/-- A berth as the notice of an OPEN leaves it (R30). -/
structure Berth.Served (b x : Berth) : Prop where
  served : x.served = true
  state : b.state = .stopped ∨ b.state = .cleared ∨ b.state = .serving → x.state = .serving

theorem berthOpenNotice_eq (f : Face) (p : Part) : berthOpenNotice f p =
    if (p.face f).berth.state = .stopped ∨ (p.face f).berth.state = .cleared then
      enterBerth f .serving .openTaken (p.modFace f fun r => r.modBerth fun b => { b with served := true })
    else p.modFace f fun r => r.modBerth fun b => { b with served := true } := by
  unfold berthOpenNotice
  simp only [Part.modFace_self, FaceRec.modBerth_berth]
  cases (p.face f).berth.state <;> rfl

/-- The notice of an OPEN changes the berth of its face alone (R30). -/
theorem berthOpenNotice_scene {f : Face} {p : Part} (awake : (p.face f).mode.mode ≠ .standby) : ∃ b, (p.face f).berth.Served b ∧
    ((berthOpenNotice f p).face f).scene = ({ p.face f with berth := b } : FaceRec).scene := by
  rw [berthOpenNotice_eq]
  generalize marks : (p.modFace f fun r => r.modBerth fun b => { b with served := true }) = q
  have face : q.face f = { p.face f with berth := { (p.face f).berth with served := true } } := by
    subst marks; exact Part.modFace_self ..
  split
  · refine ⟨{ (p.face f).berth with served := true, state := .serving, settle := none }, ⟨rfl, fun _ => rfl⟩, ?_⟩
    rw [enterBerth_face (by rw [face]; exact awake) (settlesGap_of (new := .serving) nofun nofun), Part.modFace_self,
      refreshCues_scene, face]
    rfl
  · next away =>
    refine ⟨{ (p.face f).berth with served := true }, ⟨rfl, fun stands => ?_⟩, by rw [face]⟩
    exact (or_assoc.mpr stands).resolve_left away

/-- An OPEN that has passed its checks, given out: its record, its orders, the grants and the notice to the berth (R103). -/
def giveOut (f : Face) (op : Op) (ds : List DoorIx) (k : OrderKind) (p : Part) : Part :=
  (p.modFace f fun r => { r with op := some op })
    |> forDoors ds (fun d => openOrder f d k .order)
    |> grantEvent
    |> berthOpenNotice f

/-- The face `r` after the event in which an OPEN has been given out to its doors `ds`. -/
structure FaceRec.GivenOut (r : FaceRec) (op : Op) (ds : List DoorIx) (z : FaceRec) : Prop where
  op : z.op = if op.complete then none else some op
  warning : z.warning = r.warning
  notice : z.notice = r.notice
  panel : z.mode.panel = r.mode.panel
  berth : r.berth.Served z.berth
  opened : ∀ d ∈ ds, z.doors[d.val].state.openingUp
  others : ∀ d, d ∉ ds → z.doors[d.val].core = r.doors[d.val].core
  unlocked : (∃ d ∈ ds, r.unlocks z d) → z.gap.state = .pending
  queued : (∀ d ∈ ds, ¬ r.unlocks z d) → z.gap.state = r.gap.state
  gap : z.gap.state = .pending ∨ z.gap.state = r.gap.state

section
variable {f : Face} {p : Part} {op : Op} {k : OrderKind} {ds : List DoorIx} (free : p.queueFree f)
  (awake : (p.face f).mode.mode ≠ .standby) (train : (p.face f).hasTrain) (kind : op.kind = .opn) (phase : op.phase = none)
  (each : ds.Nodup)
  (takes : ∀ d ∈ ds, (p.face f).doors[d.val].state = .closedLocked ∧ (p.face f).doors[d.val].takesOpen k = true)
include free awake train kind phase each takes

theorem giveOut_opens : ∃ b, (p.face f).berth.Served b ∧
    ({ p.face f with op := some op, berth := b } : FaceRec).Opens (· ∈ ds) ((giveOut f op ds k p).face f) := by
  have opens : ({ p.face f with op := some op } : FaceRec).opensOnly := fun o running => by
    cases running; exact ⟨kind, phase⟩
  have start : (p.modFace f fun r => { r with op := some op }).Opening f { p.face f with op := some op } (fun _ => False) :=
    ⟨by rw [Part.modFace_self]; exact .start _, fun e mem own => absurd own (free e (by rwa [Part.modFace_arb] at mem))⟩
  have ordered := openOrders_opening opens ds each (fun _ _ => id) takes start
  have granted := (grantEvent_opening opens train ordered).face
  simp only [false_or] at granted
  unfold giveOut
  generalize grantEvent _ = q at granted
  obtain ⟨b, served, scene⟩ := berthOpenNotice_scene (f := f) (p := q) (by rw [granted.mode]; exact awake)
  rw [granted.berth] at served
  exact ⟨b, served, (granted.withBerth b).congr scene⟩

/-- An OPEN given out, to the end of its event. -/
theorem settle_giveOut (even : ({ p.face f with op := none } : FaceRec).Even)
    (kept : (p.face f).mode.mode = .auto → (p.face f).mode.handover = false) :
    (p.face f).GivenOut op ds ((settle (giveOut f op ds k p)).face f) := by
  obtain ⟨b, served, opens⟩ := giveOut_opens free awake train kind phase each takes
  have idle := opens.even (even.of_duties rfl) kept
  have running : ((giveOut f op ds k p).face f).op = some op := opens.op
  have ended : ((settle (giveOut f op ds k p)).face f).scene =
      ({ (giveOut f op ds k p).face f with op := if op.complete then none else some op } : FaceRec).scene := by
    by_cases complete : op.complete = true
    · rw [settle_of_complete running kind complete idle, linkPump_scene, if_pos complete]
    · rw [settle_of_even ⟨fun o is done => ?_, idle.failed, idle.timer, fun auto pending => ?_⟩, linkPump_scene, if_neg complete,
        ← running]
      · rw [running] at is
        cases is
        exact absurd done complete
      · have := kept (opens.mode.symm.trans auto)
        rw [opens.handover, this] at pending
        cases pending
  have after := (opens.withOp (if op.complete then none else some op)).congr ended
  refine ⟨after.op, after.warning, after.notice, after.panel, after.berth ▸ served, fun d mem => (after.opened d mem).1,
    after.others, fun ⟨d, mem, unlocks⟩ => ?_, fun locked => ?_, ?_⟩
  · exact after.gap.elim (fun ⟨same, all⟩ => same ▸ all d mem unlocks) fun ⟨_, pending, _⟩ => pending
  · exact after.gap.elim (fun ⟨same, _⟩ => same ▸ rfl) fun ⟨⟨d, mem, unlocks⟩, _⟩ => absurd unlocks (locked d mem)
  · exact after.gap.elim (fun ⟨same, _⟩ => .inr (same ▸ rfl)) fun ⟨_, pending, _⟩ => .inl pending

end

end Sys2Proof.Machine

namespace Sys2Proof.Machine

/-! ### The doors an OPEN selects (R103) -/

/-- The target entries of an OPEN: the doors brought over from an overtaken CLOSE, and those it selects (R103, R109). -/
def openTargets (r : FaceRec) (q : OpenReq) (brought : List DoorIx) : List Target :=
  allDoors.filterMap fun d =>
    if brought.contains d then some (broughtTarget r d)
    else if (openSelection r q).contains d then some (orderedTarget r (openKind q.source) d) else none

theorem takeOpen_eq {f : Face} {q : OpenReq} {p t : Part} {brought : List DoorIx} (h : overtakeClose f q p = (t, brought)) :
    takeOpen f q p = giveOut f
      ⟨.opn, q.source, q.tag, none, (t.face f).berth.dwell, openTargets (t.face f) q brought⟩ (openSelection (t.face f) q)
      (openKind q.source) t := by
  have record : (t.modFace f fun r => { r with op := some ⟨.opn, q.source, q.tag, none, r.berth.dwell,
      openTargets (t.face f) q brought⟩ }) = t.modFace f fun r => { r with op := some ⟨.opn, q.source, q.tag, none,
      (t.face f).berth.dwell, openTargets (t.face f) q brought⟩ } := t.modFace_congr f _ _ rfl
  unfold takeOpen giveOut
  rw [h, ← record]
  rfl

section
variable {r : FaceRec} {q : OpenReq} {d : DoorIx}

theorem mem_openSelection : d ∈ openSelection r q ↔ r.configured d = true ∧ r.doors[d.val].state = .closedLocked ∧
    r.doors[d.val].iso = .none ∧ (q.source = .panelAll ∨ (r.doors[d.val].verdict = .vMatch ∧ q.selects d = true)) := by
  simp [openSelection, mem_configuredDoors, and_assoc]

theorem openSelection_nodup (r : FaceRec) (q : OpenReq) : (openSelection r q).Nodup :=
  ((List.nodup_finRange 24).filter _).filter _

/-- A selected door takes the open order it is given (R84, R103). -/
theorem takesOpen_of_selected (h : d ∈ openSelection r q) :
    r.doors[d.val].state = .closedLocked ∧ r.doors[d.val].takesOpen (openKind q.source) = true := by
  obtain ⟨_, shut, iso, selected⟩ := mem_openSelection.mp h
  have key : r.doors[d.val].keyIso = false := by
    unfold Door.iso at iso
    split at iso
    · cases iso
    · next out => simpa using out
  refine ⟨shut, ?_⟩
  unfold Door.takesOpen Door.isolationAllows openKind
  rw [shut]
  cases source : q.source
  case panelAll => simp [key]
  case fire => simp [iso]
  all_goals simp [iso, (selected.resolve_left (by rw [source]; nofun)).1]

theorem watched_of_selected (h : d ∈ openSelection r q) : r.watched d = true := by
  obtain ⟨set, _, iso, _⟩ := mem_openSelection.mp h
  simp [FaceRec.watched, set, iso]

/-- A selected door that is not brought over is a PENDING target, and the OPEN is not complete. -/
theorem pending_of_selected {brought : List DoorIx} (h : d ∈ openSelection r q) (fresh : d ∉ brought) :
    (⟨d, .pending, true⟩ : Target) ∈ openTargets r q brought := by
  refine List.mem_filterMap.mpr ⟨d, List.mem_finRange d, ?_⟩
  have takes : r.doors[d].takesOpen (openKind q.source) = true := (takesOpen_of_selected h).2
  rw [if_neg (by simpa using fresh), if_pos (by simpa using h), orderedTarget, if_pos takes]

theorem incomplete_of_pending {op : Op} {d : DoorIx} (h : (⟨d, .pending, true⟩ : Target) ∈ op.targets) : op.complete ≠ true :=
  fun complete => absurd (List.all_eq_true.mp complete _ h) (by simp)

/-- An OPEN that selects no door and brings none over has no target (R103). -/
theorem openTargets_nil (h : ∀ d, d ∉ openSelection r q) : openTargets r q [] = [] := by
  refine List.filterMap_eq_nil_iff.mpr fun d _ => ?_
  rw [if_neg (by simp), if_neg (by simpa using h d)]

end

/-! ### An OPEN taken with no operation in flight (R102, R103) -/

/-- A face on which an OPEN can be taken with no operation in flight: nothing is due, a train stands, no start of the face is
queued, and the mode is AUTO with no handover PENDING, or LOCAL. -/
structure Part.TakesOpen (f : Face) (p : Part) : Prop where
  even : (p.face f).Even
  free : p.queueFree f
  ready : (p.face f).ReadyToOpen
  mode : ((p.face f).mode.mode = .auto ∧ (p.face f).mode.handover = false) ∨ (p.face f).mode.mode = .localCtl

section
variable {f : Face} {p : Part} (h : p.TakesOpen f)
include h

theorem Part.TakesOpen.awake : (p.face f).mode.mode ≠ .standby := by
  rcases h.mode with ⟨mode, _⟩ | mode <;> rw [mode] <;> decide

theorem Part.TakesOpen.kept (auto : (p.face f).mode.mode = .auto) : (p.face f).mode.handover = false := by
  rcases h.mode with ⟨_, kept⟩ | mode
  · exact kept
  · rw [mode] at auto
    cases auto

theorem Part.TakesOpen.hasTrain : (p.face f).hasTrain := by
  unfold FaceRec.hasTrain
  rcases h.ready.train with s | s | s <;> rw [s] <;> decide

/-- A change of the face's notice or of its panel's buttons takes no part in it. -/
theorem Part.TakesOpen.modFace {g : FaceRec → FaceRec} (notice : Bool) (panel : Panel)
    (is : g (p.face f) = { p.face f with notice := notice, mode := { (p.face f).mode with panel := panel } }) :
    (p.modFace f g).TakesOpen f := by
  have face : (p.modFace f g).face f = { p.face f with notice := notice, mode := { (p.face f).mode with panel := panel } } := by
    rw [Part.modFace_self, is]
  refine ⟨?_, queueFree_of_arb (p.modFace_arb f g) h.free, ?_, ?_⟩
  all_goals rw [face]
  · exact h.even.of_duties rfl
  · exact ⟨h.ready.noOp, h.ready.noEnum, h.ready.train⟩
  · exact h.mode

/-- The face after the event in which an OPEN is taken, its doors selected by `sel` (R103, R127). -/
theorem settle_takeOpen (q : OpenReq) {sel : DoorIx → Bool} (selects : ∀ d, sel d = true ↔ d ∈ openSelection (p.face f) q) :
    OpenTaken q.source q.tag sel (p.face f) ((settle (takeOpen f q p)).face f) ∧
    ((settle (takeOpen f q p)).face f).notice = (p.face f).notice ∧
    ((settle (takeOpen f q p)).face f).mode.panel = (p.face f).mode.panel := by
  have idle := h.ready.noOp
  have alone : overtakeClose f q p = (p, []) := by unfold overtakeClose; rw [idle]
  have same : ({ p.face f with op := none } : FaceRec) = p.face f := by rw [← idle]
  have given := settle_giveOut (op := ⟨.opn, q.source, q.tag, none, (p.face f).berth.dwell, openTargets (p.face f) q []⟩)
    h.free h.awake h.hasTrain rfl rfl (openSelection_nodup (p.face f) q) (fun _ => takesOpen_of_selected)
    (same.symm ▸ h.even) h.kept
  rw [← takeOpen_eq alone] at given
  generalize (settle (takeOpen f q p)).face f = z at given
  have out {d : DoorIx} (n : sel d = false) : d ∉ openSelection (p.face f) q := fun mem =>
    Bool.false_ne_true (n.symm.trans ((selects d).mpr mem))
  refine ⟨⟨fun ⟨d, on⟩ => ?_, fun none' => ?_, ⟨given.berth.served, fun train => given.berth.state ?_⟩,
    fun d on => given.opened d ((selects d).mp on), fun d off => (congrArg Door.state (given.others d (out off)) :),
    fun ⟨d, on, unlocking, cycle⟩ => ?_, fun waits => ?_⟩, given.notice, given.panel⟩
  · have pending (d : DoorIx) (on : sel d = true) := pending_of_selected (brought := []) ((selects d).mp on) List.not_mem_nil
    have op := given.op
    rw [if_neg (incomplete_of_pending (pending d on))] at op
    exact ⟨_, op, pending⟩
  · have op := given.op
    rw [openTargets_nil fun d => out (none' d)] at op
    exact op
  · rcases train with s | s | s
    · exact .inl s
    · exact .inr (.inl s)
    · exact .inr (.inr s)
  · have mem := (selects d).mp on
    exact given.unlocked ⟨d, mem, unlocking, watched_of_selected mem, cycle⟩
  · refine given.queued fun d mem ⟨unlocking, _, cycle⟩ => ?_
    rcases waits d ((selects d).mpr mem) with queued | inside
    · exact absurd (unlocking.symm.trans queued) nofun
    · exact Bool.false_ne_true (cycle.symm.trans inside)

end

/-- The doors an OPEN by verdict and mask selects (R103). -/
theorem byVerdict_iff {r : FaceRec} {q : OpenReq} (byVerdict : q.source ≠ .panelAll) (d : DoorIx) :
    (r.byVerdict d && q.selects d) = true ↔ d ∈ openSelection r q := by
  simp [mem_openSelection, FaceRec.byVerdict, byVerdict, and_assoc]

theorem byVerdict_iff_unmasked {r : FaceRec} {q : OpenReq} (byVerdict : q.source ≠ .panelAll) (unmasked : q.mask = none)
    (d : DoorIx) : r.byVerdict d = true ↔ d ∈ openSelection r q := by
  rw [← byVerdict_iff byVerdict d, OpenReq.selects, unmasked, Bool.and_true]

/-- The doors an OPEN of the panel with P_ALL selects (R103, R158). -/
theorem panelAll_iff {r : FaceRec} {q : OpenReq} (all : q.source = .panelAll) (d : DoorIx) :
    (r.configured d && decide (r.doors[d].state = .closedLocked) && decide (r.doors[d].iso = .none)) = true ↔
      d ∈ openSelection r q := by
  simp [mem_openSelection, all, and_assoc]

end Sys2Proof.Machine

namespace Sys2Proof.Machine

/-! ### An OPEN of the host, of the notice and of the panel (R54, R55, R102, R158) -/

section
variable {f : Face} {p : Part} (here : p.present f = true) (ready : (p.face f).ReadyToOpen)
include here ready

/-- An OPEN that no operation in flight blocks is taken by its mode, the face's alignment and its mask (R102). -/
theorem openCheck_ready {q : OpenReq} (mode : modeCheck (p.face f) q.source = none)
    (stands : q.source = .panelAll ∨ openable (p.face f).align q.marginal = true) (unmasked : q.mask = none) :
    openCheck f q p = none :=
  openCheck_unmasked here ready.noEnum mode (openBlocked_idle ready.noOp) (noTrainFor_standing _ ready.train) stands unmasked

end

section
variable {f : Face} {tag flag m1 m2 m3 : Byte} {s : State} (host : s.HostFree) (settled : ∀ f, (s.part.face f).Settled)
  (here : s.part.present f = true) (free : s.part.queueFree f) (ready : (s.part.face f).ReadyToOpen)
  (auto : (s.part.face f).mode.mode = .auto) (kept : (s.part.face f).mode.handover = false)
  (stands : (s.part.face f).align.status = .aligned ∨ ((s.part.face f).align.status = .marginal ∧ flag.getLsbD 0 = true))
include host settled here free ready auto kept

/-- An OPEN_FACE that passes its checks is taken. -/
theorem openFace_opens {sel : DoorIx → Bool} (passes : openCheck f (hostReq tag flag m1 m2 m3) s.part = none)
    (selects : ∀ d, sel d = true ↔ d ∈ openSelection (s.part.face f) (hostReq tag flag m1 m2 m3)) :
    ∃ q, exec (.openFace tag [faceCode f, flag, m1, m2, m3]) s = .next (s.answered ⟨0xA2, tag, .accepted, 0, 0, []⟩ q) ∧
      OpenTaken .host tag sel (s.part.face f) (q.face f) :=
  have takes : s.part.TakesOpen f := ⟨(settled f).even, free, ready, .inl ⟨auto, kept⟩⟩
  ⟨_, openFace_taken host here passes, (settle_takeOpen takes _ selects).1⟩

include stands

theorem openFace_unmasked (unmasked : flag.getLsbD 1 = false) :
    ∃ q, exec (.openFace tag [faceCode f, flag, m1, m2, m3]) s = .next (s.answered ⟨0xA2, tag, .accepted, 0, 0, []⟩ q) ∧
      OpenTaken .host tag (s.part.face f).byVerdict (s.part.face f) (q.face f) := by
  have none' : (hostReq tag flag m1 m2 m3).mask = none := if_neg (Bool.eq_false_iff.mp unmasked)
  exact openFace_opens host settled here free ready auto kept
    (openCheck_ready here ready (modeCheck_auto (.inl rfl) auto kept) (.inr ((openable_iff _ _).mpr stands)) none')
    (byVerdict_iff_unmasked (q := hostReq tag flag m1 m2 m3) nofun none')

theorem openFace_masked (masked : flag.getLsbD 1 = true)
    (names : ∃ d, (s.part.face f).configured d = true ∧
      (65536 * m1.toNat + 256 * m2.toNat + m3.toNat).testBit d.val = true)
    (matched : ∀ d : DoorIx, (s.part.face f).configured d = true →
      (65536 * m1.toNat + 256 * m2.toNat + m3.toNat).testBit d.val = true → (s.part.face f).doors[d].verdict = .vMatch) :
    ∃ q, exec (.openFace tag [faceCode f, flag, m1, m2, m3]) s = .next (s.answered ⟨0xA2, tag, .accepted, 0, 0, []⟩ q) ∧
      OpenTaken .host tag
        (fun d => (s.part.face f).byVerdict d && (65536 * m1.toNat + 256 * m2.toNat + m3.toNat).testBit d.val)
        (s.part.face f) (q.face f) := by
  have sent : (hostReq tag flag m1 m2 m3).mask = some (65536 * m1.toNat + 256 * m2.toNat + m3.toNat) := if_pos masked
  refine openFace_opens host settled here free ready auto kept ?_ fun d => ?_
  · rw [openCheck_masked here ready.noEnum (modeCheck_auto (.inl rfl) auto kept) (openBlocked_idle ready.noOp)
      (noTrainFor_standing _ ready.train) (.inr ((openable_iff _ _).mpr stands)) sent names]
    exact if_neg fun ⟨d, set, named, other⟩ => other (matched d set named)
  · rw [← byVerdict_iff (q := hostReq tag flag m1 m2 m3) nofun d, OpenReq.selects, sent]

end

section
variable {f : Face} {s : State} (settled : s.Settled) (here : s.part.present f = true)
include settled here

/-- A notice that does not reach the face sequencer is dropped, and nothing else changes (R55). -/
theorem automaticOpeningNotice_dropped
    (stale : (s.part.face f).notice = true → ¬ (s.part.face f).OpensItself (s.part.face f).align) :
    exec (.automaticOpeningNotice f) s = .next { s with part := s.part.modFace f FaceRec.dropNotice } := by
  have dropped : (s.part.face f).dropNotice.Settled :=
    ⟨(settled.faces f).op, (settled.faces f).failed, (settled.faces f).timer, (settled.faces f).handover, (settled.faces f).line⟩
  have arrives : noticeArrives f s.part = s.part.modFace f FaceRec.dropNotice :=
    if_neg fun ⟨handed, test⟩ => stale handed ((autoTest_iff _).mp test)
  show Host.Outcome.next (faceEvent f (noticeArrives f) s) = _
  rw [faceEvent_settled settled here _ _ arrives dropped.even, Part.modFace_congr s.part f
    (fun r => linkPump r.dropNotice) FaceRec.dropNotice (linkPump_settled dropped)]

theorem automaticOpeningNotice_none (n : (s.part.face f).notice = false) : exec (.automaticOpeningNotice f) s = .next s := by
  rw [automaticOpeningNotice_dropped settled here fun handed => absurd (n.symm.trans handed) nofun,
    Part.modFace_id s.part f _ (by rw [FaceRec.dropNotice, ← n])]

theorem automaticOpeningNotice_opens (handed : (s.part.face f).notice = true)
    (test : (s.part.face f).OpensItself (s.part.face f).align) (free : s.part.queueFree f)
    (ready : (s.part.face f).ReadyToOpen) (kept : (s.part.face f).mode.handover = false) :
    ∃ t, exec (.automaticOpeningNotice f) s = .next t ∧ (t.part.face f).notice = false ∧
      OpenTaken .auto 0 (s.part.face f).byVerdict (s.part.face f) (t.part.face f) := by
  have ⟨_, _, _, _, aligned, auto⟩ := test
  have takes : (s.part.modFace f FaceRec.dropNotice).TakesOpen f :=
    Part.TakesOpen.modFace ⟨(settled.faces f).even, free, ready, .inl ⟨auto, kept⟩⟩ false (s.part.face f).mode.panel rfl
  have face : (s.part.modFace f FaceRec.dropNotice).face f = (s.part.face f).dropNotice := Part.modFace_self ..
  have passes : openCheck f autoReq (s.part.modFace f FaceRec.dropNotice) = none := by
    refine openCheck_ready (by rwa [Part.modFace_present]) takes.ready ?_ ?_ rfl
    all_goals rw [face]
    · exact modeCheck_auto (.inr rfl) auto kept
    · exact .inr ((openable_iff _ _).mpr (.inl aligned))
  have arrives : noticeArrives f s.part = takeOpen f autoReq (s.part.modFace f FaceRec.dropNotice) := by
    unfold noticeArrives takeNotice
    simp only [if_pos (And.intro handed ((autoTest_iff _).mpr test)), passes]
  obtain ⟨taken, notice, _⟩ := settle_takeOpen takes autoReq
    (sel := (s.part.face f).byVerdict) (fun d => by
      rw [face]
      exact byVerdict_iff_unmasked (r := (s.part.face f).dropNotice) (q := autoReq) nofun rfl d)
  rw [face] at taken notice
  refine ⟨_, congrArg Host.Outcome.next (faceEvent_eq settled here _), ?_⟩
  rw [transmit_face, arrives]
  exact ⟨notice, taken.op, taken.empty, taken.berth, taken.opened, taken.others, taken.gap⟩

/-- A rising edge of P_OPEN in LOCAL is an OPEN of the panel (R158). -/
theorem pOpenEdge_opens (free : s.part.queueFree f) (ready : (s.part.face f).ReadyToOpen)
    (localCtl : (s.part.face f).mode.mode = .localCtl)
    (edge : (s.part.face f).mode.panel.pOpen.Accepts (s.part.face f).params.fPanel true) {source : OpSource}
    (asks : (if (s.part.face f).mode.panel.pAll.reads then OpSource.panelAll else .panel) = source)
    (stands : source = .panelAll ∨ (s.part.face f).align.status = .aligned ∨ (s.part.face f).align.status = .marginal)
    {sel : DoorIx → Bool} (selects : ∀ d, sel d = true ↔ d ∈ openSelection (s.part.face f) ⟨source, 0, true, none⟩) :
    ∃ t, exec (.pOpenEdge f true) s = .next t ∧ OpenTaken source 0 sel (s.part.face f) (t.part.face f) ∧
      (t.part.face f).mode.panel.pOpen = .taken true := by
  generalize pressed : (s.part.modFace f fun r => modPanel (fun q => { q with pOpen := .taken true }) r) = p
  have face : p.face f = modPanel (fun q => { q with pOpen := .taken true }) (s.part.face f) := by
    subst pressed; exact Part.modFace_self ..
  have takes : p.TakesOpen f := by
    subst pressed
    exact Part.TakesOpen.modFace ⟨(settled.faces f).even, free, ready, .inr localCtl⟩ (s.part.face f).notice
      { (s.part.face f).mode.panel with pOpen := .taken true } rfl
  have asked : source = .panel ∨ source = .panelAll := by
    rw [← asks]
    split
    · exact .inr rfl
    · exact .inl rfl
  have passes : openCheck f ⟨source, 0, true, none⟩ p = none := by
    refine openCheck_ready (by subst pressed; rwa [Part.modFace_present]) takes.ready ?_ ?_ rfl
    all_goals rw [face]
    · exact modeCheck_local asked localCtl
    · exact stands.imp id fun stands => (openable_iff _ _).mpr (stands.imp id fun marginal => ⟨marginal, rfl⟩)
  have sampled : openButtonSample f true s.part = takeOpen f ⟨source, 0, true, none⟩ p := by
    have opens : panelOpen f source p = takeOpen f ⟨source, 0, true, none⟩ p := by
      unfold panelOpen
      simp only [passes]
    have edges : openEdge f p = panelOpen f source p := by
      unfold openEdge
      simp only [face]
      exact (if_pos localCtl).trans (congrArg (fun k => panelOpen f k p) asks)
    unfold openButtonSample
    simp only [Filter.sample_taken edge, pressed, and_self, if_true]
    exact edges.trans opens
  obtain ⟨taken, _, panel⟩ := settle_takeOpen takes ⟨source, 0, true, none⟩ (sel := sel)
    (fun d => by rw [face]; exact selects d)
  rw [face] at taken panel
  refine ⟨_, congrArg Host.Outcome.next (faceEvent_eq settled here _), ?_⟩
  rw [transmit_face, sampled]
  exact ⟨⟨taken.op, taken.empty, taken.berth, taken.opened, taken.others, taken.gap⟩, (congrArg Panel.pOpen panel :)⟩

end

end Sys2Proof.Machine

namespace Sys2Proof.Machine

/-! ### What turning a door back leaves of its face (R109) -/

/-- What the orders that turn doors back keep of a face: whether an operation is in flight and which, the gap record, the mode
with its handover, and the standing. -/
def FaceRec.setting (r : FaceRec) : Option OpKind × GapRec × (FaceMode × Bool) × Standing :=
  (r.op.map Op.kind, r.gap, (r.mode.mode, r.mode.handover), r.standing)

theorem FaceRec.modDoor_setting (r : FaceRec) (d : DoorIx) (g : Door → Door)
    (h : (g r.doors[d.val]).judged = r.doors[d.val].judged) : (r.modDoor d g).setting = r.setting := by
  unfold FaceRec.setting
  rw [FaceRec.modDoor_standing r d g h]
  rfl

theorem chooseCue_setting (d : DoorIx) (r : FaceRec) : (chooseCue d r).setting = r.setting :=
  chooseCue_view FaceRec.setting (fun r d _ => r.modDoor_setting d _ rfl) (fun _ _ _ => rfl) d r

theorem placeMove_setting (a : LinkAction) (ts : List MoveTarget) (r : FaceRec) : (r.placeMove a ts).setting = r.setting := by
  unfold FaceRec.placeMove; simp only
  split <;> rfl

/-- A door's notice concludes targets of the operation, and leaves which operation it is. -/
theorem sequencerNotice_setting (d : DoorIx) (new : Door) (r : FaceRec) : (sequencerNotice d new r).setting = r.setting := by
  have kind : (r.op.map fun op => op.modTarget d (outcomeAt op.kind new)).map Op.kind = r.op.map Op.kind := by
    rw [Option.map_map]
    rfl
  unfold FaceRec.setting
  exact congrArg (·, r.gap, (r.mode.mode, r.mode.handover), r.standing) kind

/-- A door's change is seen in the setting of its face only where it unlocks or is released (R127). -/
theorem changeDoor_setting {f : Face} {d : DoorIx} {c : DoorCause} {g : Door → Door} {p : Part}
    (judged : (g (p.face f).doors[d.val]).judged = (p.face f).doors[d.val].judged)
    (rests : (g (p.face f).doors[d.val]).state ≠ .unlocking ∧ (g (p.face f).doors[d.val]).state ≠ .released) :
    ((changeDoor f d c g p).face f).setting = (p.face f).setting := by
  have told (x : Prop) [Decidable x] (rep : Report) (q : Part) : (if x then q else queueReport rep q).face f = q.face f := by
    split
    · rfl
    · exact queueReport_face ..
  have quiet (q : Part) : doorGap f d (g (p.face f).doors[d.val]).state q = q := by
    unfold doorGap
    split
    · next s => exact absurd s rests.1
    · next s => exact absurd s rests.2
    · rfl
  have set : ((p.modFace f fun r => r.modDoor d fun _ => g (p.face f).doors[d.val]).face f).setting = (p.face f).setting := by
    rw [Part.modFace_self]
    exact FaceRec.modDoor_setting _ d _ judged
  unfold changeDoor; simp only [Fin.getElem_fin]
  rw [Part.modFace_self, chooseCue_setting]
  split
  · rw [told, set]
  · rw [quiet, Part.modFace_self, told]
    exact (sequencerNotice_setting ..).trans set

section
variable {f : Face} {p : Part} (free : p.queueFree f)
include free

/-- The grants of a grant event with no start of the face queued are of the other face (R115). -/
theorem grantLoop_away (n : Nat) (gs : List Grant) :
    (grantLoop n gs p).1.queueFree f ∧ (grantLoop n gs p).1.face f = p.face f := by
  have main (q : Part) (k : q.queueFree f ∧ q.face f = p.face f) :
      (grantLoop n gs q).1.queueFree f ∧ (grantLoop n gs q).1.face f = p.face f := by
    induction n generalizing gs q with
    | zero => exact k
    | succ n ih =>
      unfold grantLoop
      split
      · exact k
      · next e first =>
        split
        · refine ih _ _ ⟨queueFree_of_arb (changeDoor_arb ..) fun x inside => k.1 x (List.mem_of_mem_filter inside), ?_⟩
          exact changeDoor_frame (other_frameInv f (p.face f)) (k.1 e (candidate_mem first)) (by rw [Part.face_mk]; exact k.2) _ _
            fun _ => rfl
        · exact k
  exact main p ⟨free, rfl⟩

theorem grantEvent_setting : ((grantEvent p).face f).setting = (p.face f).setting := by
  have issued (gs : List Grant) (q : Part) : ((issueGrants gs q).face f).setting = (q.face f).setting := by
    unfold issueGrants
    generalize (gs.map fun g => (g.ref.face, g.action)).eraseDups = ks
    exact foldl_keeps (fun q : Part => (q.face f).setting) _
      (fun q k => q.modFace_keeps FaceRec.setting k.1 f _ fun r => placeMove_setting _ _ r) ks q
  unfold grantEvent
  rw [issued, (grantLoop_away free _ _).2]

theorem endStart_setting (d : DoorIx) : ((endStart f d p).face f).setting = (p.face f).setting := by
  unfold endStart
  split
  · generalize out : ({ p with arb := { p.arb with
      starting := p.arb.starting.filter fun x => decide (x ≠ (⟨f, d⟩ : DoorRef)) } } : Part) = q
    have face : q.face f = p.face f := by subst out; exact Part.face_mk ..
    have left : q.queueFree f := by subst out; exact free
    have ended : (onDoor f d (fun x => { x with startT := none }) q).queueFree f :=
      queueFree_of_arb (Part.modFace_arb ..) left
    rw [grantEvent_setting ended, ← face]
    exact q.modFace_keeps FaceRec.setting f f _ fun r => r.modDoor_setting d _ rfl
  · rfl

theorem leaveMachinery_setting (d : DoorIx) : ((leaveMachinery f d p).face f).setting = (p.face f).setting := by
  unfold leaveMachinery
  rw [endStart_setting (fun e mem => free e (List.mem_of_mem_filter mem)), Part.face_mk]

end

/-! ### The orders that turn doors back (R89, R92) -/

/-- A part whose doors of `D` have been turned back. -/
structure Part.Turns (f : Face) (D : DoorIx → Prop) (p q : Part) : Prop extends Part.Spares f D p q where
  setting : (q.face f).setting = (p.face f).setting

theorem Part.Turns.rfl' {f : Face} {D : DoorIx → Prop} {p : Part} (free : p.queueFree f) : p.Turns f D p := ⟨.rfl' free, rfl⟩

theorem Part.Turns.trans {f : Face} {D : DoorIx → Prop} {p q t : Part} (h : p.Turns f D q) (k : q.Turns f D t) : p.Turns f D t :=
  ⟨h.toSpares.trans k.toSpares, k.setting.trans h.setting⟩

theorem Part.Turns.mono {f : Face} {D D' : DoorIx → Prop} {p q : Part} (h : p.Turns f D q) (sub : ∀ d, D d → D' d) :
    p.Turns f D' q := ⟨h.toSpares.mono sub, h.setting⟩

/-- A door that a return-to-open order has reached: a warned, held or queued door stands OPEN (R89). -/
def Door.Returned (x y : Door) : Prop :=
  x.state = .preClose ∨ x.state = .held ∨ x.state = .closeQueued →
    y.state = .opened ∧ y.partialOpen = x.partialOpen ∧ y.order = none ∧ y.forced = false

/-- A door that a reverse order of the operation has reached (R92). -/
structure Door.Reversed (x y : Door) : Prop where
  keyed : x.keyIso = true → y.state = x.state
  shutting : x.state = .closing ∨ x.state = .proving → x.keyIso = false →
    y.state = .reopening ∧ y.reopenCause = some .operation ∧ y.order = none
  opening : x.state = .reopening → x.keyIso = false → x.pauseT = none →
    y.state = .reopening ∧ y.reopenCause = some .operation
  paused : x.state = .reopening → x.keyIso = false → x.pauseT ≠ none →
    y.state = .opened ∧ y.partialOpen = x.partialOpen ∧ y.pauseT = none

theorem Door.returned_of_stance {x x' y y' : Door} (before : x'.stance = x.stance) (after : y'.stance = y.stance)
    (h : Door.Returned x y) : Door.Returned x' y' := by
  have seen : Door.Returned x.stance y.stance := h
  rw [← before, ← after] at seen
  exact seen

theorem Door.reversed_of_stance {x x' y y' : Door} (before : x'.stance = x.stance) (after : y'.stance = y.stance)
    (h : Door.Reversed x y) : Door.Reversed x' y' := by
  have seen : Door.Reversed x.stance y.stance := ⟨h.keyed, h.shutting, h.opening, h.paused⟩
  rw [← before, ← after] at seen
  exact ⟨seen.keyed, seen.shutting, seen.opening, seen.paused⟩

section
variable {f : Face} {d : DoorIx} {why : ReopenCause} {p : Part}

theorem reverseOrder_keyed (key : (p.face f).doors[d.val].keyIso = true) : reverseOrder f d why p = p := if_pos key

theorem reverseOrder_shutting (key : (p.face f).doors[d.val].keyIso = false)
    (s : (p.face f).doors[d.val].state = .closing ∨ (p.face f).doors[d.val].state = .proving) :
    reverseOrder f d why p = enterReopening f d why .order p := by
  unfold reverseOrder
  rcases s with s | s <;> simp only [Fin.getElem_fin, key, s] <;> rfl

theorem reverseOrder_opening (key : (p.face f).doors[d.val].keyIso = false)
    (s : (p.face f).doors[d.val].state = .reopening) (running : (p.face f).doors[d.val].pauseT = none) :
    reverseOrder f d why p = onDoor f d (fun x => { x with reopenCause := some why }) p := by
  unfold reverseOrder
  simp only [Fin.getElem_fin, key, s, running]
  rfl

theorem reverseOrder_paused (key : (p.face f).doors[d.val].keyIso = false)
    (s : (p.face f).doors[d.val].state = .reopening) (paused : (p.face f).doors[d.val].pauseT ≠ none) :
    reverseOrder f d why p = changeDoor f d .order (fun x => x.standOpen x.partialOpen) p := by
  unfold reverseOrder
  simp only [Fin.getElem_fin, key, s, Option.isSome_iff_ne_none.mpr paused]
  rfl

theorem reverseOrder_other (shutting : ¬ ((p.face f).doors[d.val].state = .closing ∨ (p.face f).doors[d.val].state = .proving))
    (reopening : (p.face f).doors[d.val].state ≠ .reopening) : reverseOrder f d why p = p := by
  obtain ⟨closing, proving⟩ := not_or.mp shutting
  unfold reverseOrder
  cases s : (p.face f).doors[d.val].state
  case closing => exact absurd s closing
  case proving => exact absurd s proving
  case reopening => exact absurd s reopening
  all_goals simp only [Fin.getElem_fin, s, ite_self]

end

section
variable {f : Face} {p : Part} (free : p.queueFree f) (d : DoorIx)
include free

/-- A door's change that also takes it out of the start machinery. -/
theorem changedOut_turns (c : DoorCause) {g : Door → Door}
    (judged : (g (p.face f).doors[d.val]).judged = (p.face f).doors[d.val].judged)
    (rests : (g (p.face f).doors[d.val]).state ≠ .unlocking ∧ (g (p.face f).doors[d.val]).state ≠ .released) :
    p.Turns f (· = d) (leaveMachinery f d (changeDoor f d c g p)) := by
  refine ⟨(changedOut_spares free d c g).1, ?_⟩
  rw [leaveMachinery_setting (changeDoor_spares free d c g).free, changeDoor_setting judged rests]

theorem returnToOpen_turns : p.Turns f (· = d) (returnToOpen f d p) ∧
    Door.Returned (p.face f).doors[d.val] ((returnToOpen f d p).face f).doors[d.val] := by
  have changed : p.Turns f (· = d) (leaveMachinery f d (changeDoor f d .order
        (fun x => { x.standOpen x.partialOpen with forced := false }) p)) ∧
      Door.Returned (p.face f).doors[d.val] ((leaveMachinery f d (changeDoor f d .order
        (fun x => { x.standOpen x.partialOpen with forced := false }) p)).face f).doors[d.val] :=
    ⟨changedOut_turns free d .order rfl ⟨nofun, nofun⟩,
      Door.returned_of_stance rfl (changedOut_spares free d .order _).2 fun _ => ⟨rfl, rfl, rfl, rfl⟩⟩
  unfold returnToOpen
  split
  · exact changed
  · exact changed
  · exact changed
  · next preClose held queued =>
    refine ⟨.rfl' free, fun waits => ?_⟩
    rcases waits with s | s | s
    · exact absurd s preClose
    · exact absurd s held
    · exact absurd s queued

theorem enterReopening_turns (why : ReopenCause) (c : DoorCause) : p.Turns f (· = d) (enterReopening f d why c p) ∧
    ((enterReopening f d why c p).face f).doors[d.val].state = .reopening ∧
    ((enterReopening f d why c p).face f).doors[d.val].reopenCause = some why ∧
    ((enterReopening f d why c p).face f).doors[d.val].order = none := by
  generalize out : (fun x : Door => ({ x.stopTimers.enter .reopening with
    reopenCause := some why, order := none, motionT := some (reverseCodes (p.face f) d).timeout } : Door)) = g
  have turned : p.Turns f (· = d) (leaveMachinery f d (changeDoor f d c g p)) :=
    changedOut_turns free d c (by subst out; rfl) (by subst out; exact ⟨nofun, nofun⟩)
  have own := (changedOut_spares free d c g).2
  have entered : enterReopening f d why c p = issueReverse f d (leaveMachinery f d (changeDoor f d c g p)) := by subst out; rfl
  generalize leaveMachinery f d (changeDoor f d c g p) = q at turned own entered
  have doors : (issueReverse f d q).face f = (q.face f).placeMove .reverse [⟨d, (reverseCodes (q.face f) d).speed, 0⟩] :=
    Part.modFace_self ..
  have placed : ((q.face f).placeMove .reverse [⟨d, (reverseCodes (q.face f) d).speed, 0⟩]).geom = (q.face f).geom ∧
      ((q.face f).placeMove .reverse [⟨d, (reverseCodes (q.face f) d).speed, 0⟩]).doors = (q.face f).doors := by
    unfold FaceRec.placeMove; simp only
    split <;> exact ⟨rfl, rfl⟩
  have issued : q.Turns f (· = d) (issueReverse f d q) :=
    ⟨.modFace turned.free placed.1 fun e _ => by rw [placed.2], by rw [doors, placeMove_setting]⟩
  rw [entered]
  refine ⟨turned.trans issued, ?_⟩
  rw [doors, placed.2]
  subst out
  exact ⟨(congrArg Door.state own :), (congrArg Door.reopenCause own :), (congrArg Door.order own :)⟩

theorem reverseOrder_turns : p.Turns f (· = d) (reverseOrder f d .operation p) ∧
    Door.Reversed (p.face f).doors[d.val] ((reverseOrder f d .operation p).face f).doors[d.val] := by
  by_cases key : (p.face f).doors[d.val].keyIso = true
  · rw [reverseOrder_keyed key]
    exact ⟨.rfl' free, fun _ => rfl, fun _ n => absurd key (by rw [n]; decide), fun _ n => absurd key (by rw [n]; decide),
      fun _ n => absurd key (by rw [n]; decide)⟩
  have clear := Bool.eq_false_iff.mpr key
  by_cases shutting : (p.face f).doors[d.val].state = .closing ∨ (p.face f).doors[d.val].state = .proving
  · have moves : (p.face f).doors[d.val].state ≠ .reopening := by rcases shutting with s | s <;> rw [s] <;> decide
    rw [reverseOrder_shutting clear shutting]
    obtain ⟨turned, entered⟩ := enterReopening_turns free d .operation .order
    exact ⟨turned, fun k => absurd k key, fun _ _ => entered, fun s => absurd s moves, fun s => absurd s moves⟩
  by_cases reopening : (p.face f).doors[d.val].state = .reopening
  · by_cases running : (p.face f).doors[d.val].pauseT = none
    · rw [reverseOrder_opening clear reopening running]
      have own : ((onDoor f d (fun x => { x with reopenCause := some .operation }) p).face f).doors[d.val] =
          { (p.face f).doors[d.val] with reopenCause := some .operation } := by
        unfold onDoor
        rw [Part.modFace_self, FaceRec.modDoor_doors_self]
      refine ⟨⟨.modFace free rfl fun e n => by rw [FaceRec.modDoor_doors_other _ (Ne.symm n)],
        p.modFace_keeps FaceRec.setting f f _ fun r => r.modDoor_setting d _ rfl⟩, fun k => absurd k key,
        fun s => absurd s shutting, fun _ _ _ => ?_, fun _ _ n => absurd running n⟩
      rw [own]
      exact ⟨reopening, rfl⟩
    · rw [reverseOrder_paused clear reopening running]
      have own := changeDoor_stance f d d .order (fun x => x.standOpen x.partialOpen) p
      rw [if_pos rfl] at own
      exact ⟨⟨changeDoor_spares free d .order _, changeDoor_setting rfl ⟨nofun, nofun⟩⟩, fun k => absurd k key,
        fun s => absurd s shutting, fun _ _ n => absurd n running,
        fun _ _ _ => ⟨(congrArg Door.state own :), (congrArg Door.partialOpen own :), (congrArg Door.pauseT own :)⟩⟩
  · rw [reverseOrder_other shutting reopening]
    exact ⟨.rfl' free, fun k => absurd k key, fun s => absurd s shutting, fun s => absurd s reopening,
      fun s => absurd s reopening⟩

end

/-- An order that turns its own door back, given to different doors, turns each of them once. -/
theorem forDoors_turns {f : Face} {order : DoorIx → Part → Part} {R : Door → Door → Prop}
    (seen : ∀ {x x' y y' : Door}, x'.stance = x.stance → y'.stance = y.stance → R x y → R x' y')
    (one : ∀ (d : DoorIx) {q : Part}, q.queueFree f →
      q.Turns f (· = d) (order d q) ∧ R (q.face f).doors[d.val] ((order d q).face f).doors[d.val])
    {ds : List DoorIx} (each : ds.Nodup) {p : Part} (free : p.queueFree f) :
    p.Turns f (· ∈ ds) (forDoors ds order p) ∧
    ∀ d ∈ ds, R (p.face f).doors[d.val] ((forDoors ds order p).face f).doors[d.val] := by
  induction ds generalizing p with
  | nil => exact ⟨.rfl' free, nofun⟩
  | cons d ds ih =>
    obtain ⟨apart, each⟩ := List.nodup_cons.mp each
    obtain ⟨step, own⟩ := one d free
    obtain ⟨rest, others⟩ := ih each step.free
    refine ⟨(step.mono fun e same => same ▸ List.mem_cons_self).trans (rest.mono fun e => List.mem_cons_of_mem d),
      fun e mem => ?_⟩
    rcases List.mem_cons.mp mem with rfl | mem
    · exact seen rfl (rest.doors e apart) own
    · exact seen (step.doors e fun same => apart (same ▸ mem)).symm rfl (others e mem)

end Sys2Proof.Machine

namespace Sys2Proof.Machine

/-! ### The end of a CLOSE that is overtaken (R101, R109, R133) -/

/-- A gap check that neither runs nor stands FAILED, its timer stopped. -/
structure GapRec.Idle (g : GapRec) : Prop where
  running : g.state ≠ .running
  failed : g.state ≠ .failed
  timer : g.timer = none

/-- A face with an idle gap check and no operation has nothing due but a handover. -/
theorem FaceRec.even_of_idle {r : FaceRec} (idle : r.gap.Idle) (kept : r.mode.mode = .auto → r.mode.handover = false) :
    ({ r with op := none } : FaceRec).Even := by
  refine ⟨nofun, fun failed => absurd failed idle.failed, iff_of_false ?_ fun ⟨running, _⟩ => idle.running running,
    fun auto pending => absurd ((kept auto).symm.trans pending) nofun⟩
  show ¬ r.gap.timer.isSome = true
  rw [idle.timer]
  decide

/-- An abandoned check is idle; beside it only the reopen cycles of the face have ended (R133). -/
theorem abandonGap_scene {f : Face} {p : Part} (stopped : (p.face f).gap.state ≠ .running → (p.face f).gap.timer = none) :
    ∃ g : GapRec, g.Idle ∧ ((abandonGap f p).face f).scene = ({ endCycles (p.face f) with gap := g } : FaceRec).scene := by
  have face : (p.modFace f endCycles).face f = endCycles (p.face f) := Part.modFace_self ..
  have gap : (endCycles (p.face f)).gap = (p.face f).gap := rfl
  have pending := gapTo_scene f .pending .abandoned none (p.modFace f endCycles)
  rw [face, gap] at pending
  unfold abandonGap; simp only
  rw [face, gap]
  cases state : (p.face f).gap.state
  case running | failed =>
    refine ⟨_, ?_, pending⟩
    exact ⟨nofun, nofun, rfl⟩
  all_goals
    refine ⟨(p.face f).gap, ⟨?_, ?_, stopped ?_⟩, congrArg FaceRec.scene face⟩
    all_goals rw [state]; decide

theorem abandonGap_arb (f : Face) (p : Part) : (abandonGap f p).arb = p.arb := by
  have ended : (p.modFace f endCycles).arb = p.arb := p.modFace_arb ..
  have set (c : GapCause) (q : Part) : (gapTo f .pending c none q).arb = q.arb :=
    congrArg (fun w => w.2.2.2.1) (gapTo_inv (kept_stillInv q) f trivial _ c none ⟨fun _ => rfl, rfl⟩).2
  unfold abandonGap; simp only
  split
  · rw [set, ended]
  · rw [set, ended]
  all_goals exact ended

theorem endOpEarly_arb (f : Face) (e : EndCause) (p : Part) : (endOpEarly f e p).arb = p.arb :=
  congrArg (fun w => w.2.2.2.1) (endOpEarly_inv (kept_stillInv p) f trivial e ⟨fun _ => rfl, rfl⟩).2

/-- The early end of a CLOSE in SERVING: its record and its warning go, and a secured face is cleared (R30, R101). -/
theorem endOpEarly_close {f : Face} {e : EndCause} {op : Op} {p : Part} (running : (p.face f).op = some op)
    (close : op.kind = .close) (awake : (p.face f).mode.mode ≠ .standby) (serves : (p.face f).berth.state = .serving) :
    ∃ b : Berth, (b.state = .serving ∨ b.state = .cleared) ∧ b.dwell = (p.face f).berth.dwell ∧
      ((endOpEarly f e p).face f).scene = ({ p.face f with op := none, warning := none, berth := b } : FaceRec).scene := by
  generalize report : (Report.opDone f (op.settlePending .excluded) e .notRequired) = rep
  generalize stops : (p.modFace f fun r => { r with op := some (op.settlePending .excluded), warning := none }) = t
  have stopped : t.face f = { p.face f with op := some (op.settlePending .excluded), warning := none } := by
    subst stops; exact Part.modFace_self ..
  generalize ends : ((queueReport rep t).modFace f fun r => { r with op := none }) = q
  have face : q.face f = { p.face f with op := none, warning := none } := by
    subst ends
    rw [Part.modFace_self, queueReport_face, stopped]
  have early : endOpEarly f e p = closeEndNotice f q := by
    subst ends report
    unfold endOpEarly endOp
    simp only [running, close, stops, stopped]
    rw [show (op.settlePending .excluded).kind = .close from close]
  rw [early]
  unfold closeEndNotice; simp only
  split
  · refine ⟨{ (p.face f).berth with state := .cleared, settle := none }, .inr rfl, rfl, ?_⟩
    rw [enterBerth_face (by rw [face]; exact awake) (settlesGap_of (new := .cleared) nofun nofun), Part.modFace_self,
      refreshCues_scene, face]
    rfl
  · exact ⟨(p.face f).berth, .inl serves, rfl, by rw [face]⟩

/-- What a scene tells of a face. -/
theorem fields_of_scene {x y : FaceRec} (h : x.scene = y.scene) : x.op = y.op ∧ x.warning = y.warning ∧
    (x.mode.mode = y.mode.mode ∧ x.mode.handover = y.mode.handover) ∧ x.standing = y.standing ∧ x.gap = y.gap ∧
    ∀ d : DoorIx, x.doors[d.val].core = y.doors[d.val].core := by
  simp only [FaceRec.scene, Prod.mk.injEq] at h
  obtain ⟨backdrop, gap, doors⟩ := h
  exact ⟨(congrArg Backdrop.op backdrop :), (congrArg Backdrop.warning backdrop :),
    ⟨(congrArg (fun t => t.mode.mode) backdrop :), (congrArg (fun t => t.mode.handover) backdrop :)⟩,
    (congrArg Backdrop.standing backdrop :), gap, congrFun doors⟩

/-- A face whose CLOSE in SERVING has ended early, against the face `r` it was. -/
structure FaceRec.CloseOver (r x : FaceRec) : Prop where
  op : x.op = none
  warning : x.warning = none
  gap : x.gap.Idle
  mode : x.mode.mode = r.mode.mode ∧ x.mode.handover = r.mode.handover
  berth : x.berth.state = .serving ∨ x.berth.state = .cleared
  dwell : x.berth.dwell = r.berth.dwell
  geom : x.geom = r.geom
  verdict : ∀ d : DoorIx, x.doors[d.val].verdict = r.doors[d.val].verdict

/-- The setting of a face is all that the end of its CLOSE is measured by. -/
theorem FaceRec.CloseOver.of_setting {r r' x : FaceRec} (h : r'.CloseOver x) (same : r'.setting = r.setting) : r.CloseOver x := by
  simp only [FaceRec.setting, Prod.mk.injEq] at same
  obtain ⟨_, _, ⟨mode, handover⟩, standing⟩ := same
  exact { h with
    mode := ⟨h.mode.1.trans mode, h.mode.2.trans handover⟩
    dwell := h.dwell.trans (congrArg (fun t => t.berth.dwell) standing :)
    geom := h.geom.trans (congrArg Standing.geom standing :)
    verdict := fun d => (h.verdict d).trans (congrArg (fun t => (t.doors d).1) standing :) }

/-- The gap check of the CLOSE is abandoned and the CLOSE ends SUPERSEDED (R109). -/
theorem supersede_over {f : Face} {e : EndCause} {op : Op} {p : Part} (running : (p.face f).op = some op)
    (close : op.kind = .close) (awake : (p.face f).mode.mode ≠ .standby) (serves : (p.face f).berth.state = .serving)
    (stopped : (p.face f).gap.state ≠ .running → (p.face f).gap.timer = none) :
    (p.face f).CloseOver ((endOpEarly f e (abandonGap f p)).face f) ∧
    ∀ d : DoorIx, ((endOpEarly f e (abandonGap f p)).face f).doors[d.val].core = (p.face f).doors[d.val].core := by
  obtain ⟨g, idle, abandoned⟩ := abandonGap_scene stopped
  obtain ⟨op₁, _, ⟨mode₁, handover₁⟩, standing₁, gap₁, doors₁⟩ := fields_of_scene abandoned
  have berth₁ : ((abandonGap f p).face f).berth = (p.face f).berth := (congrArg Standing.berth standing₁ :)
  obtain ⟨b, state, dwell, ended⟩ := endOpEarly_close (e := e) (op₁.trans running) close (by rw [mode₁]; exact awake)
    (by rw [berth₁]; exact serves)
  obtain ⟨op₂, warning₂, ⟨mode₂, handover₂⟩, standing₂, gap₂, doors₂⟩ := fields_of_scene ended
  have berth₂ : ((endOpEarly f e (abandonGap f p)).face f).berth = b := (congrArg Standing.berth standing₂ :)
  have doors (d : DoorIx) := (doors₂ d).trans (doors₁ d)
  refine ⟨{
    op := op₂
    warning := warning₂
    gap := by rw [gap₂]; exact gap₁ ▸ idle
    mode := ⟨mode₂.trans mode₁, handover₂.trans handover₁⟩
    berth := by rw [berth₂]; exact state
    dwell := by rw [berth₂, dwell, berth₁]
    geom := (congrArg Standing.geom standing₂ :).trans (congrArg Standing.geom standing₁ :)
    verdict := fun d => (congrArg Door.verdict (doors d) :) }, doors⟩

/-! ### The doors that an OPEN brings over from the CLOSE it overtakes (R109) -/

theorem mem_targetsIn {r : FaceRec} {states : List DoorState} {d : DoorIx} :
    d ∈ r.targetsIn states ↔ r.follows d ∧ r.doors[d.val].state ∈ states := by
  unfold FaceRec.targetsIn FaceRec.follows
  cases running : r.op with
  | none => simp
  | some op => simp [allDoors]

theorem targetsIn_nodup (r : FaceRec) (states : List DoorState) : (r.targetsIn states).Nodup := by
  unfold FaceRec.targetsIn
  split
  · exact List.nodup_nil
  · exact (List.nodup_finRange 24).filter _

/-- The warned, held and queued targets of the CLOSE: they return to OPEN. -/
def FaceRec.returns (r : FaceRec) : List DoorIx := r.targetsIn [.preClose, .held, .closeQueued]

/-- The targets of the CLOSE that get a reverse order: those reopening, and those on the way shut that the OPEN selects. -/
def FaceRec.reverses (r : FaceRec) (q : OpenReq) : List DoorIx :=
  r.targetsIn [.reopening] ++ (r.targetsIn [.closing, .proving]).filter fun d =>
    decide (r.doors[d].verdict = .vMatch) && q.selects d

section
variable {r : FaceRec} {q : OpenReq} {d : DoorIx}

theorem mem_returns : d ∈ r.returns ↔ r.follows d ∧
    (r.doors[d.val].state = .preClose ∨ r.doors[d.val].state = .held ∨ r.doors[d.val].state = .closeQueued) := by
  simp [FaceRec.returns, mem_targetsIn]

theorem mem_reverses : d ∈ r.reverses q ↔ r.follows d ∧ (r.doors[d.val].state = .reopening ∨
    ((r.doors[d.val].state = .closing ∨ r.doors[d.val].state = .proving) ∧
      r.doors[d.val].verdict = .vMatch ∧ q.selects d = true)) := by
  simp only [FaceRec.reverses, List.mem_append, List.mem_filter, mem_targetsIn, List.mem_cons, List.not_mem_nil, or_false,
    Fin.getElem_fin, Bool.and_eq_true, decide_eq_true_eq, and_assoc, ← and_or_left]

theorem reverses_nodup (r : FaceRec) (q : OpenReq) : (r.reverses q).Nodup := by
  refine List.nodup_append'.mpr ⟨targetsIn_nodup .., (targetsIn_nodup ..).filter _, fun d turned shutting => ?_⟩
  have reopening := (mem_targetsIn.mp turned).2
  have moves := (mem_targetsIn.mp (List.mem_of_mem_filter shutting)).2
  rw [List.mem_singleton.mp reopening] at moves
  exact absurd moves (by decide)

theorem notReturned_of_reverses (h : d ∈ r.reverses q) : d ∉ r.returns := fun back => by
  obtain ⟨_, moves⟩ := mem_reverses.mp h
  obtain ⟨_, waits⟩ := mem_returns.mp back
  rcases waits with s | s | s <;> rw [s] at moves <;> exact absurd moves (by simp)

/-- A door brought over was not shut. -/
theorem notShut_of_brought (h : d ∈ r.returns ∨ d ∈ r.reverses q) : r.doors[d.val].state ≠ .closedLocked := by
  rcases h with back | turned
  · rcases (mem_returns.mp back).2 with s | s | s <;> rw [s] <;> decide
  · rcases (mem_reverses.mp turned).2 with s | ⟨s | s, _⟩ <;> rw [s] <;> decide

end

theorem overtakeClose_eq {f : Face} {q : OpenReq} {p : Part} {op : Op} (running : (p.face f).op = some op)
    (close : op.kind = .close) : overtakeClose f q p =
    (endOpEarly f .superseded (abandonGap f (forDoors ((p.face f).reverses q) (fun d => reverseOrder f d .operation)
      (forDoors (p.face f).returns (returnToOpen f) p))),
     allDoors.filter fun d => ((p.face f).returns ++ (p.face f).reverses q).contains d) := by
  have both (xs ys : List DoorIx) (order : DoorIx → Part → Part) (t : Part) :
      forDoors ys order (forDoors xs order t) = forDoors (xs ++ ys) order t := List.foldl_append.symm
  unfold overtakeClose
  simp only [running, close, both, List.append_assoc]
  rfl

/-- The face `x` of which the doors of the CLOSE that stood in `r` have been turned back, and the CLOSE has ended. -/
structure FaceRec.Overtaken (r : FaceRec) (q : OpenReq) (x : FaceRec) : Prop extends r.CloseOver x where
  returned : ∀ d ∈ r.returns, Door.Returned r.doors[d.val] x.doors[d.val]
  reversed : ∀ d ∈ r.reverses q, Door.Reversed r.doors[d.val] x.doors[d.val]
  others : ∀ d, d ∉ r.returns → d ∉ r.reverses q → x.doors[d.val].stance = r.doors[d.val].stance

/-- An OPEN overtakes a CLOSE in SERVING, with no start of the face queued (R109). -/
theorem overtakeClose_overtaken {f : Face} {q : OpenReq} {p : Part} {op : Op} (free : p.queueFree f)
    (running : (p.face f).op = some op) (close : op.kind = .close) (awake : (p.face f).mode.mode ≠ .standby)
    (serves : (p.face f).berth.state = .serving)
    (stopped : (p.face f).gap.state ≠ .running → (p.face f).gap.timer = none) :
    (overtakeClose f q p).1.queueFree f ∧ (p.face f).Overtaken q ((overtakeClose f q p).1.face f) := by
  rw [overtakeClose_eq running close]
  obtain ⟨returns, returned⟩ : p.Turns f (· ∈ (p.face f).returns) (forDoors (p.face f).returns (returnToOpen f) p) ∧
      ∀ d ∈ (p.face f).returns, Door.Returned (p.face f).doors[d.val]
        ((forDoors (p.face f).returns (returnToOpen f) p).face f).doors[d.val] :=
    forDoors_turns Door.returned_of_stance (fun d _ free => returnToOpen_turns free d) (targetsIn_nodup ..) free
  obtain ⟨reverses, reversed⟩ := forDoors_turns Door.reversed_of_stance (fun d _ free => reverseOrder_turns free d)
    (reverses_nodup (p.face f) q) returns.free
  generalize forDoors (p.face f).returns (returnToOpen f) p = s at returns returned reverses reversed
  generalize forDoors ((p.face f).reverses q) (fun d => reverseOrder f d .operation) s = t at reverses reversed
  have setting := reverses.setting.trans returns.setting
  have same := setting
  simp only [FaceRec.setting, Prod.mk.injEq] at same
  obtain ⟨kind, gap, ⟨mode, _⟩, standing⟩ := same
  have berth : (t.face f).berth = (p.face f).berth := (congrArg Standing.berth standing :)
  obtain ⟨op', running', closes⟩ := Option.map_eq_some_iff.mp (kind.trans (congrArg (Option.map Op.kind) running))
  obtain ⟨ended, core⟩ := supersede_over (e := .superseded) running' (closes.trans close) (by rw [mode]; exact awake)
    (by rw [berth]; exact serves) (by rw [gap]; exact stopped)
  have stance (d : DoorIx) := Door.stance_of_core (core d)
  refine ⟨queueFree_of_arb ((endOpEarly_arb ..).trans (abandonGap_arb ..)) reverses.free, ended.of_setting setting,
    fun d mem => ?_, fun d mem => ?_, fun d back turned => ?_⟩
  · refine Door.returned_of_stance rfl ((stance d).trans (reverses.doors d fun turned => ?_)) (returned d mem)
    exact notReturned_of_reverses turned mem
  · exact Door.reversed_of_stance (returns.doors d (notReturned_of_reverses mem)).symm (stance d) (reversed d mem)
  · exact (stance d).trans ((reverses.doors d turned).trans (returns.doors d back))

end Sys2Proof.Machine

namespace Sys2Proof.Machine

/-! ### The doors of an overtaken CLOSE (R103, R109) -/

theorem Door.TurnedBack.of_stance {turns : Prop} {x y y' : Door} (h : Door.TurnedBack turns x y) (after : y'.stance = y.stance) :
    Door.TurnedBack turns x y' := by
  have seen : Door.TurnedBack turns x y.stance := ⟨h.warned, h.reopening, h.closing⟩
  rw [← after] at seen
  exact ⟨seen.warned, seen.reopening, seen.closing⟩

section
variable {r x : FaceRec} {q : OpenReq} {d : DoorIx} (h : r.Overtaken q x)
include h

theorem FaceRec.Overtaken.state_of_other (back : d ∉ r.returns) (turned : d ∉ r.reverses q) :
    x.doors[d.val].state = r.doors[d.val].state := (congrArg Door.state (h.others d back turned) :)

/-- A door brought over is not shut by its turn. -/
theorem FaceRec.Overtaken.notShut (brought : d ∈ r.returns ∨ d ∈ r.reverses q) : x.doors[d.val].state ≠ .closedLocked := by
  rcases brought with back | turned
  · rw [(h.returned d back (mem_returns.mp back).2).1]
    decide
  · have reversed := h.reversed d turned
    cases key : r.doors[d.val].keyIso
    case true =>
      rw [reversed.keyed key]
      exact notShut_of_brought (.inr turned)
    case false =>
      rcases (mem_reverses.mp turned).2 with s | ⟨s, _⟩
      · by_cases running : r.doors[d.val].pauseT = none
        · rw [(reversed.opening s key running).1]; decide
        · rw [(reversed.paused s key running).1]; decide
      · rw [(reversed.shutting s key).1]; decide

/-- The OPEN selects what it would have selected before the doors were turned back (R103). -/
theorem FaceRec.Overtaken.mem_openSelection : d ∈ openSelection x q ↔ d ∈ openSelection r q := by
  have configured : x.configured d = r.configured d := congrFun (FaceRec.configured_of_geom h.geom) d
  rw [Machine.mem_openSelection, Machine.mem_openSelection, configured, h.verdict]
  by_cases brought : d ∈ r.returns ∨ d ∈ r.reverses q
  · exact iff_of_false (fun s => h.notShut brought s.2.1) fun s => notShut_of_brought brought s.2.1
  · obtain ⟨back, turned⟩ := not_or.mp brought
    have iso : x.doors[d.val].iso = r.doors[d.val].iso := (congrArg Door.iso (h.others d back turned) :)
    rw [h.state_of_other back turned, iso]

/-- The followed targets of the CLOSE have been turned back (R92, R109). -/
theorem FaceRec.Overtaken.turnedBack (follows : r.follows d) :
    Door.TurnedBack (r.doors[d.val].verdict = .vMatch ∧ q.selects d = true) r.doors[d.val] x.doors[d.val] := by
  have turning (s : r.doors[d.val].state = .reopening) := h.reversed d (mem_reverses.mpr ⟨follows, .inl s⟩)
  refine ⟨fun warned => ?_, fun s key => ⟨fun running => (turning s).opening s key running,
    fun paused => (turning s).paused s key paused⟩, fun shutting key => ⟨fun selected => ?_, fun other => ?_⟩⟩
  · have waits := warned.imp_right (Or.inl (b := r.doors[d.val].state = .closeQueued))
    exact h.returned d (mem_returns.mpr ⟨follows, waits⟩) waits
  · exact (h.reversed d (mem_reverses.mpr ⟨follows, .inr ⟨shutting, selected⟩⟩)).shutting shutting key
  · refine h.state_of_other (fun back => ?_) fun turned => ?_
    · rcases (mem_returns.mp back).2 with s | s | s <;> rw [s] at shutting <;> exact absurd shutting (by decide)
    · rcases (mem_reverses.mp turned).2 with s | ⟨_, selected⟩
      · rw [s] at shutting
        exact absurd shutting (by decide)
      · exact other selected

/-- A door that the CLOSE does not follow stands. -/
theorem FaceRec.Overtaken.state_of_unfollowed (free : ¬ r.follows d) : x.doors[d.val].state = r.doors[d.val].state :=
  h.state_of_other (fun back => free (mem_returns.mp back).1) fun turned => free (mem_reverses.mp turned).1

end

/-! ### An OPEN that overtakes a CLOSE, to the end of its event (R103, R109) -/

/-- The face after the event in which an OPEN of the host overtakes a CLOSE in SERVING. -/
theorem settle_overtaking {f : Face} {p : Part} {q : OpenReq} {op : Op} {sel : DoorIx → Bool} (even : (p.face f).Even)
    (free : p.queueFree f) (running : (p.face f).op = some op) (close : op.kind = .close)
    (serves : (p.face f).berth.state = .serving) (auto : (p.face f).mode.mode = .auto)
    (kept : (p.face f).mode.handover = false) (selects : ∀ d, sel d = true ↔ d ∈ openSelection (p.face f) q) :
    OvertakenByOpen q.source q.tag sel q.selects (p.face f) ((settle (takeOpen f q p)).face f) := by
  have stopped (n : (p.face f).gap.state ≠ .running) : (p.face f).gap.timer = none :=
    Option.not_isSome_iff_eq_none.mp fun runs => n (even.timer.mp runs).1
  obtain ⟨left, turned⟩ := overtakeClose_overtaken (q := q) free running close (by rw [auto]; decide) serves stopped
  obtain ⟨t, brought, parted⟩ : ∃ t brought, overtakeClose f q p = (t, brought) := ⟨_, _, rfl⟩
  have origin : brought = allDoors.filter fun d => ((p.face f).returns ++ (p.face f).reverses q).contains d := by
    rw [overtakeClose_eq running close] at parted
    exact (Prod.mk.inj parted).2.symm
  rw [parted] at left turned
  have auto' : (t.face f).mode.mode = .auto := turned.mode.1.trans auto
  have kept' : (t.face f).mode.handover = false := turned.mode.2.trans kept
  have train : (t.face f).hasTrain := by
    unfold FaceRec.hasTrain
    rcases turned.berth with s | s <;> rw [s] <;> decide
  have given := settle_giveOut
    (op := ⟨.opn, q.source, q.tag, none, (t.face f).berth.dwell, openTargets (t.face f) q brought⟩)
    left (by rw [auto']; decide) train rfl rfl (openSelection_nodup (t.face f) q) (fun _ => takesOpen_of_selected)
    (FaceRec.even_of_idle turned.gap fun _ => kept') fun _ => kept'
  rw [← takeOpen_eq parted] at given
  generalize (settle (takeOpen f q p)).face f = z at given
  have chosen (d : DoorIx) : d ∈ openSelection (t.face f) q ↔ sel d = true := turned.mem_openSelection.trans (selects d).symm
  have shut {d : DoorIx} (on : sel d = true) : (p.face f).doors[d.val].state = .closedLocked :=
    (mem_openSelection.mp ((selects d).mp on)).2.1
  exact {
    op := fun o is => by
      rw [given.op] at is
      split at is
      · cases is
      · cases is
        exact ⟨rfl, rfl, rfl, turned.dwell⟩
    started := fun ⟨d, on⟩ none' => by
      have fresh : d ∉ brought := fun mem => by
        rw [origin, List.mem_filter] at mem
        exact notShut_of_brought (q := q) (by simpa using mem.2) (shut on)
      rw [given.op, if_neg (incomplete_of_pending (pending_of_selected ((chosen d).mpr on) fresh))] at none'
      cases none'
    warning := given.warning.trans turned.warning
    gap := by
      rcases given.gap with s | s <;> rw [s]
      · decide
      · exact ⟨turned.gap.running, turned.gap.failed⟩
    berth := ⟨given.berth.state (turned.berth.elim (fun s => .inr (.inr s)) fun s => .inr (.inl s)), given.berth.served⟩
    opened := fun d on => given.opened d ((chosen d).mpr on)
    targets := fun d follows => by
      by_cases on : sel d = true
      · refine ⟨fun s => ?_, fun s => ?_, fun s => ?_⟩
        all_goals
          simp only [Fin.getElem_fin, shut on] at s
          exact absurd s (by decide)
      · exact (turned.turnedBack follows).of_stance (Door.stance_of_core (given.others d (mt (chosen d).mp on)))
    others := fun d free off => by
      have core := given.others d (mt (chosen d).mp (Bool.eq_false_iff.mp off))
      exact (congrArg Door.state core :).trans (turned.state_of_unfollowed free) }

theorem openFace_overtakes {f : Face} {tag flag m1 m2 m3 : Byte} {op : Op} {s : State} (host : s.HostFree)
    (settled : ∀ f, (s.part.face f).Settled) (here : s.part.present f = true) (free : s.part.queueFree f)
    (quiet : (s.part.face f).enumerating = false) (running : (s.part.face f).op = some op) (close : op.kind = .close)
    (serves : (s.part.face f).berth.state = .serving) (auto : (s.part.face f).mode.mode = .auto)
    (kept : (s.part.face f).mode.handover = false) (unmasked : flag.getLsbD 1 = false)
    (stands : (s.part.face f).align.status = .aligned ∨
      ((s.part.face f).align.status = .marginal ∧ flag.getLsbD 0 = true)) :
    ∃ q, exec (.openFace tag [faceCode f, flag, m1, m2, m3]) s = .next (s.answered ⟨0xA2, tag, .accepted, 0, 0, []⟩ q) ∧
      OvertakenByOpen .host tag (s.part.face f).byVerdict (fun _ => true) (s.part.face f) (q.face f) := by
  have none' : (hostReq tag flag m1 m2 m3).mask = none := if_neg (Bool.eq_false_iff.mp unmasked)
  have all : (hostReq tag flag m1 m2 m3).selects = fun _ => true := funext fun _ => by rw [OpenReq.selects, none']
  have overtakes : openBlocked (s.part.face f) = false := Bool.eq_false_iff.mpr fun blocked => by
    rcases (openBlocked_op running).mp blocked with opens | away
    · rw [close] at opens
      cases opens
    · exact away serves
  have passes := openCheck_unmasked (q := hostReq tag flag m1 m2 m3) here quiet (modeCheck_auto (.inl rfl) auto kept) overtakes
    (noTrainFor_standing _ (.inr (.inl serves))) (.inr ((openable_iff _ _).mpr stands)) none'
  refine ⟨_, openFace_taken host here passes, ?_⟩
  have overtaken := settle_overtaking (q := hostReq tag flag m1 m2 m3) (settled f).even free running close serves auto kept
    (byVerdict_iff_unmasked nofun none')
  rwa [all] at overtaken

end Sys2Proof.Machine

namespace Sys2Proof.Proofs

open Sys2Proof.Machine

/-- Settles O42: an OPEN that passes its checks is given out to the doors it selects, by the host with and without a mask,
over a CLOSE, by the notice and by the panel. -/
theorem openingTaken : Obligations.OpeningTaken := by
  refine ⟨?unmasked, ?masked, ?overtaking, ?notice, ?panel⟩
  case unmasked =>
    intro tag flag m1 m2 m3 f s host settled here free ready auto kept unmasked stands
    exact openFace_unmasked host settled here free ready auto kept stands unmasked
  case masked =>
    intro tag flag m1 m2 m3 f s host settled here free ready auto kept masked stands mask names matched
    exact openFace_masked host settled here free ready auto kept stands masked names matched
  case overtaking =>
    intro tag flag m1 m2 m3 f op s host settled here free quiet running close serves auto kept unmasked stands
    exact openFace_overtakes host settled here free quiet running close serves auto kept unmasked stands
  case notice =>
    intro f s settled here
    refine ⟨automaticOpeningNotice_none settled here, fun _ stale => ?_, automaticOpeningNotice_opens settled here⟩
    exact automaticOpeningNotice_dropped settled here fun _ => stale
  case panel =>
    intro f s settled here free ready localCtl edge
    refine ⟨fun one stands => ?_, fun all => ?_⟩
    · exact pOpenEdge_opens settled here free ready localCtl edge (by rw [one]; rfl) (.inr stands)
        (byVerdict_iff_unmasked nofun rfl)
    · exact pOpenEdge_opens settled here free ready localCtl edge (by rw [all]; rfl) (.inl rfl) (panelAll_iff rfl)

end Sys2Proof.Proofs

/-! The cues of the doors (R72, R96): the row of the table a door's cue is chosen by, and what a choice changes. -/

namespace Sys2Proof.Machine

/-! ### The table of cues (R96) -/

theorem Berth.trainPresent_iff (b : Berth) :
    b.trainPresent = true ↔ b.state = .stopped ∨ b.state = .serving ∨ b.state = .cleared := by
  unfold Berth.trainPresent
  cases b.state <;> simp

/-- The states in which the cue follows isolation and verdict. -/
def DoorState.showsVerdict (s : DoorState) : Prop :=
  s = .closedLocked ∨ s = .openQueued ∨ s = .unlocking ∨ s = .opening ∨ s = .opened ∨ s = .lost

/-- The row of the table for those states, with a train present or not. -/
def Door.verdictCue (x : Door) (train : Bool) : Cue :=
  if x.iso ≠ .none ∧ train then .noService
  else
    match x.verdict with
    | .vMatch => if train then .openHere else .dark
    | .vPartial | .vNone => .noService
    | .vUnknown => .dark

theorem chosenCue_verdict {r : FaceRec} {d : DoorIx} (h : r.doors[d].state.showsVerdict) :
    chosenCue r d = r.doors[d].verdictCue r.berth.trainPresent := by
  unfold chosenCue
  rcases h with h | h | h | h | h | h <;> simp only [h] <;> rfl

section
variable {x : Door} {train : Bool}

theorem Door.verdictCue_isolated (iso : x.iso ≠ .none) : x.verdictCue true = .noService := if_pos ⟨iso, rfl⟩

variable (free : x.iso = .none ∨ train = false)
include free

theorem Door.not_isolated : ¬ (x.iso ≠ .none ∧ train = true) := fun ⟨iso, here⟩ =>
  free.elim iso fun away => by rw [away] at here; cases here

theorem Door.verdictCue_match (h : x.verdict = .vMatch) : x.verdictCue train = if train then .openHere else .dark := by
  unfold Door.verdictCue
  rw [if_neg (Door.not_isolated free), h]

theorem Door.verdictCue_unknown (h : x.verdict = .vUnknown) : x.verdictCue train = .dark := by
  unfold Door.verdictCue
  rw [if_neg (Door.not_isolated free), h]

omit free in
theorem Door.verdictCue_refused (h : x.verdict = .vPartial ∨ x.verdict = .vNone) : x.verdictCue train = .noService := by
  unfold Door.verdictCue
  rcases h with h | h <;> rw [h] <;> exact ite_self _

end

/-! ### A choice (R72, R96) -/

section
variable {r : FaceRec} {d : DoorIx}

theorem chooseCue_same (h : chosenCue r d = r.doors[d].cue) : chooseCue d r = r := if_neg fun c => c.2 h

theorem chooseCue_changed (set : r.configured d = true) (h : chosenCue r d ≠ r.doors[d].cue) :
    chooseCue d r = (r.modDoor d fun x => { x with cue := chosenCue r d }).modHealth d fun x =>
      { x with pendingCue := if x.lastCue = some (chosenCue r d) then none else some (chosenCue r d) } :=
  (if_pos ⟨set, h⟩).trans (if_pos set)

theorem chooseCue_cue (set : r.configured d = true) : (chooseCue d r).doors[d].cue = chosenCue r d := by
  by_cases h : chosenCue r d = r.doors[d].cue
  · rw [chooseCue_same h, h]
  · rw [chooseCue_changed set h]; simp

theorem chooseCue_pending (set : r.configured d = true) (h : chosenCue r d ≠ r.doors[d].cue) :
    (chooseCue d r).health[d].pendingCue =
      if r.health[d].lastCue = some (chosenCue r d) then none else some (chosenCue r d) := by
  rw [chooseCue_changed set h]
  exact congrArg Health.pendingCue (FaceRec.modHealth_health_self ..)

theorem chooseCue_other {e : DoorIx} (n : e ≠ d) :
    (chooseCue d r).doors[e] = r.doors[e] ∧ (chooseCue d r).health[e] = r.health[e] := by
  by_cases h : r.configured d = true ∧ chosenCue r d ≠ r.doors[d].cue
  · rw [chooseCue_changed h.1 h.2]
    simp [FaceRec.modDoor_doors_other _ n.symm, FaceRec.modHealth_health_other _ n.symm]
  · rw [chooseCue, if_neg h]; exact ⟨rfl, rfl⟩

end

end Sys2Proof.Machine

namespace Sys2Proof.Proofs

open Sys2Proof.Machine

/-- Settles O59: the cue of a configured door is the chosen one, which is read off the table row by row. -/
theorem cuesChosen : Obligations.CuesChosen := by
  intro r d set x train q c
  have chosen : c = chosenCue r d := chooseCue_cue set
  have present : r.berth.trainPresent = true ↔ train := Berth.trainPresent_iff _
  clear_value c
  subst chosen
  refine ⟨?_, ?_, ?_, ?_, ?_, ?table, chooseCue_same, chooseCue_pending set, fun e => chooseCue_other⟩
  case table =>
    intro shows
    rw [chosenCue_verdict shows]
    have away (n : ¬ train) : r.berth.trainPresent = false := Bool.eq_false_iff.mpr (mt present.mp n)
    refine ⟨fun iso t => present.mpr t ▸ Door.verdictCue_isolated iso, fun free => ?_⟩
    have free := free.imp_right away
    exact ⟨fun m t => (Door.verdictCue_match free m).trans (if_pos (present.mpr t)),
      fun m t => (Door.verdictCue_match free m).trans (if_neg (by rw [away t]; nofun)),
      Door.verdictCue_refused, Door.verdictCue_unknown free⟩
  all_goals
    intro s
    unfold chosenCue
  · simp only [show r.doors[d].state = .unknown from s]
  · simp only [show r.doors[d].state = .released from s]
  · rcases s with s | s <;> simp only [show r.doors[d].state = _ from s]
  · simp only [show r.doors[d].state = .held from s]
  · rcases s with s | s | s | s | s <;> simp only [show r.doors[d].state = _ from s]

end Sys2Proof.Proofs

/-! The next frame of a free line (R69, R70, R72). -/

namespace Sys2Proof.Machine

/-! ### A free line while RUNNING -/

section
variable {r : FaceRec}

theorem linkPump_running (free : r.link.line = .idle) (running : r.link.state = .running) : linkPump r = opportunity r := by
  unfold linkPump
  rw [if_pos free, running]

theorem linkPump_due (free : r.link.line = .idle) (running : r.link.state = .running) (due : r.link.pollDue = true)
    (run : 4 ≤ r.link.nonPoll) : linkPump r = sendPoll r := by
  rw [linkPump_running free running]
  exact if_pos (by simp [due, run])

/-- A poll is not due after four other frames. -/
def Link.yields (l : Link) : Prop := l.pollDue = false ∨ l.nonPoll < 4

theorem Link.yields.not_due {l : Link} (h : l.yields) : (l.pollDue && decide (l.nonPoll ≥ 4)) = false := by
  rcases h with h | h
  · rw [h]; rfl
  · simp [h]

variable (free : r.link.line = .idle) (running : r.link.state = .running) (waits : r.link.yields)
include free running waits

theorem linkPump_stop (stop : r.link.stopFrame ≠ []) : linkPump r = sendStop r := by
  rw [linkPump_running free running]
  exact (if_neg (by rw [waits.not_due]; nofun)).trans (if_pos (by simpa using stop))

/-- With no STOP frame pending the queues, the cues, the SYNC and the polls follow in this order. -/
theorem linkPump_noStop (stop : r.link.stopFrame = []) : linkPump r =
    match r.link.moveQ, r.link.resendQ, r.nextCue, r.link.sync with
    | m :: rest, _, _, _ => sendMove m rest r
    | [], x :: rest, _, _ => sendResend x rest r
    | [], [], some c, _ => sendCue c r
    | [], [], none, some s => r.modLink fun l => Link.sends (.sync l.g s.1 s.2) { l with sync := none }
    | [], [], none, none => if r.link.pollDue then sendPoll r else r := by
  rw [linkPump_running free running]
  exact (if_neg (by rw [waits.not_due]; nofun)).trans (if_neg (by rw [stop]; nofun))

end

/-! ### What the frames make of the link record -/

theorem foldl_sendTo_link (a : LinkAction) (ts : List MoveTarget) (r : FaceRec) : (ts.foldl (sendTo a) r).link = r.link :=
  foldl_keeps FaceRec.link (sendTo a) (fun _ _ => rfl) ts r

theorem sendPoll_link (r : FaceRec) : (sendPoll r).link = { r.link with
    line := .sending (.poll r.link.g r.link.pollPos false), nonPoll := 0
    pollPos := if r.link.pollPos + 1 ≥ r.n then 0 else r.link.pollPos + 1 } := by
  unfold sendPoll
  by_cases h : r.link.pollPos < 24 <;> simp only [h, dif_pos, dif_neg, not_false_eq_true] <;> rfl

theorem sendStop_link (r : FaceRec) : (sendStop r).link = { r.link with
    stopFrame := []
    line := .sending (.stop r.link.g (r.link.stopFrame.map fun d => (d, (sendStop r).health[d].lastId)))
    nonPoll := if r.link.pollDue then r.link.nonPoll + 1 else r.link.nonPoll } := by
  have link : (r.link.stopFrame.foldl (fun r d => sendTo .stop r ⟨d, 0, 0⟩) r).link = r.link :=
    foldl_keeps FaceRec.link (fun r (d : DoorIx) => sendTo .stop r ⟨d, 0, 0⟩) (fun _ _ => rfl) _ r
  unfold sendStop
  simp only [FaceRec.modLink_link, link, FaceRec.modLink_health]
  rfl

/-- The targets of a MOVE in increasing index (section 4.10). -/
def MoveFrame.sorted (m : MoveFrame) : List MoveTarget :=
  allDoors.filterMap fun d => m.targets.find? fun t => decide (t.door = d)

theorem sendMove_link (m : MoveFrame) (rest : List MoveFrame) (r : FaceRec) : (sendMove m rest r).link = { r.link with
    moveQ := rest
    line := .sending (.move r.link.g m.action
      (m.sorted.map fun t => (t, (sendMove m rest r).health[t.door].lastId)))
    nonPoll := if r.link.pollDue then r.link.nonPoll + 1 else r.link.nonPoll } := by
  have link := foldl_sendTo_link m.action m.sorted r
  unfold sendMove
  simp only [MoveFrame.sorted] at link
  simp only [FaceRec.modLink_link, link, FaceRec.modLink_health]
  rfl

theorem sendCue_link (c : Cue) (r : FaceRec) : (sendCue c r).link = { r.link with
    line := .sending (.cue r.link.g (allDoors.filter fun d => decide (r.cuePending d = some c)) c)
    nonPoll := if r.link.pollDue then r.link.nonPoll + 1 else r.link.nonPoll } := by
  have link := foldl_keeps FaceRec.link
    (fun r (d : DoorIx) => r.modHealth d fun h => { h with lastCue := some c, pendingCue := none }) (fun _ _ => rfl)
    (allDoors.filter fun d => decide (r.cuePending d = some c)) r
  unfold sendCue
  simp only [FaceRec.modLink_link, link]
  rfl

theorem cuePending_iff {r : FaceRec} {d : DoorIx} {c : Cue} :
    r.cuePending d = some c ↔ r.health[d].health ≠ .lost ∧ r.health[d].pendingCue = some c := by
  unfold FaceRec.cuePending
  split
  · next lost => exact ⟨nofun, fun h => absurd lost h.1⟩
  · next here => exact (and_iff_right here).symm

end Sys2Proof.Machine

namespace Sys2Proof.Proofs

open Sys2Proof.Machine

/-- Settles O36: the frame of the first of the choices that is pending begins. -/
theorem framePriority : Obligations.FramePriority := by
  intro r q
  refine ⟨linkPump_busy, fun free running => ?_⟩
  have polls (h : q = sendPoll r) : q.link.line = .sending (.poll r.link.g r.link.pollPos false) ∧ q.link.nonPoll = 0 ∧
      q.link.pollPos = if r.link.pollPos + 1 ≥ r.n then 0 else r.link.pollPos + 1 := by
    rw [h, sendPoll_link]
    exact ⟨rfl, rfl, rfl⟩
  refine ⟨fun due run => polls (linkPump_due free running due run), fun waits => ⟨fun stop => ?_, fun noStop => ?_⟩⟩
  · have sent : q = sendStop r := linkPump_stop free running waits stop
    rw [sent]
    refine ⟨?_, ?_, ?_⟩
    · rw [sendStop_link]; exact ⟨rfl, rfl⟩
    · rw [sendStop_link]
    · rw [sendStop_link]
  have next := linkPump_noStop free running waits noStop
  refine ⟨fun m rest moves => ?_, fun x rest noMove resends => ?_, fun c noMove noResend cue => ?_,
    fun ph mode noMove noResend noCue sync => ?_, fun noMove noResend noCue noSync => ⟨fun due => polls ?_, fun idle => ?_⟩⟩
  · have sent : q = sendMove m rest r := by rw [show q = _ from next, moves]
    rw [sent, sendMove_link]
    exact ⟨⟨rfl, rfl⟩, rfl, _, rfl⟩
  · have sent : q = sendResend x rest r := by rw [show q = _ from next, noMove, resends]
    rw [sent]
    exact ⟨⟨rfl, rfl⟩, rfl, rfl⟩
  · have sent : q = sendCue c r := by rw [show q = _ from next, noMove, noResend, cue]
    rw [sent, sendCue_link]
    exact ⟨⟨rfl, rfl⟩, _, rfl, fun d => by simp [allDoors, cuePending_iff]⟩
  · have sent : q = r.modLink fun l => Link.sends (.sync l.g ph mode) { l with sync := none } := by
      rw [show q = _ from next, noMove, noResend, noCue, sync]
    rw [sent]
    exact ⟨⟨rfl, rfl⟩, rfl, rfl⟩
  · rw [show q = _ from next, noMove, noResend, noCue, noSync]
    exact if_pos due
  · rw [show q = _ from next, noMove, noResend, noCue, noSync]
    exact if_neg (by rw [idle]; nofun)

end Sys2Proof.Proofs

/-! Command ids and the confirm-poll mark as frames begin (R66, R67). -/

namespace Sys2Proof.Machine

/-! ### The targets of a frame (R66) -/

section
variable {a : LinkAction} {ts : List MoveTarget}

theorem sendTo_health_self (r : FaceRec) (t : MoveTarget) :
    (sendTo a r t).health[t.door.val] = r.health[t.door.val].sent a t.speed t.force := FaceRec.modHealth_health_self ..

theorem sendTo_health_other (r : FaceRec) {t : MoveTarget} {d : DoorIx} (h : t.door ≠ d) :
    (sendTo a r t).health[d.val] = r.health[d.val] := FaceRec.modHealth_health_other _ h _

theorem foldl_sendTo_health_other {d : DoorIx} (h : ∀ t ∈ ts, t.door ≠ d) (r : FaceRec) :
    (ts.foldl (sendTo a) r).health[d.val] = r.health[d.val] := by
  induction ts generalizing r with
  | nil => rfl
  | cons t ts ih =>
    rw [List.foldl_cons, ih fun u mem => h u (List.mem_cons_of_mem t mem), sendTo_health_other r (h t List.mem_cons_self)]

/-- Each target of a frame of different doors takes one id. -/
theorem foldl_sendTo_health (each : (ts.map MoveTarget.door).Nodup) {t : MoveTarget} (mem : t ∈ ts) (r : FaceRec) :
    (ts.foldl (sendTo a) r).health[t.door.val] = r.health[t.door.val].sent a t.speed t.force := by
  induction ts generalizing r with
  | nil => cases mem
  | cons u ts ih =>
    obtain ⟨apart, each⟩ := List.nodup_cons.mp each
    rw [List.foldl_cons]
    rcases List.mem_cons.mp mem with rfl | mem
    · rw [foldl_sendTo_health_other fun v inside same => apart (List.mem_map.mpr ⟨v, inside, same⟩), sendTo_health_self]
    · rw [ih each mem, sendTo_health_other r fun same => apart (List.mem_map.mpr ⟨t, mem, same.symm⟩)]

end

/-! ### STOP and MOVE frames -/

section
variable {r : FaceRec} {d : DoorIx}

/-- The health entries as a STOP frame begins are those of its targets sent. -/
theorem sendStop_health (r : FaceRec) :
    (sendStop r).health = ((r.link.stopFrame.map fun d => (⟨d, 0, 0⟩ : MoveTarget)).foldl (sendTo .stop) r).health := by
  rw [List.foldl_map]
  rfl

theorem sendStop_health_of_mem (each : r.link.stopFrame.Nodup) (mem : d ∈ r.link.stopFrame) :
    (sendStop r).health[d.val] = r.health[d.val].sent .stop 0 0 := by
  have doors : (r.link.stopFrame.map fun d => (⟨d, 0, 0⟩ : MoveTarget)).map MoveTarget.door = r.link.stopFrame := by
    rw [List.map_map]
    exact List.map_id _
  simp only [sendStop_health]
  exact foldl_sendTo_health (t := ⟨d, 0, 0⟩) (by rwa [doors]) (List.mem_map.mpr ⟨d, mem, rfl⟩) r

theorem sendStop_health_of_not_mem (out : d ∉ r.link.stopFrame) : (sendStop r).health[d.val] = r.health[d.val] := by
  simp only [sendStop_health]
  refine foldl_sendTo_health_other (fun t mem => ?_) r
  obtain ⟨e, inside, rfl⟩ := List.mem_map.mp mem
  exact fun same => out (same ▸ inside)

variable {m : MoveFrame} {rest : List MoveFrame}

theorem MoveFrame.mem_of_sorted {t : MoveTarget} (h : t ∈ m.sorted) : t ∈ m.targets := by
  obtain ⟨d, _, found⟩ := List.mem_filterMap.mp h
  exact List.mem_of_find?_eq_some found

theorem MoveFrame.sorted_nodup (m : MoveFrame) : (m.sorted.map MoveTarget.door).Nodup := by
  unfold MoveFrame.sorted
  rw [List.map_filterMap]
  refine (List.nodup_finRange 24).filterMap fun d e x hd he => ?_
  have own {d : DoorIx} (h : x ∈ (m.targets.find? fun t => decide (t.door = d)).map MoveTarget.door) : x = d := by
    obtain ⟨t, found, rfl⟩ := Option.mem_map.mp h
    simpa using List.find?_some found
  exact (own hd).symm.trans (own he)

theorem MoveFrame.mem_sorted (each : (m.targets.map MoveTarget.door).Nodup) {t : MoveTarget} (mem : t ∈ m.targets) :
    t ∈ m.sorted := by
  refine List.mem_filterMap.mpr ⟨t.door, by simp [allDoors], ?_⟩
  obtain ⟨u, found⟩ := Option.isSome_iff_exists.mp (List.find?_isSome (p := fun u => decide (u.door = t.door)).mpr ⟨t, mem, by simp⟩)
  have same : u.door = t.door := by simpa using List.find?_some found
  rw [found, List.inj_on_of_nodup_map each (List.mem_of_find?_eq_some found) mem same]

theorem sendMove_health (m : MoveFrame) (rest : List MoveFrame) (r : FaceRec) :
    (sendMove m rest r).health = (m.sorted.foldl (sendTo m.action) r).health := rfl

theorem sendMove_health_of_mem (each : (m.targets.map MoveTarget.door).Nodup) {t : MoveTarget} (mem : t ∈ m.targets) :
    (sendMove m rest r).health[t.door.val] = r.health[t.door.val].sent m.action t.speed t.force := by
  simp only [sendMove_health]
  exact foldl_sendTo_health m.sorted_nodup (MoveFrame.mem_sorted each mem) r

theorem sendMove_health_of_not_mem (out : ∀ t ∈ m.targets, t.door ≠ d) :
    (sendMove m rest r).health[d.val] = r.health[d.val] := by
  simp only [sendMove_health]
  exact foldl_sendTo_health_other (fun t mem => out t (MoveFrame.mem_of_sorted mem)) r

/-! ### Resends and polls (R67) -/

theorem sendPoll_health (r : FaceRec) (d : DoorIx) :
    (sendPoll r).health[d.val] = if d.val = r.link.pollPos then r.health[d.val].polled else r.health[d.val] := by
  unfold sendPoll
  simp only [FaceRec.modLink_health]
  by_cases h : r.link.pollPos < 24
  · simp only [dif_pos h, FaceRec.modHealth_health, Fin.ext_iff, eq_comm]
  · simp only [dif_neg h, if_neg fun same : d.val = r.link.pollPos => h (same ▸ d.isLt)]

/-- On a free line while RUNNING a poll is begun by the poll scheduler alone. -/
theorem linkPump_polls (free : r.link.line = .idle) (running : r.link.state = .running) {g pos : Nat} {sweep : Bool}
    (polls : (linkPump r).link.line = .sending (.poll g pos sweep)) : linkPump r = sendPoll r := by
  by_cases due : r.link.pollDue = true ∧ 4 ≤ r.link.nonPoll
  · exact linkPump_due free running due.1 due.2
  have waits : r.link.yields := by
    rcases not_and_or.mp due with n | n
    · exact .inl (Bool.eq_false_iff.mpr n)
    · exact .inr (Nat.lt_of_not_le n)
  by_cases stop : r.link.stopFrame = []
  · have next := linkPump_noStop free running waits stop
    rw [next] at polls
    rw [next]
    split at polls
    · rw [sendMove_link] at polls; cases polls
    · next x _ _ _ => by_cases halt : x.action = .stop <;> simp [sendResend, Link.sends, halt] at polls
    · rw [sendCue_link] at polls; cases polls
    · cases polls
    · split at polls
      · next due => exact if_pos due
      · rw [free] at polls; cases polls
  · rw [linkPump_stop free running waits stop, sendStop_link] at polls
    cases polls

end

/-! ### The confirmation at an accepted reply (R67) -/

section
variable {inFire : Bool} {d : DoorIx} {id : Nat} {h : Health}

theorem confirmReply_none (e : h.awaited = none) : confirmReply inFire d id h = (.none, h, none) := by
  unfold confirmReply; rw [e]

variable {a : Awaited} (e : h.awaited = some a)
include e

theorem confirmReply_unmarked (unmarked : h.confirm = false) : confirmReply inFire d id h = (.waiting, h, none) := by
  unfold confirmReply; rw [e]
  exact if_pos unmarked

variable (marked : h.confirm = true)
include marked

theorem confirmReply_confirmed (same : id = a.id) : confirmReply inFire d id h = (.confirmed, h.settled, none) := by
  unfold confirmReply; rw [e]
  exact (if_neg (by rw [marked]; nofun)).trans (if_pos same)

theorem confirmReply_other (other : id ≠ a.id) : confirmReply inFire d id h =
    if (inFire = true ∧ a.action = .closeLock) ∨ 2 ≤ h.resends then (.failed, h.settled, none)
    else (.waiting, { h with awaited := some { a with due := false }, resends := h.resends + 1, confirm := false },
      some ⟨d, a.action, a.id, a.speed, a.force⟩) := by
  unfold confirmReply; rw [e]
  refine (if_neg (by rw [marked]; nofun)).trans ((if_neg other).trans (if_congr ?_ rfl rfl))
  simp

end

end Sys2Proof.Machine

namespace Sys2Proof.Proofs

open Sys2Proof.Machine

/-- Settles O37: the ids of a frame's targets by the fold over them, the mark by the poll that begins, and the confirmation
case by case. -/
theorem commandIds : Obligations.CommandIds := by
  refine ⟨fun r d => ?frames, fun inFire d id h => ?replies⟩
  case frames =>
    intro next
    have moves : next ≠ r.health[d].lastId := by
      show (if r.health[d].lastId ≥ 15 then 1 else r.health[d].lastId + 1) ≠ _
      split <;> omega
    refine ⟨fun each => ⟨fun mem => ⟨sendStop_health_of_mem each mem, moves⟩, sendStop_health_of_not_mem⟩,
      fun m rest each => ⟨fun t mem own => ?_, sendMove_health_of_not_mem⟩, fun x rest => ⟨fun a own awaits same => ?_, fun other => ?_⟩,
      fun free running polls => ?_⟩
    · subst own
      have sent := sendMove_health_of_mem (r := r) (rest := rest) each mem
      refine ⟨sent, _, congrArg Link.line (sendMove_link m rest r), List.mem_map.mpr ⟨t, MoveFrame.mem_sorted each mem, ?_⟩⟩
      exact congrArg (Prod.mk t) (congrArg Health.lastId sent)
    · subst own
      have := FaceRec.modHealth_health_self r x.door (Health.resent x.id)
      exact this.trans (Health.resent_of_eq awaits same)
    · have := FaceRec.modHealth_health r x.door d (Health.resent x.id)
      refine this.trans ?_
      split
      · next own => exact Health.resent_of_ne (other.resolve_left fun n => n own)
      · rfl
    · simp only [linkPump_polls free running polls, Fin.getElem_fin, sendPoll_health]
      split
      · exact ⟨rfl, Health.polled_confirm_iff _⟩
      · exact ⟨rfl, Iff.rfl⟩
  case replies =>
    refine ⟨confirmReply_none, fun a awaits => ⟨confirmReply_unmarked awaits, confirmReply_confirmed awaits,
      fun marked other few away => ?_, fun marked other done => ?_⟩⟩
    · rw [confirmReply_other awaits marked other, if_neg (by rintro (k | k); exacts [away k, absurd k (by omega)])]
    · rw [confirmReply_other awaits marked other, if_pos done.symm]
      rfl

end Sys2Proof.Proofs

/-! STATUS replies on the wire (R63, R74): the fields of a reply are read back as they were laid out. -/

namespace Sys2Proof.Machine

/-! ### The fields of a reply -/

theorem toNat_byteOf {n : Nat} (h : n < 256) : (byteOf n).toNat = n :=
  (BitVec.toNat_ofNat n 8).trans (Nat.mod_eq_of_lt h)

theorem byteOf_ne {m n : Nat} (hm : m < 256) (hn : n < 256) (ne : m ≠ n) : byteOf m ≠ byteOf n := fun same => ne <| by
  rw [← toNat_byteOf hm, same, toNat_byteOf hn]

theorem Motion.ofCode_ctorIdx (m : Motion) : Motion.ofCode (byteOf m.ctorIdx) = some m := by cases m <;> rfl

theorem Key.ofCode_ctorIdx (k : Key) : Key.ofCode (byteOf k.ctorIdx) = some k := by cases k <;> rfl

theorem UnitFault.ofCode_ctorIdx (u : UnitFault) : UnitFault.ofCode u.ctorIdx = some u := by cases u <;> rfl

theorem UnitFault.ctorIdx_lt (u : UnitFault) : u.ctorIdx < 16 := by cases u <;> decide

/-- The five flags of a reply, from bit 0. -/
def statusFlags (a b c d e : Bool) : Byte := byteOf ([a, b, c, d, e].foldr (fun b acc => (if b then 1 else 0) + 2 * acc) 0)

theorem statusFlags_bits : ∀ a b c d e : Bool, (statusFlags a b c d e).toNat < 32 ∧
    (statusFlags a b c d e).getLsbD 0 = a ∧ (statusFlags a b c d e).getLsbD 1 = b ∧
    (statusFlags a b c d e).getLsbD 2 = c ∧ (statusFlags a b c d e).getLsbD 3 = d ∧
    (statusFlags a b c d e).getLsbD 4 = e := by decide

/-! ### The judgement of fourteen bytes -/

/-- The bytes of a reply that its check value covers, from LEN on. -/
abbrev statusCovered (len kind rg rpos type leafH leafL mot fl key cf : Byte) : List Byte :=
  [len, kind, rg, rpos, type, leafH, leafL, mot, fl, key, cf]

/-- Bytes that begin with the start byte are a reply from their first on (R74). -/
theorem replyStart_start (rest : List Byte) : replyStart (0xA5 :: rest) = 0xA5 :: rest := rfl

section
variable {g pos : Nat} {len kind rg rpos type leafH leafL mot fl key cf crcH crcL : Byte}

/-- A reply that passes every test of R63 is what its bytes say. -/
theorem judgeReply_passed {m : Motion} {k : Key} {u : UnitFault}
    (crc : [crcH, crcL] = linkCrc (statusCovered len kind rg rpos type leafH leafL mot fl key cf)) (hlen : len = 10)
    (hkind : kind = 0x80) (hg : rg = byteOf g) (hpos : rpos = byteOf pos) (leaf : leafH.toNat * 256 + leafL.toNat ≤ 1000)
    (unused : fl.toNat < 32) (hm : Motion.ofCode mot = some m) (hk : Key.ofCode key = some k)
    (hu : UnitFault.ofCode (cf.toNat % 16) = some u) :
    judgeReply g pos (0xA5 :: statusCovered len kind rg rpos type leafH leafL mot fl key cf ++ [crcH, crcL]) =
      some { report := ⟨type, leafH.toNat * 256 + leafL.toNat, m, fl.getLsbD 0, fl.getLsbD 1, fl.getLsbD 2, k,
                        cf.toNat / 16, u, .none⟩
             inner := fl.getLsbD 3
             outer := fl.getLsbD 4 } := by
  simp only [judgeReply, replyStart_start, List.cons_append, List.nil_append]
  rw [if_pos ⟨crc, hlen, hkind, hg, hpos, leaf, unused⟩, hm, hk, hu]

/-- A reply of another generation, position or check value is not accepted (R63). -/
theorem judgeReply_refused
    (h : rg ≠ byteOf g ∨ rpos ≠ byteOf pos ∨
      [crcH, crcL] ≠ linkCrc (statusCovered len kind rg rpos type leafH leafL mot fl key cf)) :
    judgeReply g pos (0xA5 :: statusCovered len kind rg rpos type leafH leafL mot fl key cf ++ [crcH, crcL]) = none := by
  simp only [judgeReply, replyStart_start, List.cons_append, List.nil_append]
  refine if_neg ?_
  rintro ⟨crc, _, _, hg, hpos, _, _⟩
  exact h.elim (· hg) (·.elim (· hpos) (· crc))

end

/-! ### The envelope -/

theorem linkEnvelope_status (g : Nat) (rpos type leafH leafL mot fl key cf : Byte) :
    linkEnvelope 0x80 g [rpos, type, leafH, leafL, mot, fl, key, cf] =
      0xA5 :: statusCovered 10 0x80 (byteOf g) rpos type leafH leafL mot fl key cf ++
        [byteOf ((crc16 0x1021 (statusCovered 10 0x80 (byteOf g) rpos type leafH leafL mot fl key cf)).toNat / 256),
         byteOf (crc16 0x1021 (statusCovered 10 0x80 (byteOf g) rpos type leafH leafL mot fl key cf)).toNat] := rfl

end Sys2Proof.Machine

namespace Sys2Proof.Proofs

open Sys2Proof.Machine

/-- Settles O38: the fields laid out are read back, and each test of R63 refuses on its own. -/
theorem statusRoundTrip : Obligations.StatusRoundTrip := by
  intro g pos leaf id type m k u locked closed pulled inner outer hg hpos hleaf hid body
  have laid : body = [byteOf pos, type, byteOf (leaf / 256), byteOf leaf, byteOf m.ctorIdx,
      statusFlags locked closed pulled inner outer, byteOf k.ctorIdx, byteOf (16 * id + u.ctorIdx)] := rfl
  rw [laid]
  obtain ⟨unused, b0, b1, b2, b3, b4⟩ := statusFlags_bits locked closed pulled inner outer
  have fault := u.ctorIdx_lt
  have position : (byteOf (leaf / 256)).toNat * 256 + (byteOf leaf).toNat = leaf := by
    rw [toNat_byteOf (by omega), show (byteOf leaf).toNat = leaf % 256 from BitVec.toNat_ofNat leaf 8]
    omega
  have code : (byteOf (16 * id + u.ctorIdx)).toNat = 16 * id + u.ctorIdx := toNat_byteOf (by omega)
  refine ⟨?_, fun g' hg' other => ?_, fun pos' hpos' other => ?_, fun x y differs => ?_⟩
  · rw [linkEnvelope_status, judgeReply_passed rfl rfl rfl rfl rfl (by rw [position]; exact hleaf) unused m.ofCode_ctorIdx
      k.ofCode_ctorIdx (by rw [code, Nat.mul_add_mod, Nat.mod_eq_of_lt fault]; exact u.ofCode_ctorIdx), position, code,
      b0, b1, b2, b3, b4, show (16 * id + u.ctorIdx) / 16 = id by omega]
  · rw [linkEnvelope_status]
    exact judgeReply_refused (.inl (byteOf_ne (by omega) (by omega) other.symm))
  · rw [linkEnvelope_status]
    exact judgeReply_refused (.inr (.inl (byteOf_ne (by omega) (by omega) other.symm)))
  · exact judgeReply_refused (.inr (.inr differs))

end Sys2Proof.Proofs

/-! The timers of a door link and the end of its frames (R59, R60, R63, R69, R70, R73). -/

namespace Sys2Proof.Machine

/-! ### Events of a link -/

/-- A change of the link record leaves the face even where the link stays as it stood to an enumeration, or is in one. -/
theorem FaceRec.Even.modLink {r : FaceRec} (h : r.Even) {g : Link → Link}
    (e : (g r.link).state = r.link.state ∨ (r.modLink g).enumerating = true) : (r.modLink g).Even := by
  refine ⟨h.op, h.failed, h.timer, fun auto pending => ?_⟩
  rcases e with same | enum
  · rw [← h.handover auto pending]
    unfold FaceRec.atRest FaceRec.enumerating
    simp only [FaceRec.modLink_link, same]
    rfl
  · unfold FaceRec.atRest
    rw [enum]
    rfl

/-- A link that is IDLE or on its way to MARK begins no frame of itself. -/
theorem linkPump_unready {r : FaceRec} (h : r.link.state = .idle ∨ r.link.state = .chainReset ∨ r.link.state = .chainSettle) :
    linkPump r = r := by
  unfold linkPump
  split
  · rcases h with h | h | h <;> rw [h]
  · rfl

/-- Health entries changed one after another, each door's once. -/
theorem foldl_modHealth {ds : List DoorIx} (each : ds.Nodup) (g : Health → Health) (r : FaceRec) (e : DoorIx) :
    (ds.foldl (fun r d => r.modHealth d g) r).health[e.val] = if e ∈ ds then g r.health[e.val] else r.health[e.val] := by
  induction ds generalizing r with
  | nil => rfl
  | cons d ds ih =>
    obtain ⟨apart, each⟩ := List.nodup_cons.mp each
    rw [List.foldl_cons, ih each, FaceRec.modHealth_health]
    by_cases same : d = e
    · subst same; simp [apart]
    · simp [same, Ne.symm same]

theorem configuredDoors_nodup (r : FaceRec) : r.configuredDoors.Nodup := (List.nodup_finRange 24).filter _

section
variable {f : Face} {s : State} (settled : s.Settled) (here : s.part.present f = true)
include settled here

/-- An event that changes the link record alone, leaving it as it stands to an enumeration or in one. -/
theorem faceEvent_link {g : Part → Part} {u : Link → Link} (does : g s.part = s.part.modFace f fun r => r.modLink u)
    (e : (u (s.part.face f).link).state = (s.part.face f).link.state ∨
      ((s.part.face f).modLink u).enumerating = true) :
    faceEvent f g s = { s with part := s.part.modFace f fun r => linkPump (r.modLink u) } :=
  faceEvent_settled settled here g _ does ((settled.faces f).even.modLink e)

end

/-! ### MARK (R59, R60) -/

/-- A face whose link begins MARK: the next generation, and every configured door's last cue DARK. -/
def markBegun (r : FaceRec) : FaceRec :=
  (r.configuredDoors.foldl (fun r d => r.modHealth d fun h => { h with lastCue := some .dark }) r).modLink fun l =>
    { l with chainSettleTimer := none, g := nextGeneration r.link.g, line := .sending (.mark (nextGeneration r.link.g) r.n)
             state := .enumerating, pollPos := 0 }

/-- Of the face but its link record the beginning of MARK changes health entries alone. -/
theorem markBegun_frame (r : FaceRec) : { markBegun r with link := r.link, health := r.health } = r :=
  foldl_keeps (fun x : FaceRec => ({ x with link := r.link, health := r.health } : FaceRec))
    (fun x (d : DoorIx) => x.modHealth d fun h => { h with lastCue := some .dark }) (fun _ _ => rfl) r.configuredDoors r

theorem markBegun_link (r : FaceRec) : (markBegun r).link = { r.link with
    state := .enumerating, g := nextGeneration r.link.g, line := .sending (.mark (nextGeneration r.link.g) r.n)
    pollPos := 0, chainSettleTimer := none } :=
  congrArg (fun l : Link => { l with chainSettleTimer := none, g := nextGeneration r.link.g
                                     line := .sending (.mark (nextGeneration r.link.g) r.n), state := .enumerating
                                     pollPos := 0 })
    (foldl_keeps FaceRec.link (fun x (d : DoorIx) => x.modHealth d fun h => { h with lastCue := some .dark }) (fun _ _ => rfl) _ r)

theorem markBegun_health (r : FaceRec) (d : DoorIx) : (markBegun r).health[d.val] =
    if r.configured d = true then { r.health[d.val] with lastCue := some .dark } else r.health[d.val] := by
  unfold markBegun
  simp only [FaceRec.modLink_health]
  rw [foldl_modHealth (configuredDoors_nodup r)]
  simp only [mem_configuredDoors]

theorem markBegun_even {r : FaceRec} (h : r.Even) : (markBegun r).Even := by
  have begun : (markBegun r).link.state = .enumerating := by rw [markBegun_link]
  have same : markBegun r = { r with link := (markBegun r).link, health := (markBegun r).health } :=
    (congrArg (fun x : FaceRec => ({ x with link := (markBegun r).link, health := (markBegun r).health } : FaceRec))
      (markBegun_frame r) :)
  have even := h.modLink (g := fun _ => (markBegun r).link) (.inr (by unfold FaceRec.enumerating; simp only [FaceRec.modLink_link, begun]))
  rw [same]
  exact even.of_duties rfl

/-! ### The expiries (R59, R60, R70, R73) -/

section
variable {f : Face} {p : Part}

theorem chainResetExpiry_stopped (h : (p.face f).link.chainResetTimer = none) : chainResetExpiry f p = p :=
  if_neg (by rw [h]; nofun)

theorem chainSettleExpiry_stopped (h : (p.face f).link.chainSettleTimer = none) : chainSettleExpiry f p = p :=
  if_neg (by rw [h]; nofun)

theorem standbyExpiry_stopped (h : (p.face f).link.standbyTimer = none) : standbyExpiry f p = p :=
  if_neg (by rw [h]; nofun)

theorem flashExpiry_stopped (h : (p.face f).link.flashTimer = none) : flashExpiry f p = p :=
  if_neg (by rw [h]; nofun)

theorem chainResetExpiry_runs (h : (p.face f).link.chainResetTimer ≠ none) :
    chainResetExpiry f p = p.modFace f fun r => r.modLink fun l =>
      { l with state := .chainSettle, chainEnable := true, chainResetTimer := none, chainSettleTimer := some 20 } :=
  if_pos (Option.isSome_iff_ne_none.mpr h)

theorem chainSettleExpiry_runs (h : (p.face f).link.chainSettleTimer ≠ none) :
    chainSettleExpiry f p = p.modFace f markBegun := by
  refine (if_pos (Option.isSome_iff_ne_none.mpr h)).trans (Part.modFace_congr _ _ _ _ ?_)
  have geom : ((p.face f).configuredDoors.foldl (fun r d => r.modHealth d fun h => { h with lastCue := some .dark })
      (p.face f)).geom = (p.face f).geom :=
    foldl_keeps FaceRec.geom (fun x (d : DoorIx) => x.modHealth d fun h => { h with lastCue := some .dark }) (fun _ _ => rfl) _ _
  simp only [markBegun, FaceRec.n, geom]

theorem standbyExpiry_runs (h : (p.face f).link.standbyTimer ≠ none) :
    standbyExpiry f p = p.modFace f fun r => r.modLink fun l =>
      { l with standbyTimer := some 1000, round := true, pollPos := if l.round then l.pollPos else 0 } := by
  refine (if_pos (Option.isSome_iff_ne_none.mpr h)).trans (Part.modFace_congr _ _ _ _ ?_)
  refine congrArg (fun l => (p.face f).modLink fun _ => l) ?_
  split
  · next round => simp only [round]
  · rfl

theorem flashExpiry_runs (h : (p.face f).link.flashTimer ≠ none) :
    flashExpiry f p = p.modFace f fun r => r.modLink fun l =>
      { l with flashTimer := some 125, flashPhase := (l.flashPhase + 1) % 8
               sync := some ((l.flashPhase + 1) % 8, r.params.phaseMode) } :=
  if_pos (Option.isSome_iff_ne_none.mpr h)

/-! ### The end of a frame (R63, R69) -/

theorem frameSent_poll {g pos : Nat} {sweep : Bool} (h : (p.face f).link.line = .sending (.poll g pos sweep)) :
    frameSent f p = p.modFace f fun r => r.modLink fun l =>
      { l with line := .awaiting pos sweep false, replyTimer := some r.params.tReply } := by
  refine Part.modFace_congr _ _ _ _ ?_
  simp only [FaceRec.modLink, h]

theorem frameSent_other {fr : LinkFrame} (h : (p.face f).link.line = .sending fr)
    (other : ∀ g pos sweep, fr ≠ .poll g pos sweep) :
    frameSent f p = p.modFace f fun r => r.modLink fun l => { l with line := .idle } := by
  refine Part.modFace_congr _ _ _ _ ?_
  cases fr with
  | poll g pos sweep => exact absurd rfl (other g pos sweep)
  | _ => simp only [FaceRec.modLink, h]

theorem frameSent_nothing (h : ∀ fr, (p.face f).link.line ≠ .sending fr) : frameSent f p = p := by
  refine Part.modFace_id _ _ _ ?_
  cases line : (p.face f).link.line with
  | sending fr => exact absurd line (h fr)
  | _ => simp only [FaceRec.modLink, line]

end

end Sys2Proof.Machine

namespace Sys2Proof.Proofs

open Sys2Proof.Machine

/-- Settles O35: each expiry is a change of the link record, after which nothing is due but a frame of the link. -/
theorem linkEvents : Obligations.LinkEvents := by
  intro f s settled here r
  have still {c : Instr} {g : Part → Part} (run : exec c s = .next (faceEvent f g s)) (e : g s.part = s.part) :
      exec c s = .next s := by rw [run, faceEvent_still settled here e]
  refine ⟨fun h => still rfl (chainResetExpiry_stopped h), fun h => ?chainReset,
    fun h => still rfl (chainSettleExpiry_stopped h), fun h => ?chainSettle,
    fun h => still rfl (standbyExpiry_stopped h), fun h => congrArg _ (faceEvent_link settled here (standbyExpiry_runs h) (.inl rfl)),
    fun h => still rfl (flashExpiry_stopped h), fun h => ?flash,
    fun g pos sweep h => ?poll, fun fr h other => congrArg _ (faceEvent_link settled here (frameSent_other h other) (.inl rfl)),
    fun h => still rfl (frameSent_nothing h)⟩
  case chainReset =>
    refine congrArg _ ((faceEvent_link settled here (chainResetExpiry_runs h) (.inr rfl)).trans ?_)
    exact congrArg (fun p => ({ s with part := p } : State)) (Part.modFace_congr _ _ _ _ (linkPump_unready (.inr (.inr rfl))))
  case chainSettle =>
    intro g
    have event := faceEvent_settled settled here _ markBegun (chainSettleExpiry_runs h) (markBegun_even (settled.faces f).even)
    have pumped : linkPump (markBegun r) = markBegun r := linkPump_busy (by rw [markBegun_link]; nofun)
    have face : (s.part.modFace f fun r => linkPump (markBegun r)).face f = markBegun r := (Part.modFace_self ..).trans pumped
    refine ⟨_, congrArg Host.Outcome.next event, ?_, fun d => ?_, ?_⟩
    · simp only [face]
      exact markBegun_link r
    · simp only [face]
      exact markBegun_health r d
    · rw [Part.modFace_modFace]
      refine congrArg (fun p => ({ s with part := p } : State)) (Part.modFace_id _ _ _ ?_)
      rw [pumped]
      exact markBegun_frame r
  case flash =>
    exact congrArg _ (faceEvent_settled settled here _ _ (flashExpiry_runs h) ((settled.faces f).even.modLink (.inl rfl)))
  case poll =>
    refine congrArg _ ((faceEvent_settled settled here _ _ (frameSent_poll h) ((settled.faces f).even.modLink (.inl rfl))).trans ?_)
    exact congrArg (fun p => ({ s with part := p } : State)) (Part.modFace_congr _ _ _ _ (linkPump_busy nofun))

end Sys2Proof.Proofs

/-! The course of a face: its link but for the frames that wait, its doors' health, its mode and its notice, which what the
blocks make of a door leaves as it is. -/

namespace Sys2Proof.Machine

/-! ### The course of a face -/

/-- The link of a face but for the frames that wait, the health of its doors, its mode but for ALARM, and its notice. -/
def FaceRec.course (r : FaceRec) : Link × (DoorIx → HealthState × Option LostReason × Nat) × ModeRec × Bool :=
  ({ r.link with stopFrame := [], moveQ := [], resendQ := [] }, fun d => r.health[d].core,
    { r.mode with alarm := false }, r.notice)

/-- The courses of both faces. -/
def Part.courses (p : Part) (f : Face) : Link × (DoorIx → HealthState × Option LostReason × Nat) × ModeRec × Bool :=
  (p.face f).course

theorem Part.ite_courses (c : Prop) [Decidable c] (a b : Part) :
    (if c then a else b).courses = if c then a.courses else b.courses := apply_ite Part.courses c a b

theorem FaceRec.ite_course (c : Prop) [Decidable c] (a b : FaceRec) :
    (if c then a else b).course = if c then a.course else b.course := apply_ite FaceRec.course c a b

/-- A face rebuilt with the fields its course is made of, whatever its other fields. -/
@[simp] theorem FaceRec.course_mk (r : FaceRec) (g : Option Geometry) (c : Vector MotionClass 4) (ps : FaceParams) (b : Berth)
    (a : AlignRec) (ds : Vector Door 24) (s : Vector Sense 24) (o : Option Op) (w : Timer) (gap : GapRec) (se : Bool) :
    FaceRec.course ⟨g, c, ps, b, a, r.link, r.health, ds, s, o, w, r.notice, gap, r.mode, se⟩ = r.course := (rfl)

@[simp] theorem FaceRec.modDoor_course (r : FaceRec) (d : DoorIx) (g : Door → Door) : (r.modDoor d g).course = r.course := (rfl)
@[simp] theorem FaceRec.modSense_course (r : FaceRec) (d : DoorIx) (g : Sense → Sense) :
    (r.modSense d g).course = r.course := (rfl)
@[simp] theorem FaceRec.modBerth_course (r : FaceRec) (g : Berth → Berth) : (r.modBerth g).course = r.course := (rfl)
@[simp] theorem FaceRec.modGap_course (r : FaceRec) (g : GapRec → GapRec) : (r.modGap g).course = r.course := (rfl)
@[simp] theorem FaceRec.alarm_course (r : FaceRec) (b : Bool) :
    (r.modMode fun m => { m with alarm := b }).course = r.course := (rfl)
@[simp] theorem endCycles_course (r : FaceRec) : (endCycles r).course = r.course := (rfl)
@[simp] theorem leaveOp_course (d : DoorIx) (o : DoorOutcome) (r : FaceRec) : (leaveOp d o r).course = r.course := (rfl)
@[simp] theorem sequencerNotice_course (d : DoorIx) (x : Door) (r : FaceRec) :
    (sequencerNotice d x r).course = r.course := (rfl)
@[simp] theorem dropCloseFrames_course (r : FaceRec) : (dropCloseFrames r).course = r.course := (rfl)
@[simp] theorem gapTimerUpdate_course (r : FaceRec) : (gapTimerUpdate r).course = r.course := (rfl)

@[simp] theorem FaceRec.modHealth_course (r : FaceRec) (d : DoorIx) (g : Health → Health) (h : ∀ x, (g x).core = x.core) :
    (r.modHealth d g).course = r.course := by
  have each : (fun e : DoorIx => (r.modHealth d g).health[e].core) = fun e => r.health[e].core := funext fun e => by
    simp only [Fin.getElem_fin, FaceRec.modHealth_health]
    split
    · exact h _
    · rfl
  unfold FaceRec.course
  rw [each]
  rfl

@[simp] theorem handCue_course (d : DoorIx) (c : Cue) (r : FaceRec) : (handCue d c r).course = r.course := by
  unfold handCue
  split
  · exact r.modHealth_course d _ fun _ => rfl
  · rfl

@[simp] theorem chooseCue_course (d : DoorIx) (r : FaceRec) : (chooseCue d r).course = r.course := by
  simp [chooseCue, FaceRec.ite_course]

@[simp] theorem refreshCues_course (r : FaceRec) : (refreshCues r).course = r.course :=
  foldl_keeps FaceRec.course _ (fun r d => chooseCue_course d r) _ r

@[simp] theorem placeMove_course (a : LinkAction) (ts : List MoveTarget) (r : FaceRec) : (r.placeMove a ts).course = r.course := by
  have dropped (l : Link) (xs : List MoveTarget) :
      { xs.foldl (fun l t => dropPending t.door l) l with stopFrame := [], moveQ := [], resendQ := [] } =
        { l with stopFrame := [], moveQ := [], resendQ := [] } :=
    foldl_keeps (fun l : Link => { l with stopFrame := [], moveQ := [], resendQ := [] })
      (fun l (t : MoveTarget) => dropPending t.door l) (fun _ _ => rfl) xs l
  unfold FaceRec.placeMove; simp only
  split
  · rfl
  · exact congrArg (·, fun d : DoorIx => r.health[d].core, { r.mode with alarm := false }, r.notice) (dropped r.link _)

@[simp] theorem placeStop_course (d : DoorIx) (r : FaceRec) : (r.placeStop d).course = r.course := by
  unfold FaceRec.placeStop
  split <;> rfl

/-! ### Changes of a part -/

/-- A part rebuilt with the faces of `p`. -/
@[simp] theorem Part.courses_mk (p : Part) (st : Straps) (pr : Vector (Option Profile) 8) (pa : PartParams)
    (ar : Arbiter) (su : Supply) (fi : Fire) (re : List Report) (lo : Bool) :
    Part.courses ⟨p.faceA, p.faceB, st, pr, pa, ar, su, fi, re, lo⟩ = p.courses :=
  funext fun _ => congrArg FaceRec.course (p.face_mk ..)

@[simp] theorem Part.modFace_courses (p : Part) (f : Face) (g : FaceRec → FaceRec)
    (h : (g (p.face f)).course = (p.face f).course) : (p.modFace f g).courses = p.courses := by
  funext f'
  unfold Part.courses
  rw [Part.modFace_face]
  split
  · next e => subst e; exact h
  · rfl

@[simp] theorem queueReport_courses (r : Report) (p : Part) : (queueReport r p).courses = p.courses :=
  funext fun f => congrArg FaceRec.course (queueReport_face r p f)

theorem forDoors_courses (op : DoorIx → Part → Part) (h : ∀ d p, (op d p).courses = p.courses) (ds : List DoorIx)
    (p : Part) : (forDoors ds op p).courses = p.courses := foldl_keeps Part.courses _ (fun p d => h d p) ds p

section
variable (f : Face) (p : Part)

@[simp] theorem recomputeSecured_courses (c : SecuredCause) (b : Bool) : (recomputeSecured f c b p).courses = p.courses := by
  simp [recomputeSecured, Part.ite_courses]

@[simp] theorem gapTo_courses (new : GapState) (c : GapCause) (d : Option DoorIx) : (gapTo f new c d p).courses = p.courses := by
  simp [gapTo, queueGapReport, Part.ite_courses]

@[simp] theorem gapPending_courses (c : GapCause) (d : Option DoorIx) : (gapPending f c d p).courses = p.courses := by
  unfold gapPending
  split <;> simp

@[simp] theorem abandonGap_courses : (abandonGap f p).courses = p.courses := by
  unfold abandonGap; simp only
  split <;> simp

@[simp] theorem gapUpdate_courses : (gapUpdate f p).courses = p.courses := by
  simp [gapUpdate, Part.ite_courses]

@[simp] theorem doorGap_courses (d : DoorIx) (new : DoorState) : (doorGap f d new p).courses = p.courses := by
  unfold doorGap; simp only
  repeat' split
  all_goals simp [queueGapReport]

@[simp] theorem changeDoor_courses (d : DoorIx) (c : DoorCause) (g : Door → Door) :
    (changeDoor f d c g p).courses = p.courses := by
  simp [changeDoor, Part.ite_courses]

/-! ### The start arbiter and the door table -/

@[simp] theorem onDoor_courses (d : DoorIx) (g : Door → Door) : (onDoor f d g p).courses = p.courses := by simp [onDoor]

omit f in
theorem grantLoop_courses (n : Nat) (gs : List Grant) : (grantLoop n gs p).1.courses = p.courses := by
  induction n generalizing gs p with
  | zero => rfl
  | succ n ih =>
    unfold grantLoop
    repeat' split
    · rfl
    · simp [ih, grantDoor]
    · rfl

omit f in
@[simp] theorem grantEvent_courses : (grantEvent p).courses = p.courses := by
  have issued (gs : List Grant) (q : Part) : (issueGrants gs q).courses = q.courses :=
    foldl_keeps Part.courses _ (fun _ _ => Part.modFace_courses _ _ _ (placeMove_course _ _ _)) _ q
  simp [grantEvent, issued, grantLoop_courses]

@[simp] theorem endStart_courses (d : DoorIx) : (endStart f d p).courses = p.courses := by
  simp [endStart, Part.ite_courses]

@[simp] theorem leaveMachinery_courses (d : DoorIx) : (leaveMachinery f d p).courses = p.courses := by
  simp [leaveMachinery]

@[simp] theorem leaveQueueAll_courses : (leaveQueueAll f p).courses = p.courses := p.courses_mk ..

@[simp] theorem issueStop_courses (d : DoorIx) : (issueStop f d p).courses = p.courses := by
  simp [issueStop, Part.ite_courses]

@[simp] theorem enterDiscrepant_courses (d : DoorIx) (w : DiscCause) (t : DoorCause) (s : Bool) :
    (enterDiscrepant f d w t s p).courses = p.courses := by simp [enterDiscrepant, Part.ite_courses]

@[simp] theorem openOrder_courses (d : DoorIx) (k : OrderKind) (t : DoorCause) :
    (openOrder f d k t p).courses = p.courses := by simp [openOrder, joinQueue, Part.ite_courses]

@[simp] theorem withdrawDoor_courses (d : DoorIx) : (withdrawDoor f d p).courses = p.courses := by
  unfold withdrawDoor
  split <;> simp [leaveOperation]

@[simp] theorem returnToOpen_courses (d : DoorIx) : (returnToOpen f d p).courses = p.courses := by
  unfold returnToOpen
  split <;> simp

@[simp] theorem enterReopening_courses (d : DoorIx) (w : ReopenCause) (t : DoorCause) :
    (enterReopening f d w t p).courses = p.courses := by simp [enterReopening, issueReverse]

@[simp] theorem reverseOrder_courses (d : DoorIx) (w : ReopenCause) : (reverseOrder f d w p).courses = p.courses := by
  unfold reverseOrder; simp only
  repeat' split
  all_goals simp

@[simp] theorem haltingStop_courses (d : DoorIx) : (haltingStop f d p).courses = p.courses := by
  unfold haltingStop; simp only
  repeat' split
  all_goals simp

@[simp] theorem enterLost_courses (d : DoorIx) : (enterLost f d p).courses = p.courses := by simp [enterLost]

@[simp] theorem setLate_courses (d : DoorIx) (b : Bool) : (setLate f d b p).courses = p.courses := by simp [setLate]

@[simp] theorem fireTable_courses (pick : FaceRec → List DoorState → List DoorIx) :
    (fireTable f pick p).courses = p.courses := by
  have act (d : DoorIx) (q : Part) : (fireAct f d q).courses = q.courses := by
    unfold fireAct; simp only
    repeat' split
    all_goals simp
  simp [fireTable, forDoors_courses, act]

@[simp] theorem fireOrders_courses (ds : List DoorIx) : (fireOrders f ds p).courses = p.courses := by
  simp [fireOrders, forDoors_courses]

end

end Sys2Proof.Machine

/-! The course of a face through the end of an event, and what the frame that then begins leaves of the link. -/

namespace Sys2Proof.Machine

@[simp] theorem berthGap_courses (f : Face) (a b : BerthState) (p : Part) : (berthGap f a b p).courses = p.courses := by
  unfold berthGap
  split
  all_goals simp [Part.ite_courses]

/-! ### What outlasts the end of an operation -/

/-- What is read of the course of a face, and a wake event keeps. -/
structure Lasting (f : Face) (I : FaceRec → Prop) : Prop where
  course : ∀ r r' : FaceRec, r'.course = r.course → I r → I r'
  wake : ∀ q : Part, I (q.face f) → I ((wakeFace f q).face f)

/-- The course of a face out of STANDBY, which no event wakes. -/
theorem course_lasting (f : Face) {r : FaceRec} (awake : r.mode.mode ≠ .standby) :
    Lasting f fun x => x.course = r.course where
  course _ _ same h := same.trans h
  wake q h := by
    have mode : (q.face f).mode.mode = r.mode.mode := (congrArg (fun c => c.2.2.1.mode) h :)
    unfold wakeFace
    rw [if_neg (by rw [mode]; exact awake)]
    exact h

/-- The poll cycle of a link: its state, its generation, its line and the position of its next poll. -/
def Link.cycle (l : Link) : LinkState × Nat × Line × Nat := (l.state, l.g, l.line, l.pollPos)

section
variable {α : Type} (v : FaceRec → α)
  (blind : ∀ (r : FaceRec) (m : ModeRec) (n : Bool), m.toAuto = r.mode.toAuto → v { r with mode := m, notice := n } = v r)
include blind

/-- What shows neither the notice nor of the mode more than whether AUTO is to be entered, the panel's request to take the
face keeps. -/
theorem takeLocalRequest_view (f : Face) (p : Part) : v ((takeLocalRequest f p).face f) = v (p.face f) := by
  have kept (q : Part) (g : ModeRec → ModeRec) (n : FaceRec → Bool) (h : ∀ m, (g m).toAuto = m.toAuto) :=
    q.modFace_keeps v f f (fun r => { r with mode := g r.mode, notice := n r }) fun r => blind r _ _ (h _)
  unfold takeLocalRequest grantHandover queueModeReport; simp only
  repeat' split
  · rw [queueReport_face]
    exact kept p (fun m => { m with mode := .localCtl, handover := false, localAck := true, heldNotice := false })
      (fun _ => false) fun _ => rfl
  · rfl
  · rw [queueReport_face]
    exact kept p (fun m => { m with handover := true }) (fun r => r.notice) fun _ => rfl
  · rfl

theorem enterAuto_view (f : Face) (c : ModeCause) (p : Part) : v ((enterAuto f c p).face f) = v (p.face f) := by
  unfold enterAuto queueModeReport
  rw [takeLocalRequest_view v blind, queueReport_face]
  exact p.modFace_keeps v f f (fun r => r.modMode fun m => { m with mode := .auto }) fun r => blind r _ r.notice rfl

end

theorem enterAuto_link (f : Face) (c : ModeCause) (p : Part) : ((enterAuto f c p).face f).link = (p.face f).link :=
  enterAuto_view FaceRec.link (fun _ _ _ _ => rfl) f c p

theorem cycle_lasting (f : Face) (r : FaceRec) : Lasting f fun x => x.link.cycle = r.link.cycle where
  course _ _ same h := (congrArg (fun c => c.1.cycle) same :).trans h
  wake q h := by
    unfold wakeFace
    split
    · rw [enterAuto_link, Part.modFace_self]
      exact h
    · exact h

section
variable {f : Face} {I : FaceRec → Prop} (lasting : Lasting f I) {p q : Part} (h : I (p.face f))
include lasting h

theorem Lasting.same (same : q.courses = p.courses) : I (q.face f) := lasting.course _ _ (congrFun same f) h

theorem Lasting.enterBerth (new : BerthState) (c : BerthCause) : I ((enterBerth f new c p).face f) := by
  have woken : I ((if new = (p.face f).berth.state then p else wakeFace f p).face f) := by
    split
    · exact h
    · exact lasting.wake p h
  refine lasting.same woken ?_
  unfold Machine.enterBerth; simp only
  rw [berthGap_courses]
  split <;> simp

theorem Lasting.closeEndNotice : I ((closeEndNotice f p).face f) := by
  unfold Machine.closeEndNotice; simp only
  split
  · exact lasting.enterBerth h _ _
  · exact h

theorem Lasting.endOp (e : EndCause) (gap : GapOutcome) : I ((endOp f e gap p).face f) := by
  unfold Machine.endOp
  split
  · exact h
  · next op _ =>
    have ended : I (((queueReport (.opDone f op e gap) p).modFace f fun r => { r with op := none }).face f) :=
      lasting.same h (by simp)
    simp only
    split
    · exact ended
    · exact lasting.closeEndNotice ended

theorem Lasting.endOpEarly (e : EndCause) : I ((endOpEarly f e p).face f) := by
  unfold Machine.endOpEarly
  split
  · exact h
  · exact lasting.endOp (lasting.same h (Part.modFace_courses _ _ _ rfl)) _ _

theorem Lasting.concludeGap (gap : GapOutcome) : I ((concludeGap f gap p).face f) := by
  unfold Machine.concludeGap
  split
  · exact h
  · split
    · exact lasting.endOp (lasting.same h (Part.modFace_courses _ _ _ rfl)) _ _
    · exact h

theorem Lasting.enterGapWait (op : Op) : I ((enterGapWait f op p).face f) := by
  have concluded (x : Part) (same : x.courses = p.courses) :
      I ((if (x.face f).gapBypass then Machine.concludeGap f .bypassed x else x).face f) := by
    split
    · exact lasting.concludeGap (lasting.same h same) _
    · exact lasting.same h same
  exact concluded _ (by simp [Part.ite_courses])

theorem Lasting.seqCheck : I ((seqCheck f p).face f) := by
  unfold Machine.seqCheck
  split
  · exact h
  · split
    · split
      · exact lasting.endOp h _ _
      · split
        · exact lasting.endOp h _ _
        · exact lasting.endOp h _ _
        · exact lasting.endOp h _ _
        · exact lasting.enterGapWait h _
        · exact lasting.enterGapWait h _
      · exact h
    · exact h

end

/-! ### The end of an event -/

theorem handoverCheck_link (f : Face) (p : Part) : ((handoverCheck f p).face f).link = (p.face f).link := by
  unfold handoverCheck grantHandover queueModeReport; simp only
  split
  · rw [queueReport_face]
    exact p.modFace_keeps FaceRec.link f f _ fun _ => rfl
  · rfl

/-- The rules of a face keep what lasts of its link. -/
theorem Lasting.settleFace_link {f : Face} {I : FaceRec → Prop} (lasting : Lasting f I) {p : Part} (h : I (p.face f))
    (reads : ∀ x y : FaceRec, y.link = x.link → I x → I y) : I ((Machine.settleFace f p).face f) :=
  reads _ _ (handoverCheck_link f _) (lasting.same (lasting.seqCheck h) (gapUpdate_courses f _))

end Sys2Proof.Machine

/-! A door of which no start is queued, as the start arbiter passes it by; and what a frame that begins leaves of its link. -/

namespace Sys2Proof.Machine

/-! ### The start arbiter and a door that is not queued (R85, R113, R115) -/

/-- No start of the door is queued. -/
def Part.unqueued (p : Part) (f : Face) (d : DoorIx) : Prop := ∀ e ∈ p.arb.queue, e.ref ≠ ⟨f, d⟩

/-- A part against one before it, both with no start of the door queued: the door is starting as before, and its record has
changed in no more than a grant event of others can change it. -/
structure Part.Passes (f : Face) (d : DoorIx) (p q : Part) : Prop where
  unqueued : q.unqueued f d
  starting : (⟨f, d⟩ : DoorRef) ∈ q.arb.starting ↔ ⟨f, d⟩ ∈ p.arb.starting
  door : (q.face f).doors[d.val].stance = (p.face f).doors[d.val].stance

section
variable {f : Face} {d : DoorIx} {p q t : Part}

theorem Part.Passes.trans (h : p.Passes f d q) (k : q.Passes f d t) : p.Passes f d t :=
  ⟨k.unqueued, k.starting.trans h.starting, k.door.trans h.door⟩

/-- What leaves the arbiter and the stance of the door. -/
theorem Part.Passes.of_arb (free : p.unqueued f d) (arb : q.arb = p.arb)
    (door : (q.face f).doors[d.val].stance = (p.face f).doors[d.val].stance) : p.Passes f d q :=
  ⟨by unfold Part.unqueued; rw [arb]; exact free, by rw [arb], door⟩

/-- The grant of another door. -/
theorem grantDoor_passes (free : p.unqueued f d) {e : QEntry} (other : e.ref ≠ ⟨f, d⟩) (codes : Codes) :
    p.Passes f d (grantDoor e codes p) := by
  have arb : (grantDoor e codes p).arb =
      ⟨p.arb.queue.filter fun x => decide (x.ref ≠ e.ref), p.arb.starting ++ [e.ref]⟩ := changeDoor_arb ..
  refine ⟨?_, ?_, ?_⟩
  · unfold Part.unqueued
    rw [arb]
    exact fun x inside => free x (List.mem_of_mem_filter inside)
  · rw [arb]
    simp [other.symm]
  · unfold grantDoor
    by_cases same : e.ref.face = f
    · have apart : e.ref.door ≠ d := fun q => other (by rw [← same, ← q])
      rw [same, changeDoor_stance, if_neg apart, Part.face_mk]
    · have away := changeDoor_frame (other_frameInv f (p.face f)) same (p := { p with arb :=
        { queue := p.arb.queue.filter fun x => decide (x.ref ≠ e.ref), starting := p.arb.starting ++ [e.ref] } })
        (Part.face_mk ..) e.ref.door .grant (g := Door.granted e.action p.params.tStart codes.timeout) fun _ => rfl
      exact congrArg (fun r : FaceRec => r.doors[d.val].stance) away

theorem grantLoop_passes (n : Nat) (gs : List Grant) (free : p.unqueued f d) : p.Passes f d (grantLoop n gs p).1 := by
  induction n generalizing gs p with
  | zero => exact .of_arb free rfl rfl
  | succ n ih =>
    unfold grantLoop
    split
    · exact .of_arb free rfl rfl
    · next e first =>
      split
      · have granted := grantDoor_passes free (free e (candidate_mem first))
          (moveCodes (p.face e.ref.face) e.ref.door e.action e.kind)
        exact granted.trans (ih _ granted.unqueued)
      · exact .of_arb free rfl rfl

@[simp] theorem placeMove_doors (a : LinkAction) (ts : List MoveTarget) (r : FaceRec) : (r.placeMove a ts).doors = r.doors := by
  unfold FaceRec.placeMove; simp only
  split <;> rfl

@[simp] theorem placeStop_doors (d : DoorIx) (r : FaceRec) : (r.placeStop d).doors = r.doors := by
  unfold FaceRec.placeStop
  split <;> rfl

theorem grantEvent_passes (free : p.unqueued f d) : p.Passes f d (grantEvent p) := by
  have issued (gs : List Grant) (q : Part) : ((issueGrants gs q).arb, ((issueGrants gs q).face f).doors) =
      (q.arb, (q.face f).doors) :=
    foldl_keeps (fun q : Part => (q.arb, (q.face f).doors)) _
      (fun q _ => Prod.ext (q.modFace_arb ..) (q.modFace_keeps FaceRec.doors _ f _ fun r => placeMove_doors _ _ r)) _ q
  have loop := grantLoop_passes p.arb.queue.length [] free
  refine loop.trans (.of_arb loop.unqueued (congrArg Prod.fst (issued _ _)) ?_)
  exact congrArg (fun ds : Vector Door 24 => ds[d.val].stance) (congrArg Prod.snd (issued _ _))

theorem onDoor_stance (e : DoorIx) (g : Door → Door) (h : ∀ x, (g x).stance = x.stance) :
    ((onDoor f e g p).face f).doors[d.val].stance = (p.face f).doors[d.val].stance := by
  unfold onDoor
  rw [Part.modFace_self]
  exact FaceRec.modDoor_stance _ _ _ _ h

/-- The end of the start phase of a door that is not queued: it is out of the start machinery, and stays (R85). -/
theorem endStart_out (free : p.unqueued f d) : (endStart f d p).outOfMachinery f d ∧
    ((endStart f d p).face f).doors[d.val].stance = (p.face f).doors[d.val].stance := by
  unfold endStart
  split
  · have left (a : Part) (arb : a.arb = { p.arb with starting := p.arb.starting.filter fun x => decide (x ≠ (⟨f, d⟩ : DoorRef)) })
        (face : a.face f = p.face f) : (grantEvent (onDoor f d (fun x => { x with startT := none }) a)).outOfMachinery f d ∧
        ((grantEvent (onDoor f d (fun x => { x with startT := none }) a)).face f).doors[d.val].stance =
          (p.face f).doors[d.val].stance := by
      have ended : (onDoor f d (fun x => { x with startT := none }) a).arb = a.arb := Part.modFace_arb ..
      have passes := grantEvent_passes (p := onDoor f d (fun x => { x with startT := none }) a) (f := f) (d := d)
        (by unfold Part.unqueued; rw [ended, arb]; exact free)
      refine ⟨⟨passes.unqueued, fun starts => ?_⟩, ?_⟩
      · have before := passes.starting.mp starts
        rw [ended, arb] at before
        simp at before
      · rw [passes.door, onDoor_stance d (fun x => { x with startT := none }) fun _ => rfl, face]
    exact left _ rfl (Part.face_mk ..)
  · next out => exact ⟨⟨free, by simpa using out⟩, rfl⟩

/-- A door that leaves the start machinery is out of it, and but for its start timer stays (R84). -/
theorem leaveMachinery_out (f : Face) (d : DoorIx) (p : Part) : (leaveMachinery f d p).outOfMachinery f d ∧
    ((leaveMachinery f d p).face f).doors[d.val].stance = (p.face f).doors[d.val].stance := by
  have left := endStart_out (f := f) (d := d)
    (p := { p with arb := { p.arb with queue := p.arb.queue.filter fun x => decide (x.ref ≠ ⟨f, d⟩) } })
    fun e mem => by simpa using List.of_mem_filter mem
  rw [Part.face_mk] at left
  exact left

@[simp] theorem recomputeSecured_doors (f f' : Face) (c : SecuredCause) (b : Bool) (p : Part) :
    ((recomputeSecured f c b p).face f').doors = (p.face f').doors := by
  unfold recomputeSecured; simp only
  split
  · rw [queueReport_face]
    exact p.modFace_keeps FaceRec.doors f f' _ fun _ => rfl
  · exact p.modFace_keeps FaceRec.doors f f' _ fun _ => rfl

@[simp] theorem queueReport_arb (r : Report) (p : Part) : (queueReport r p).arb = p.arb := by
  obtain ⟨_, _, e⟩ := queueReport_eq r p
  rw [e]

@[simp] theorem recomputeSecured_arb (f : Face) (c : SecuredCause) (b : Bool) (p : Part) :
    (recomputeSecured f c b p).arb = p.arb := by
  unfold recomputeSecured; simp only
  split
  · rw [queueReport_arb, Part.modFace_arb]
  · rw [Part.modFace_arb]

/-- What is out of the start machinery stays out where the arbiter stands. -/
theorem outOfMachinery_of_arb {p q : Part} (h : q.arb = p.arb) (k : p.outOfMachinery f d) : q.outOfMachinery f d := by
  unfold Part.outOfMachinery
  rw [h]
  exact k

/-- A door that enters LOST: LOST without an order or LATE, and out of the start machinery (R83). -/
theorem enterLost_out (f : Face) (d : DoorIx) (p : Part) :
    (enterLost f d p).outOfMachinery f d ∧ ((enterLost f d p).face f).doors[d.val].stance =
      ({ (p.face f).doors[d.val].stopTimers.enter .lost with
          order := none, forced := false, partialOpen := false, late := false } : Door).stance := by
  have left := leaveMachinery_out f d (changeDoor f d .link (fun x =>
    { x.stopTimers.enter .lost with order := none, forced := false, partialOpen := false, late := false }) p)
  refine ⟨outOfMachinery_of_arb (recomputeSecured_arb ..) left.1, ?_⟩
  unfold enterLost
  rw [recomputeSecured_doors, left.2, changeDoor_stance, if_pos rfl]

end

/-! ### What a frame that begins leaves of its link (R69) -/

/-- The state and the pace of a link, with its wake count and its flash timer. -/
def Link.gait (l : Link) : LinkState × Pace × Nat × Timer := (l.state, l.pace, l.wakeCount, l.flashTimer)

theorem linkPump_gait (r : FaceRec) : (linkPump r).link.gait = r.link.gait := by
  have poll : (sendPoll r).link.gait = r.link.gait := by rw [sendPoll_link]; rfl
  have stop : (sendStop r).link.gait = r.link.gait := by rw [sendStop_link]; rfl
  have move (m : MoveFrame) (rest : List MoveFrame) : (sendMove m rest r).link.gait = r.link.gait := by
    rw [sendMove_link]; rfl
  have cue (c : Cue) : (sendCue c r).link.gait = r.link.gait := by rw [sendCue_link]; rfl
  unfold linkPump
  split
  · split
    · unfold opportunity; simp only
      split
      · exact poll
      · split
        · exact stop
        · split
          · exact move _ _
          · rfl
          · exact cue _
          · rfl
          · split
            · exact poll
            · rfl
    all_goals rfl
  · rfl

end Sys2Proof.Machine

/-! The end of an event, as a face that does not wake finds it; safety reports in the queue; and the entry to FIRE as it leaves
the course of a face. -/

namespace Sys2Proof.Machine

/-! ### The end of an event -/

theorem settle_health (f : Face) (p : Part) (d : DoorIx) :
    ((settle p).face f).health[d.val].core = (p.face f).health[d.val].core := by
  have still := (settle_kept p).1 f
  simp only [FaceRec.still, Prod.mk.injEq] at still
  exact congrFun still.2.2.2.2.2 d

theorem settle_arb (p : Part) : (settle p).arb = p.arb := congrArg (fun w => w.2.2.2.1) (settle_kept p).2

@[simp] theorem transmit_arb (s : State) : (transmit s).part.arb = s.part.arb := by
  unfold transmit
  split <;> rfl

/-- A transmitter that is sending makes no opportunity (R171). -/
theorem transmit_sending {s : State} (h : s.host.tx ≠ .idle) : transmit s = s := by
  unfold transmit
  split
  case h_1 idle _ => exact absurd idle h
  case h_2 idle _ _ => exact absurd idle h
  all_goals rfl

/-- A face after the end of an event that wakes it not: a handover may have been granted, and nothing else has been made of
its mode, its notice and the pace of its link. -/
structure FaceRec.Ended (x y : FaceRec) : Prop where
  gait : y.link.gait = x.link.gait
  round : y.mode.wakeRound = x.mode.wakeRound
  held : x.mode.heldNotice = false → y.mode.heldNotice = false
  toAuto : y.mode.toAuto = x.mode.toAuto
  granted : (y.mode.mode = x.mode.mode ∧ y.notice = x.notice) ∨ (x.mode.mode = .auto ∧ x.mode.handover = true)

theorem FaceRec.Ended.of_course {x y : FaceRec} (h : y.course = x.course) : x.Ended y where
  gait := (congrArg (fun c => c.1.gait) h :)
  round := (congrArg (fun c => c.2.2.1.wakeRound) h :)
  held := fun none => ((congrArg (fun c => c.2.2.1.heldNotice) h :) : y.mode.heldNotice = x.mode.heldNotice).trans none
  toAuto := (congrArg (fun c => c.2.2.1.toAuto) h :)
  granted := .inl ⟨(congrArg (fun c => c.2.2.1.mode) h :), (congrArg (fun c => c.2.2.2) h :)⟩

theorem handoverCheck_ended {f : Face} {x : FaceRec} {q : Part} (h : (q.face f).course = x.course) :
    x.Ended ((handoverCheck f q).face f) := by
  have mode : { (q.face f).mode with alarm := false } = { x.mode with alarm := false } := congrArg (fun c => c.2.2.1) h
  unfold handoverCheck; simp only
  split
  · next due =>
    unfold grantHandover queueModeReport
    rw [queueReport_face, Part.modFace_self]
    exact ⟨(congrArg (fun c => c.1.gait) h :), (congrArg ModeRec.wakeRound mode :), fun _ => rfl, (congrArg ModeRec.toAuto mode :),
      .inr ⟨(congrArg ModeRec.mode mode :).symm.trans due.1, (congrArg ModeRec.handover mode :).symm.trans due.2.1⟩⟩
  · exact .of_course h

/-- The end of an event on a face that is out of STANDBY, or whose operation is not due to end. -/
theorem settle_ended {f : Face} {p : Part} (h : (p.face f).mode.mode ≠ .standby ∨ (p.face f).quiet) :
    (p.face f).Ended ((settle p).face f) := by
  obtain ⟨q, same, settled⟩ := settle_face_eq f p
  have checked : ((seqCheck f q).face f).course = (p.face f).course := by
    rcases h with awake | quiet
    · exact (course_lasting f awake).seqCheck (congrArg FaceRec.course same)
    · rw [seqCheck_quiet (by rw [same]; exact quiet), same]
  have ended := handoverCheck_ended ((congrFun (gapUpdate_courses f (seqCheck f q)) f).trans checked)
  have view := linkPump_view (fun r => (r.mode, r.notice)) (fun _ _ => rfl) (fun _ _ _ => rfl) (fun _ _ _ _ => rfl)
    ((settleFace f q).face f)
  obtain ⟨mode, notice⟩ : (linkPump ((settleFace f q).face f)).mode = ((settleFace f q).face f).mode ∧
      (linkPump ((settleFace f q).face f)).notice = ((settleFace f q).face f).notice := Prod.mk.inj view
  rw [settled]
  exact ⟨(linkPump_gait _).trans ended.gait, by rw [mode]; exact ended.round, by rw [mode]; exact ended.held,
    by rw [mode]; exact ended.toAuto, by rw [mode, notice]; exact ended.granted⟩

/-! ### A safety report in the queue (R170) -/

/-- What is evicted for a report has another class than one that stays. -/
theorem evictOldest_keeps {c : ReportClass} {x : Report} (other : x.cls ≠ c) {q q' : List Report} (h : x ∈ q)
    (e : evictOldest c q = some q') : x ∈ q' := by
  induction q generalizing q' with
  | nil => cases h
  | cons y ys ih =>
    unfold evictOldest at e
    split at e
    · next evicted =>
      cases e
      exact (List.mem_cons.mp h).resolve_left fun same => other (by rw [same]; exact evicted)
    · obtain ⟨zs, below, rfl⟩ := Option.map_eq_some_iff.mp e
      rcases List.mem_cons.mp h with rfl | behind
      · exact List.mem_cons_self
      · exact List.mem_cons_of_mem _ (ih behind below)

theorem makeRoom_keeps {c : ReportClass} {x : Report} (safety : x.cls = .safety) {q q' : List Report} (h : x ∈ q)
    (e : makeRoom c q = some q') : x ∈ q' := by
  have state : x.cls ≠ .state := by rw [safety]; nofun
  have record : x.cls ≠ .record := by rw [safety]; nofun
  cases c with
  | state => cases e
  | record => exact evictOldest_keeps state h e
  | safety =>
    unfold makeRoom at e
    cases first : evictOldest .state q with
    | some _ => exact evictOldest_keeps state h (first.trans (by rw [first] at e; exact e))
    | none => exact evictOldest_keeps record h (by rw [first] at e; exact e)

/-- A safety report waits until it is sent, whatever the blocks do. -/
theorem waits_fullyClosed {x : Report} (safety : x.cls = .safety) (key : x.doorKey = none) :
    FullyClosed (fun _ => True) fun p => x ∈ p.reports := by
  have closed : Closed (fun _ => True) fun p => x ∈ p.reports :=
    { report := fun r p k => by
        have left : x ∈ p.reports.filter fun y => !r.sameDoor y :=
          List.mem_filter.mpr ⟨k, by rw [Report.sameDoor_other key]; rfl⟩
        unfold queueReport; simp only
        split
        · exact List.mem_append_left _ left
        · split
          · next room => exact List.mem_append_left _ (makeRoom_keeps safety left room)
          · exact left
      mod := fun f _ _ _ _ k => by cases f <;> exact k
      shrink := fun _ _ _ _ _ k => k
      join := fun _ _ _ k => k
      start := fun _ _ _ _ k => k
      queued := fun _ _ _ _ => trivial
      supply := fun _ _ k => k
      fire := fun _ _ k => k
      profiles := fun _ _ k => k
      params := fun _ _ _ k => k
      present := fun _ _ _ _ => trivial
      away := fun _ _ _ k => absurd trivial k }
  refine { closed with enterFire := fun f c p _ k => ?_ }
  refine fireSteps_closed closed f trivial (closed.report _ _ ?_)
  cases f <;> exact k

theorem queueReport_waits {r : Report} {p : Part} (room : p.reports.length < 64) : r ∈ (queueReport r p).reports := by
  have fits : (p.reports.filter fun x => !r.sameDoor x).length < reportCap := (List.length_filter_le _ _).trans_lt room
  unfold queueReport; simp only
  rw [if_pos fits]
  exact List.mem_append_right _ List.mem_cons_self

theorem settle_waits {x : Report} (safety : x.cls = .safety) (key : x.doorKey = none) {p : Part} (h : x ∈ p.reports) :
    x ∈ (settle p).reports :=
  settle_inv (waits_fullyClosed safety key).toClosed.stillInv (fun _ => trivial) h

/-! ### The entry to FIRE (R140, R141) -/

section
variable {f : Face} {I : FaceRec → Prop} (lasting : Lasting f I) {p : Part} (h : I (p.face f))
include lasting h

theorem Lasting.berthOpenNotice : I ((berthOpenNotice f p).face f) := by
  have served := lasting.same h (p.modFace_courses f (fun r => r.modBerth fun b => { b with served := true }) rfl)
  unfold Machine.berthOpenNotice; simp only
  split
  · exact lasting.enterBerth served _ _
  · exact lasting.enterBerth served _ _
  all_goals exact served

theorem Lasting.fireOpenTest (ds : List DoorIx) : I ((fireOpenTest f ds p).face f) := by
  unfold Machine.fireOpenTest; simp only
  split
  · exact h
  · split
    · exact lasting.berthOpenNotice (lasting.same h (by rw [fireOrders_courses]; exact Part.modFace_courses _ _ _ rfl))
    · split
      · exact lasting.same h (by rw [fireOrders_courses]; exact Part.modFace_courses _ _ _ rfl)
      · exact h

theorem Lasting.fireSteps : I ((fireSteps f p).face f) := by
  have ended := lasting.endOpEarly (lasting.same h (q := fireTable f FaceRec.targetsIn (leaveQueueAll f p)) (by simp)) .fire
  exact lasting.fireOpenTest (lasting.same ended (by simp)) _

end

/-- The face's entry to FIRE, out of a mode that is not STANDBY, leaves the pace of its link (R140). -/
theorem enterFire_face {f : Face} {p : Part} (awake : (p.face f).mode.mode ≠ .standby) (c : ModeCause) :
    ((enterFire f c p).face f).link.gait = (p.face f).link.gait ∧
      ((enterFire f c p).face f).mode.mode = .fire ∧
      ((enterFire f c p).face f).mode.toAuto = (p.face f).mode.toAuto := by
  generalize entered : queueModeReport f (p.face f).mode.mode c (p.modFace f fun r =>
    dropCloseResends ((if (p.face f).mode.mode = .standby then wakeLink r else r).modMode ModeRec.enterFire).dropNotice) = q
  have face : q.face f = dropCloseResends ((p.face f).modMode ModeRec.enterFire).dropNotice := by
    rw [← entered, queueModeReport, queueReport_face, Part.modFace_self, if_neg awake]
  have kept (v : FaceRec → Link × ModeRec) (health : ∀ r d g, v (r.modHealth d g) = v r) (r : FaceRec) (ds : List DoorIx) :
      v (ds.foldl (fun r d => r.modHealth d Health.settled) r) = v r := foldl_keeps v _ (fun r d => health r d _) ds r
  have view := kept (fun r => (r.link, r.mode)) (fun _ _ _ => rfl) ((p.face f).modMode ModeRec.enterFire).dropNotice
    (allDoors.filter ((p.face f).modMode ModeRec.enterFire).dropNotice.closeResend)
  have gait : (q.face f).link.gait = (p.face f).link.gait := by rw [face]; exact congrArg (fun x => x.1.gait) view
  have mode : (q.face f).mode = (p.face f).mode.enterFire := by rw [face]; exact congrArg Prod.snd view
  have burning : (q.face f).mode.mode ≠ .standby := by rw [mode]; nofun
  have steps : ((fireSteps f q).face f).course = (q.face f).course := (course_lasting f burning).fireSteps rfl
  have fired : enterFire f c p = fireSteps f q := by rw [← entered]; rfl
  rw [fired]
  exact ⟨(congrArg (fun c => c.1.gait) steps :).trans gait,
    (congrArg (fun c => c.2.2.1.mode) steps :).trans (congrArg ModeRec.mode mode :),
    (congrArg (fun c => c.2.2.1.toAuto) steps :).trans (congrArg ModeRec.toAuto mode :)⟩

end Sys2Proof.Machine

/-! A poll that ends without a reply (R61, R63, R65, R71, R83, R151, R154). -/

namespace Sys2Proof.Machine

/-! ### The reply timer's expiry (R63) -/

/-- The face once its poll has ended: the line free, the reply timer stopped. -/
def FaceRec.freed (r : FaceRec) : FaceRec := r.modLink fun l => { l with line := .idle, replyTimer := none }

section
variable {f : Face} {p : Part}

theorem replyExpiry_nothing (h : (∀ pos sweep bad, (p.face f).link.line ≠ .awaiting pos sweep bad) ∨
    (p.face f).link.replyTimer = none) : replyExpiry f p = p := by
  unfold replyExpiry
  split
  · next pos sweep bad line =>
    rcases h with away | stopped
    · exact absurd line (away pos sweep bad)
    · exact if_neg (by rw [stopped]; nofun)
  all_goals rfl

theorem replyExpiry_ends {pos : Nat} {sweep bad : Bool} (line : (p.face f).link.line = .awaiting pos sweep bad)
    (runs : (p.face f).link.replyTimer ≠ none) : replyExpiry f p = pollEnd f pos .unanswered p := by
  unfold replyExpiry
  rw [line]
  exact if_pos (Option.isSome_iff_ne_none.mpr runs)

theorem pollEnd_running (d : DoorIx) (o : PollOutcome) (running : (p.face f).link.state = .running) :
    pollEnd f d.val o p = roundStep f (p.face f).link.pace d.val (runPollEnd f d o (p.modFace f FaceRec.freed)) := by
  unfold pollEnd; simp only
  rw [running]
  exact dif_pos d.isLt

theorem pollEnd_enumerating (d : DoorIx) (o : PollOutcome) (enum : (p.face f).link.state = .enumerating) :
    pollEnd f d.val o p = (enumPollEnd f d o (p.modFace f FaceRec.freed)).modFace f (enumAdvance d.val) := by
  unfold pollEnd; simp only
  rw [enum]
  exact dif_pos d.isLt

theorem pollEnd_sweeping (pos : Nat) (o : PollOutcome) (sweep : (p.face f).link.state = .sweeping) :
    pollEnd f pos o p = sweepPollEnd f pos o (p.modFace f FaceRec.freed) := by
  unfold pollEnd; simp only
  rw [sweep]
  rfl

/-! ### A missed poll while RUNNING (R65) -/

theorem runMissed_ok {d : DoorIx} {why : LostReason} (ok : (p.face f).health[d].health = .ok) : runMissed f d why p =
    setLate f d true (p.modFace f fun r => r.modHealth d fun h => { h with health := .late, miss := 1 }) := by
  unfold runMissed
  rw [ok]

theorem runMissed_late {d : DoorIx} {why : LostReason} (late : (p.face f).health[d].health = .late) :
    runMissed f d why p = runLost f d why p := by
  unfold runMissed
  rw [late]

/-- What a missed poll leaves of a face while RUNNING: its pace, its mode and its notice. -/
def FaceRec.pacing (r : FaceRec) : (LinkState × Pace × Nat × Timer) × ModeRec × Bool :=
  (r.link.gait, { r.mode with alarm := false }, r.notice)

theorem pacing_of_courses {q : Part} (h : q.courses = p.courses) : (q.face f).pacing = (p.face f).pacing :=
  (congrArg (fun c => (c.1.gait, c.2.2.1, c.2.2.2)) (congrFun h f) :)

theorem runMissed_pacing (d : DoorIx) (why : LostReason) : ((runMissed f d why p).face f).pacing = (p.face f).pacing := by
  have mod (g : FaceRec → FaceRec) (h : ∀ r, (g r).pacing = r.pacing) := p.modFace_keeps FaceRec.pacing f f g h
  unfold runMissed
  split
  · rw [pacing_of_courses (setLate_courses ..)]
    exact mod _ fun _ => rfl
  · unfold runLost
    rw [pacing_of_courses (enterLost_courses ..), queueReport_face]
    exact mod _ fun _ => rfl
  · exact mod _ fun _ => rfl
  · rfl

theorem runMissed_standing (d : DoorIx) (why : LostReason) : (runMissed f d why p).standing = p.standing := by
  unfold runMissed
  split <;> simp [runLost]

end

/-- A door that was OK is LATE after a missed poll. -/
theorem madeLate_of_missed {f : Face} {d : DoorIx} {why : LostReason} {s : State}
    (ok : (s.part.face f).health[d].health = .ok) : (s.part.face f).MadeLate d
      ((transmit { s with part := settle (runMissed f d why (s.part.modFace f FaceRec.freed)) }).part.face f) := by
  have freed : (s.part.modFace f FaceRec.freed).face f = (s.part.face f).freed := Part.modFace_self ..
  rw [transmit_face, runMissed_ok (by rw [freed]; exact ok)]
  generalize entry : (s.part.modFace f FaceRec.freed).modFace f
    (fun r => r.modHealth d fun h => { h with health := .late, miss := 1 }) = q
  have face : q.face f = (s.part.face f).freed.modHealth d fun h => { h with health := .late, miss := 1 } := by
    rw [← entry, Part.modFace_self, freed]
  have health : ((setLate f d true q).face f).health[d].core = (q.face f).health[d].core :=
    (congrFun (congrArg (fun c => c.2.1) (congrFun (setLate_courses f q d true) f)) d :)
  have stance := changeDoor_stance f d d .link (fun x => { x with late := true }) q
  rw [if_pos rfl, face] at stance
  rw [face] at health
  have entered := (settle_health f (setLate f d true q) d).trans health
  have door := settle_doors f (setLate f d true q) d
  have seen := (Door.stance_of_core door).trans stance
  simp only [FaceRec.modHealth_health_self, Fin.getElem_fin] at entered
  exact ⟨⟨congrArg (fun c => c.1) entered, congrArg (fun c => c.2.2) entered⟩, (congrArg Door.late seen :),
    (congrArg Door.state seen :), (congrArg Door.report seen :)⟩

section
variable {f : Face} {p : Part} (d : DoorIx) (why : LostReason)

/-- The health entry of a door that becomes LOST while RUNNING (R65). -/
theorem runLost_health : ((runLost f d why p).face f).health[d].core = (.lost, some why, 2) := by
  unfold runLost; simp only
  rw [show ((enterLost f d _).face f).health[d].core = _ from
    congrFun (congrArg (fun c => c.2.1) (congrFun (enterLost_courses f _ d) f)) d]
  unfold Part.courses FaceRec.course
  simp only [queueReport_face, Part.modFace_self, FaceRec.modLink_health, Fin.getElem_fin, FaceRec.modHealth_health_self]
  rfl

/-- The door table's record of a door that becomes LOST while RUNNING (R83). -/
theorem runLost_door : ((runLost f d why p).face f).doors[d.val].state = .lost ∧
    ((runLost f d why p).face f).doors[d.val].order = none ∧ ((runLost f d why p).face f).doors[d.val].late = false := by
  unfold runLost; simp only
  have stance := (enterLost_out f d (queueReport (.linkLost f d why ((p.modFace f fun r => (r.modHealth d fun h =>
    { h.settled with health := .lost, reason := some why, miss := 2 }).modLink (dropLost d)).face f).link.g)
    (p.modFace f fun r => (r.modHealth d fun h =>
      { h.settled with health := .lost, reason := some why, miss := 2 }).modLink (dropLost d)))).2
  exact ⟨(congrArg Door.state stance :), (congrArg Door.order stance :), (congrArg Door.late stance :)⟩

/-- The report of a door that becomes LOST while RUNNING (R65). -/
theorem runLost_told (room : p.reports.length < 64) :
    (.linkLost f d why (p.face f).link.g : Report) ∈ (runLost f d why p).reports := by
  have reports (g : FaceRec → FaceRec) : (p.modFace f g).reports = p.reports := by cases f <;> rfl
  unfold runLost; simp only
  refine enterLost_closed (waits_fullyClosed rfl rfl).toClosed f trivial ?_ d
  rw [Part.modFace_self]
  exact queueReport_waits (by rw [reports]; exact room)

end

/-- A door that was LATE is LOST after a missed poll. -/
theorem madeLost_of_missed {f : Face} {d : DoorIx} {why : LostReason} {s : State}
    (late : (s.part.face f).health[d].health = .late) : s.part.MadeLost f d why (s.host.tx ≠ .idle)
      (transmit { s with part := settle (runMissed f d why (s.part.modFace f FaceRec.freed)) }).part := by
  generalize freed : s.part.modFace f FaceRec.freed = p
  have face : p.face f = (s.part.face f).freed := by rw [← freed, Part.modFace_self]
  have reports : p.reports = s.part.reports := by rw [← freed]; cases f <;> rfl
  rw [runMissed_late (by rw [face]; exact late)]
  have health := (settle_health f (runLost f d why p) d).trans (runLost_health d why)
  have door := Door.stance_of_core (settle_doors f (runLost f d why p) d)
  obtain ⟨state, order, cleared⟩ := runLost_door (f := f) (p := p) d why
  refine ⟨?_, ?_, outOfMachinery_of_arb ((transmit_arb _).trans (settle_arb _)) (enterLost_out f d _).1, fun sending room => ?_⟩
  · rw [transmit_face]
    exact ⟨congrArg (fun c => c.1) health, congrArg (fun c => c.2.1) health, congrArg (fun c => c.2.2) health⟩
  · rw [transmit_face]
    exact ⟨(congrArg Door.state door :).trans state, (congrArg Door.order door :).trans order,
      (congrArg Door.late door :).trans cleared⟩
  · have told := runLost_told (f := f) d why (p := p) (by rw [reports]; exact room)
    rw [face] at told
    rw [transmit_sending (s := { s with part := settle (runLost f d why p) }) sending]
    exact settle_waits rfl rfl told

/-! ### The end of a poll of a wake round (R71, R154) -/

section
variable {f : Face} {p : Part} (pos : Nat) (wake : (p.face f).link.pace = .wake)
include wake

theorem roundStep_more (more : 2 ≤ (p.face f).link.wakeCount) : roundStep f .wake pos p =
    p.modFace f fun r => r.modLink fun l => { l with wakeCount := l.wakeCount - 1 } := by
  unfold roundStep; simp only
  rw [if_pos wake, if_neg (by omega)]

theorem roundStep_last (last : (p.face f).link.wakeCount ≤ 1) : roundStep f .wake pos p =
    wakeRoundEnded f (p.modFace f fun r => r.modLink fun l => { l with wakeCount := 0, pace := .normal }) := by
  unfold roundStep; simp only
  rw [if_pos wake, if_pos last]

end

/-- A face at the end of its wake round: at normal pace, with no notice held. -/
structure FaceRec.RoundEnded (r x : FaceRec) : Prop where
  pace : x.link.pace = .normal ∧ x.link.wakeCount = 0
  ended : x.mode.wakeRound = false ∧ x.mode.heldNotice = false
  mode : x.mode.mode = r.mode.mode ∧ x.mode.handover = r.mode.handover
  notice : x.notice = if r.mode.heldNotice then autoTest r else r.notice

theorem wakeRoundEnded_face (f : Face) (p : Part) : (p.face f).RoundEnded ((wakeRoundEnded f
    (p.modFace f fun r => r.modLink fun l => { l with wakeCount := 0, pace := .normal })).face f) := by
  unfold wakeRoundEnded; simp only
  rw [Part.modFace_self, Part.modFace_self]
  cases held : (p.face f).mode.heldNotice
  · simp only [FaceRec.modLink_mode, held]
    exact ⟨⟨rfl, rfl⟩, ⟨rfl, rfl⟩, ⟨rfl, rfl⟩, by rw [held]; rfl⟩
  · simp only [FaceRec.modLink_mode, held]
    exact ⟨⟨rfl, rfl⟩, ⟨rfl, rfl⟩, ⟨rfl, rfl⟩, by rw [held]; rfl⟩

/-- The automatic-opening test reads the alignment record, the berth and the mode (R55). -/
theorem autoTest_congr {r x : FaceRec} (standing : x.standing = r.standing) (mode : x.mode.mode = r.mode.mode) :
    autoTest x = autoTest r := by
  have berth : x.berth = r.berth := congrArg Standing.berth standing
  have align : x.align = r.align := congrArg Standing.align standing
  unfold autoTest
  rw [berth, align, mode]

/-! ### The polls of an enumeration and of its sweep (R61) -/

section
variable {r : FaceRec} {g pos : Nat}

theorem linkPump_enumerating (h : r.link.cycle = (.enumerating, g, .idle, pos)) :
    linkPump r = r.modLink fun l => { l with line := .sending (.poll g pos false) } := by
  simp only [Link.cycle, Prod.mk.injEq] at h
  obtain ⟨state, rfl, free, rfl⟩ := h
  unfold linkPump
  rw [if_pos free, state]
  rfl

theorem linkPump_sweeping (h : r.link.cycle = (.sweeping, g, .idle, pos)) :
    linkPump r = r.modLink fun l => { l with line := .sending (.poll g pos true) } := by
  simp only [Link.cycle, Prod.mk.injEq] at h
  obtain ⟨state, rfl, free, rfl⟩ := h
  unfold linkPump
  rw [if_pos free, state]
  rfl

/-- The position set after the poll of one of an enumeration (R61). -/
theorem enumAdvance_cycle {n : Nat} (d : Nat) (count : r.n = n) (h : r.link.cycle = (.enumerating, g, .idle, pos)) :
    (d + 1 < n → (enumAdvance d r).link.cycle = (.enumerating, g, .idle, d + 1)) ∧
      (n ≤ d + 1 → (enumAdvance d r).link.cycle = (.sweeping, g, .idle, n)) := by
  simp only [Link.cycle, Prod.mk.injEq] at h
  obtain ⟨state, rfl, free, -⟩ := h
  unfold enumAdvance Link.cycle
  rw [FaceRec.modLink_link, count]
  constructor
  · intro more
    rw [if_neg (by omega)]
    simp only [state, free]
  · intro last
    rw [if_pos last]
    simp only [free]

end

/-- Once the next position is set the end of the event begins its poll. -/
theorem settle_advances {f : Face} {r : FaceRec} {p : Part} {d : DoorIx} {pos : Nat} (n : (p.face f).n = r.n)
    (cycle : (p.face f).link.cycle = (.enumerating, r.link.g, .idle, pos)) :
    r.Advances d ((settle (p.modFace f (enumAdvance d.val))).face f) := by
  obtain ⟨q, same, settled⟩ := settle_face_eq f (p.modFace f (enumAdvance d.val))
  have kept := (cycle_lasting f ((p.modFace f (enumAdvance d.val)).face f)).settleFace_link (p := q) (by rw [same])
    fun x y link h => by rw [link]; exact h
  rw [Part.modFace_self] at kept
  obtain ⟨more, last⟩ := enumAdvance_cycle d.val n cycle
  rw [settled]
  refine ⟨fun next => ?_, fun done => ?_⟩
  · have polled := kept.trans (more next)
    rw [linkPump_enumerating polled]
    exact ⟨congrArg (fun c => c.1) polled, rfl⟩
  · have swept := kept.trans (last done)
    rw [linkPump_sweeping swept]
    exact ⟨congrArg (fun c => c.1) swept, rfl⟩

/-! ### The end of the sweep (R61, R151) -/

theorem FaceRec.mem_lostDoors {r : FaceRec} {d : DoorIx} {why : LostReason} : (d, why) ∈ r.lostDoors ↔
    r.configured d = true ∧ r.health[d].health = .lost ∧ r.health[d].reason = some why := by
  unfold FaceRec.lostDoors
  rw [List.mem_filterMap]
  constructor
  · rintro ⟨e, inside, found⟩
    split at found
    · next lost =>
      obtain ⟨x, reason, pair⟩ := Option.map_eq_some_iff.mp found
      obtain ⟨rfl, rfl⟩ := Prod.mk.inj pair
      exact ⟨mem_configuredDoors.mp inside, lost, reason⟩
    · cases found
  · rintro ⟨set, lost, reason⟩
    exact ⟨d, mem_configuredDoors.mpr set, by rw [if_pos lost, reason]; rfl⟩

/-- Of the face but its link record the entry to RUNNING changes health entries alone. -/
theorem enterRunning_rest (r : FaceRec) : { enterRunning r with link := r.link, health := r.health } = r :=
  foldl_keeps (fun x : FaceRec => ({ x with link := r.link, health := r.health } : FaceRec))
    (fun x (d : DoorIx) => handCue d x.doors[d].cue x)
    (fun x d => by unfold handCue; split <;> rfl) r.configuredDoors (r.modLink fun l =>
      (r.lostDoors.map Prod.fst).foldl (fun l d => dropLost d l)
        { l with state := .running, pace := .normal, pollPos := 0, nonPoll := 0, flashTimer := some 125 })

theorem enterRunning_gait (r : FaceRec) :
    (enterRunning r).link.gait = (.running, .normal, r.link.wakeCount, some 125) := by
  have handed := foldl_keeps FaceRec.link (fun x (d : DoorIx) => handCue d x.doors[d].cue x)
    (fun x d => by unfold handCue; split <;> rfl) r.configuredDoors (r.modLink fun l =>
      (r.lostDoors.map Prod.fst).foldl (fun l d => dropLost d l)
        { l with state := .running, pace := .normal, pollPos := 0, nonPoll := 0, flashTimer := some 125 })
  have dropped := foldl_keeps Link.gait (fun l d => dropLost d l) (fun _ _ => rfl) (r.lostDoors.map Prod.fst)
    { r.link with state := .running, pace := .normal, pollPos := 0, nonPoll := 0, flashTimer := some 125 }
  exact (congrArg Link.gait handed).trans dropped

end Sys2Proof.Machine

/-! The reply timer's expiry, by the state and the pace of the link (R61, R63, R65, R71, R151, R154). -/

namespace Sys2Proof.Machine

/-! ### The modes at the end of an enumeration (R151) -/

/-- The face that is not to enter AUTO takes no notice of an enumeration's end. -/
theorem enumerationCompleted_not {f : Face} {p : Part} (h : (p.face f).mode.toAuto = false) :
    enumerationCompleted f p = p := by
  unfold enumerationCompleted; simp only
  rw [if_neg (by rw [h]; nofun)]

/-- A face after an enumeration it was to enter AUTO with: the pace of its link kept, the mark cleared; out of STANDBY, or with
its operation as it was. -/
structure FaceRec.Completed (x y : FaceRec) : Prop where
  gait : y.link.gait = x.link.gait
  toAuto : y.mode.toAuto = false
  rests : y.mode.mode ≠ .standby ∨ y.op = x.op

/-- An entry to AUTO with the panel's request INACTIVE (R155). -/
theorem enterAuto_face {f : Face} {p : Part} (c : ModeCause) (h : (p.face f).localReq = false) :
    (enterAuto f c p).face f =
        (p.face f).modMode fun m => { m with mode := .auto } := by
  have entered : (queueModeReport f (p.face f).mode.mode c
      (p.modFace f fun r => r.modMode fun m => { m with mode := .auto })).face f =
        (p.face f).modMode fun m => { m with mode := .auto } := by
    unfold queueModeReport
    rw [queueReport_face, Part.modFace_self]
  unfold enterAuto takeLocalRequest; simp only
  have unasked : ((p.face f).modMode fun m => { m with mode := .auto }).localReq = false := h
  rw [if_neg (by rw [entered, unasked]; exact fun both => Bool.false_ne_true both.2)]
  exact entered

theorem enterAuto_op (f : Face) (c : ModeCause) (p : Part) :
    ((enterAuto f c p).face f).op = (p.face f).op ∧ ((enterAuto f c p).face f).mode.toAuto = (p.face f).mode.toAuto :=
  Prod.mk.inj (enterAuto_view (fun r => (r.op, r.mode.toAuto)) (fun r _ _ h => congrArg (r.op, ·) h) f c p)

theorem enumerationCompleted_face {f : Face} {p : Part} (h : (p.face f).mode.toAuto = true) :
    (p.face f).Completed ((enumerationCompleted f p).face f) := by
  have cleared : (p.modFace f fun r => r.modMode fun m => { m with toAuto := false }).face f =
      (p.face f).modMode fun m => { m with toAuto := false } := Part.modFace_self ..
  have entered (awake : (p.face f).mode.mode ≠ .standby) : (p.face f).Completed ((if p.fire.cause.isSome then
      enterFire f .enumerated (p.modFace f fun r => r.modMode fun m => { m with toAuto := false }) else
      enterAuto f .enumerated (p.modFace f fun r => r.modMode fun m => { m with toAuto := false })).face f) := by
    split
    · obtain ⟨gait, mode, toAuto⟩ := enterFire_face (p := p.modFace f fun r => r.modMode fun m => { m with toAuto := false })
        (by rw [cleared]; exact awake) .enumerated
      rw [cleared] at gait toAuto
      exact ⟨gait, toAuto, .inl (by rw [mode]; nofun)⟩
    · obtain ⟨op, toAuto⟩ := enterAuto_op f .enumerated (p.modFace f fun r => r.modMode fun m => { m with toAuto := false })
      have link := enterAuto_link f .enumerated (p.modFace f fun r => r.modMode fun m => { m with toAuto := false })
      rw [cleared] at op toAuto link
      exact ⟨congrArg Link.gait link, toAuto, .inr op⟩
  have fire : (p.modFace f fun r => r.modMode fun m => { m with toAuto := false }).fire = p.fire := by cases f <;> rfl
  unfold enumerationCompleted; simp only
  rw [if_pos h, fire]
  split
  · next mode => exact entered (by rw [mode]; nofun)
  · next mode => exact entered (by rw [mode]; nofun)
  all_goals
    rw [cleared]
    exact ⟨rfl, rfl, .inr rfl⟩

/-- The mode in which a face of no mode, or in MAINT, leaves an enumeration it was to enter AUTO with (R140, R151). -/
theorem enumerationCompleted_mode {f : Face} {p : Part} (h : (p.face f).mode.toAuto = true)
    (mode : (p.face f).mode.mode = .unconfigured ∨ (p.face f).mode.mode = .maint) :
    (p.fire.cause ≠ none → ((enumerationCompleted f p).face f).mode.mode = .fire) ∧
      (p.fire.cause = none → (p.face f).localReq = false → ((enumerationCompleted f p).face f).mode.mode = .auto ∧
        ((enumerationCompleted f p).face f).mode.handover = (p.face f).mode.handover) := by
  have fire : (p.modFace f fun r => r.modMode fun m => { m with toAuto := false }).fire = p.fire := by cases f <;> rfl
  have cleared : (p.modFace f fun r => r.modMode fun m => { m with toAuto := false }).face f =
      (p.face f).modMode fun m => { m with toAuto := false } := Part.modFace_self ..
  have enters : enumerationCompleted f p = if p.fire.cause.isSome then
      enterFire f .enumerated (p.modFace f fun r => r.modMode fun m => { m with toAuto := false }) else
      enterAuto f .enumerated (p.modFace f fun r => r.modMode fun m => { m with toAuto := false }) := by
    unfold enumerationCompleted; simp only
    rw [if_pos h, fire]
    rcases mode with mode | mode <;> rw [mode]
  rw [enters]
  refine ⟨fun burns => ?_, fun calm quiet => ?_⟩
  · rw [if_pos (Option.isSome_iff_ne_none.mpr burns)]
    exact (enterFire_face (by rw [cleared]; rcases mode with mode | mode <;> exact fun c => by cases mode.symm.trans c) _).2.1
  · rw [if_neg (by rw [calm]; nofun), enterAuto_face _ (by rw [cleared]; exact quiet), cleared]
    exact ⟨rfl, rfl⟩

end Sys2Proof.Machine

namespace Sys2Proof.Machine

/-! ### The last poll of a sweep (R61, R151) -/

section
variable {f : Face} {p : Part}

theorem sweepPollEnd_next {pos : Nat} (more : pos < 31) :
    sweepPollEnd f pos .unanswered p = p.modFace f fun r => r.modLink fun l => { l with pollPos := pos + 1 } :=
  if_neg (by omega)

theorem sweepPollEnd_last {pos : Nat} (last : 31 ≤ pos) : sweepPollEnd f pos .unanswered p = sweepDone f p := if_pos last

/-- The face as its link enters RUNNING. -/
theorem sweepDone_face : ((queueReport (.linkEnumerated f (enumReport (p.face f))) p).modFace f enterRunning).face f =
    enterRunning (p.face f) := by rw [Part.modFace_self, queueReport_face]

theorem enterRunning_kept (r : FaceRec) : (enterRunning r).mode = r.mode ∧ (enterRunning r).op = r.op :=
  ⟨(congrArg FaceRec.mode (enterRunning_rest r) :), (congrArg FaceRec.op (enterRunning_rest r) :)⟩

/-- The sweep of a face that is not to enter AUTO. -/
theorem sweepDone_stays (stays : (p.face f).mode.toAuto = false) (quiet : (p.face f).quiet) :
    (enterRunning (p.face f)).Ended ((settle (sweepDone f p)).face f) := by
  have done : sweepDone f p = (queueReport (.linkEnumerated f (enumReport (p.face f))) p).modFace f enterRunning :=
    enumerationCompleted_not (by rw [sweepDone_face, (enterRunning_kept _).1]; exact stays)
  have ended := settle_ended (f := f) (p := sweepDone f p)
    (.inr (by rw [done, sweepDone_face]; unfold FaceRec.quiet; rw [(enterRunning_kept _).2]; exact quiet))
  rw [done, sweepDone_face] at ended
  rw [done]
  exact ended

/-- The sweep of a face that is to enter AUTO: what the end of the event finds. -/
theorem sweepDone_enters (enters : (p.face f).mode.toAuto = true) (quiet : (p.face f).quiet) :
    (enterRunning (p.face f)).Completed ((sweepDone f p).face f) ∧
      ((sweepDone f p).face f).Ended ((settle (sweepDone f p)).face f) := by
  have completed := enumerationCompleted_face (f := f)
    (p := (queueReport (.linkEnumerated f (enumReport (p.face f))) p).modFace f enterRunning)
    (by rw [sweepDone_face, (enterRunning_kept _).1]; exact enters)
  rw [sweepDone_face] at completed
  refine ⟨completed, settle_ended (completed.rests.imp_right fun op => ?_)⟩
  unfold FaceRec.quiet
  rw [show ((sweepDone f p).face f).op = _ from op, (enterRunning_kept _).2]
  exact quiet

/-- The mode a face of no mode, or in MAINT, takes at the end of a sweep it was to enter AUTO with (R140, R151). -/
theorem sweepDone_mode (enters : (p.face f).mode.toAuto = true)
    (mode : (p.face f).mode.mode = .unconfigured ∨ (p.face f).mode.mode = .maint) (quiet : (p.face f).quiet) :
    let y := (settle (sweepDone f p)).face f
    y.mode.toAuto = false ∧ (p.fire.cause ≠ none → y.mode.mode = .fire) ∧
      (p.fire.cause = none → (p.face f).localReq = false → (p.face f).mode.handover = false → y.mode.mode = .auto) := by
  obtain ⟨completed, ended⟩ := sweepDone_enters enters quiet
  have same := (enterRunning_kept (p.face f)).1
  have modes := enumerationCompleted_mode (f := f)
    (p := (queueReport (.linkEnumerated f (enumReport (p.face f))) p).modFace f enterRunning)
    (by rw [sweepDone_face, same]; exact enters) (by rw [sweepDone_face, same]; exact mode)
  have fire : ((queueReport (.linkEnumerated f (enumReport (p.face f))) p).modFace f enterRunning).fire = p.fire := by
    obtain ⟨_, _, e⟩ := queueReport_eq (.linkEnumerated f (enumReport (p.face f))) p
    rw [e]
    cases f <;> rfl
  rw [sweepDone_face, fire] at modes
  obtain ⟨burns, calm⟩ := modes
  refine ⟨ended.toAuto.trans completed.toAuto, fun burning => ?_, fun quenched free unasked => ?_⟩
  · have entered : ((sweepDone f p).face f).mode.mode = .fire := burns burning
    refine (ended.granted.resolve_right fun granted => ?_).1.trans entered
    cases entered.symm.trans granted.1
  · obtain ⟨auto, pending⟩ := calm quenched (by unfold FaceRec.localReq; rw [same]; exact free)
    refine (ended.granted.resolve_right fun granted => ?_).1.trans auto
    have none := granted.2.symm.trans pending
    rw [same, unasked] at none
    cases none

/-- The pace of the link at the end of a sweep. -/
theorem sweepDone_gait (quiet : (p.face f).quiet) :
    ((settle (sweepDone f p)).face f).link.gait = (.running, .normal, (p.face f).link.wakeCount, some 125) := by
  cases enters : (p.face f).mode.toAuto
  · exact (sweepDone_stays enters quiet).gait.trans (enterRunning_gait _)
  · obtain ⟨completed, ended⟩ := sweepDone_enters enters quiet
    exact ended.gait.trans (completed.gait.trans (enterRunning_gait _))

/-- The report of an enumeration (R61). -/
theorem sweepDone_told (room : p.reports.length < 64) :
    (.linkEnumerated f (enumReport (p.face f)) : Report) ∈ (settle (sweepDone f p)).reports := by
  refine settle_waits rfl rfl (enumerationCompleted_closed (waits_fullyClosed rfl rfl) f trivial ?_)
  have told := queueReport_waits (r := .linkEnumerated f (enumReport (p.face f))) room
  cases f <;> exact told

end

/-! ### The polls of a wake round and of an enumeration (R61, R71, R154) -/

section
variable {f : Face} {p : Part} {d : DoorIx} {why : LostReason}

/-- A face whose pace, mode and notice are those of another. -/
structure FaceRec.PacedAs (r x : FaceRec) : Prop where
  pace : x.link.pace = r.link.pace
  count : x.link.wakeCount = r.link.wakeCount
  mode : x.mode.mode = r.mode.mode
  handover : x.mode.handover = r.mode.handover
  round : x.mode.wakeRound = r.mode.wakeRound
  held : x.mode.heldNotice = r.mode.heldNotice
  notice : x.notice = r.notice

theorem FaceRec.PacedAs.of_pacing {r x : FaceRec} (h : x.pacing = r.pacing) : r.PacedAs x where
  pace := congrArg (fun c => c.1.2.1) h
  count := congrArg (fun c => c.1.2.2.1) h
  mode := congrArg (fun c => c.2.1.mode) h
  handover := congrArg (fun c => c.2.1.handover) h
  round := congrArg (fun c => c.2.1.wakeRound) h
  held := congrArg (fun c => c.2.1.heldNotice) h
  notice := congrArg (fun c => c.2.2) h

/-- The mode and the wake count after a missed poll of a wake round that goes on. -/
theorem wakePoll_more (wake : (p.face f).link.pace = .wake) (awake : (p.face f).mode.mode ≠ .standby)
    (more : 2 ≤ (p.face f).link.wakeCount) :
    let y := (settle (roundStep f .wake d.val (runMissed f d why p))).face f
    y.link.pace = .wake ∧ y.link.wakeCount = (p.face f).link.wakeCount - 1 ∧ y.mode.wakeRound = (p.face f).mode.wakeRound := by
  have kept := FaceRec.PacedAs.of_pacing (runMissed_pacing (f := f) (p := p) d why)
  generalize runMissed f d why p = q at kept
  have face : (roundStep f .wake d.val q).face f = (q.face f).modLink fun l => { l with wakeCount := l.wakeCount - 1 } := by
    rw [roundStep_more d.val (kept.pace.trans wake) (by rw [kept.count]; exact more), Part.modFace_self]
  have ended := settle_ended (f := f) (p := roundStep f .wake d.val q)
    (.inl (by rw [face]; exact fun c => awake (kept.mode.symm.trans c)))
  rw [face] at ended
  exact ⟨((congrArg (fun c => c.2.1) ended.gait).trans kept.pace).trans wake,
    (congrArg (fun c => c.2.2.1) ended.gait).trans (congrArg (· - 1) kept.count), ended.round.trans kept.round⟩

/-- The face after the missed poll that ends its wake round. -/
theorem wakePoll_last (wake : (p.face f).link.pace = .wake) (awake : (p.face f).mode.mode ≠ .standby)
    (last : (p.face f).link.wakeCount ≤ 1) :
    let r := p.face f
    let y := (settle (roundStep f .wake d.val (runMissed f d why p))).face f
    y.link.pace = .normal ∧ y.link.wakeCount = 0 ∧ y.mode.wakeRound = false ∧ y.mode.heldNotice = false ∧
      (r.mode.handover = false → y.notice = if r.mode.heldNotice then autoTest r else r.notice) := by
  have kept := FaceRec.PacedAs.of_pacing (runMissed_pacing (f := f) (p := p) d why)
  have standing : ((runMissed f d why p).face f).standing = (p.face f).standing :=
    congrFun (runMissed_standing (f := f) (p := p) d why) f
  generalize runMissed f d why p = q at kept standing
  have round := wakeRoundEnded_face f q
  rw [← roundStep_last d.val (kept.pace.trans wake) (by rw [kept.count]; exact last)] at round
  have ended := settle_ended (f := f) (p := roundStep f .wake d.val q)
    (.inl fun c => awake (kept.mode.symm.trans (round.mode.1.symm.trans c)))
  refine ⟨(congrArg (fun c => c.2.1) ended.gait).trans round.pace.1, (congrArg (fun c => c.2.2.1) ended.gait).trans round.pace.2,
    ended.round.trans round.ended.1, ended.held round.ended.2, fun free => ?_⟩
  have pending : ((roundStep f .wake d.val q).face f).mode.handover = false :=
    round.mode.2.trans (kept.handover.trans free)
  have stays := ended.granted.resolve_right fun due => by rw [pending] at due; cases due.2
  rw [stays.2, round.notice, autoTest_congr standing kept.mode, kept.notice, kept.held]

/-- What the end of an enumeration poll finds of a door that has not answered: LOST at the link and in the door table. -/
theorem enumLost_entered : ((enumLost f d why p).face f).health[d].core = (.lost, some why, (p.face f).health[d].miss) ∧
    ((enumLost f d why p).face f).doors[d.val].state = .lost ∧ (enumLost f d why p).outOfMachinery f d ∧
    ((enumLost f d why p).face f).n = (p.face f).n ∧ ((enumLost f d why p).face f).link.cycle = (p.face f).link.cycle := by
  unfold enumLost
  generalize entered : p.modFace f (fun r => r.modHealth d fun h => { h with health := .lost, reason := some why }) = q
  have face : q.face f = (p.face f).modHealth d fun h => { h with health := .lost, reason := some why } := by
    rw [← entered, Part.modFace_self]
  have course : ((enterLost f d q).face f).course = (q.face f).course := congrFun (enterLost_courses f q d) f
  have geom : ((enterLost f d q).face f).geom = (q.face f).geom := congrArg Standing.geom (congrFun (enterLost_standing f q d) f)
  obtain ⟨out, stance⟩ := enterLost_out f d q
  refine ⟨(congrFun (congrArg (fun c => c.2.1) course) d).trans ?_, (congrArg Door.state stance :), out, ?_,
    (congrArg (fun c => c.1.cycle) course :).trans ?_⟩
  · rw [face]
    exact congrArg Health.core (FaceRec.modHealth_health_self ..)
  · unfold FaceRec.n
    rw [geom, face]
    rfl
  · rw [face]
    rfl

end

end Sys2Proof.Machine

namespace Sys2Proof.Proofs

open Sys2Proof.Machine

/-- Settles O41: the poll's end by the state and the pace of the link, and then the end of the event. -/
theorem pollMissed : Obligations.PollMissed := by
  intro f s settled here r
  have event := faceEvent_eq settled here (replyExpiry f)
  have freed : (s.part.modFace f FaceRec.freed).face f = r.freed := Part.modFace_self ..
  refine ⟨fun idle => ?nothing, fun d bad running pace line runs => ?normal, fun d bad running pace awake line runs => ?wake,
    fun d bad enum line runs set => ?enumerating, fun pos bad sweep line runs => ⟨fun more => ?next, fun last => ?last⟩⟩
  case nothing => exact congrArg Host.Outcome.next (faceEvent_still settled here (replyExpiry_nothing idle))
  case normal =>
    have ends : replyExpiry f s.part = runMissed f d .noAnswer (s.part.modFace f FaceRec.freed) := by
      rw [replyExpiry_ends line runs, pollEnd_running d _ running, pace]
      rfl
    rw [ends] at event
    exact ⟨fun ok => ⟨_, congrArg Host.Outcome.next event, madeLate_of_missed ok⟩,
      fun late => ⟨_, congrArg Host.Outcome.next event, madeLost_of_missed late⟩⟩
  case wake =>
    generalize begun : s.part.modFace f FaceRec.freed = p at freed
    have ends : replyExpiry f s.part = roundStep f .wake d.val (runMissed f d .noAnswer p) := by
      rw [replyExpiry_ends line runs, pollEnd_running d _ running, pace, begun]
      rfl
    refine ⟨_, congrArg Host.Outcome.next event, fun more => ?_, fun last => ?_⟩
    all_goals rw [transmit_face, ends]
    · have going := wakePoll_more (f := f) (p := p) (d := d) (why := .noAnswer) (by rw [freed]; exact pace)
        (by rw [freed]; exact awake) (by rw [freed]; exact more)
      rw [freed] at going
      exact going
    · obtain ⟨paced, count, round, held, notice⟩ := wakePoll_last (f := f) (p := p) (d := d) (why := .noAnswer)
        (by rw [freed]; exact pace) (by rw [freed]; exact awake) (by rw [freed]; exact last)
      refine ⟨paced, count, round, held, fun free => ?_⟩
      have test := notice (by rw [freed]; exact free)
      rw [freed] at test
      exact ⟨fun h => by rw [test, if_pos (by exact h)]; exact autoTest_iff r, fun h => test.trans (if_neg (by
        rw [show r.freed.mode.heldNotice = false from h]; nofun))⟩
  case enumerating =>
    generalize begun : s.part.modFace f FaceRec.freed = p at freed
    have ends : replyExpiry f s.part = (enumLost f d .noAnswer p).modFace f (enumAdvance d.val) := by
      rw [replyExpiry_ends line runs, pollEnd_enumerating d _ enum, begun]
      rfl
    obtain ⟨health, state, out, n, cycle⟩ := enumLost_entered (f := f) (p := p) (d := d) (why := .noAnswer)
    rw [freed] at n cycle
    generalize enumLost f d .noAnswer p = q at ends health state out n cycle
    have face : (q.modFace f (enumAdvance d.val)).face f = enumAdvance d.val (q.face f) := Part.modFace_self ..
    have entered := settle_health f (q.modFace f (enumAdvance d.val)) d
    have door := settle_doors f (q.modFace f (enumAdvance d.val)) d
    rw [face] at entered door
    refine ⟨_, congrArg Host.Outcome.next event, ?_, ?_, ?_, ?_, ?_⟩
    · rw [transmit_face, ends]
      exact settle_advances n (cycle.trans (congrArg (fun x => (x, r.link.g, Line.idle, r.link.pollPos)) enum))
    · rw [transmit_face, ends]
      exact congrArg (fun c => c.1) (entered.trans health)
    · rw [transmit_face, ends]
      exact congrArg (fun c => c.2.1) (entered.trans health)
    · rw [transmit_face, ends]
      exact (congrArg Door.state door :).trans state
    · rw [ends]
      exact outOfMachinery_of_arb ((transmit_arb _).trans ((settle_arb _).trans (Part.modFace_arb ..))) out
  case next =>
    have ends : replyExpiry f s.part = s.part.modFace f fun r => r.modLink fun l =>
        { l with line := .idle, replyTimer := none, pollPos := pos + 1 } := by
      rw [replyExpiry_ends line runs, pollEnd_sweeping _ _ sweep, sweepPollEnd_next more, Part.modFace_modFace]
      rfl
    refine congrArg Host.Outcome.next ((faceEvent_link settled here ends (.inl rfl)).trans ?_)
    refine congrArg (fun p => ({ s with part := p } : State)) (Part.modFace_congr _ _ _ _ ?_)
    refine (linkPump_sweeping (g := r.link.g) (pos := pos + 1) ?_).trans rfl
    exact congrArg (fun x => (x, r.link.g, Line.idle, pos + 1)) sweep
  case last =>
    generalize begun : s.part.modFace f FaceRec.freed = p at freed
    have ends : replyExpiry f s.part = sweepDone f p := by
      rw [replyExpiry_ends line runs, pollEnd_sweeping _ _ sweep, sweepPollEnd_last last, begun]
    have quiet : (p.face f).quiet := by rw [freed]; exact (settled.faces f).op
    have fire : p.fire = s.part.fire := by rw [← begun]; cases f <;> rfl
    have reports : p.reports = s.part.reports := by rw [← begun]; cases f <;> rfl
    have gait := sweepDone_gait quiet
    refine ⟨_, congrArg Host.Outcome.next event, ?_, ?_, ?_,
      fun sending room => ⟨r.lostDoors, ?_, fun _ _ => FaceRec.mem_lostDoors⟩, fun stays => ?_, fun enters mode => ?_⟩
    · rw [transmit_face, ends]
      exact congrArg (fun c => c.1) gait
    · rw [transmit_face, ends]
      exact congrArg (fun c => c.2.1) gait
    · rw [transmit_face, ends]
      exact congrArg (fun c => c.2.2.2) gait
    · have told := sweepDone_told (f := f) (p := p) (by rw [reports]; exact room)
      have same : enumReport (p.face f) = ⟨r.link.enumTag, r.link.g, r.n,
          (allDoors.filter fun d => r.configured d && decide (r.health[d].health = .ok)).length, r.lostDoors, r.link.extra⟩ := by
        have count : r.okCount =
            (allDoors.filter fun d => r.configured d && decide (r.health[d].health = .ok)).length := by
          unfold FaceRec.okCount FaceRec.configuredDoors
          rw [List.filter_filter]
          simp only [Bool.and_comm]
        rw [freed, ← count]
        rfl
      rw [same] at told
      rw [transmit_sending (s := { s with part := settle (replyExpiry f s.part) }) sending, ends]
      exact told
    · rw [transmit_face, ends]
      have ended := sweepDone_stays (f := f) (p := p) (by rw [freed]; exact stays) quiet
      have modes := (enterRunning_kept (p.face f)).1
      rw [freed] at modes
      rcases ended.granted with ⟨same, -⟩ | ⟨-, pending⟩
      · left
        rw [freed, modes] at same
        exact same
      · right
        rw [freed, modes] at pending
        exact pending
    · have modes := sweepDone_mode (f := f) (p := p) (by rw [freed]; exact enters) (by rw [freed]; exact mode) quiet
      rw [freed, fire] at modes
      rw [transmit_face, ends]
      exact modes

end Sys2Proof.Proofs

/-! What the door table's operations on one door make of its record, as the rules for a report read it (R77 to R92). -/

namespace Sys2Proof.Machine

/-! ### What the rules for a report read of a door record -/

/-- A door record without what the rules for a report do not read, and without the report. -/
def Door.gist (x : Door) : Door := { x.stance with counts := .zero, late := false, report := none }

theorem Door.gist_of_stance {x y : Door} (h : x.stance = y.stance) : x.gist = y.gist :=
  congrArg (fun z : Door => { z with counts := .zero, late := false, report := none }) h

theorem classified_of_latch {x x' y y' : Door} {rep : DoorReport} (before : x'.latch = x.latch) (after : y'.gist = y.gist)
    (h : Classified x rep y) : Classified x' rep y' := by
  have seen : Classified x rep y.gist := ⟨h.released, h.faulty,
    fun l p q k => let ⟨a, b, c, d⟩ := h.keyed l p q k; ⟨a, b, c, d⟩, h.shut, h.standing⟩
  rw [← after] at seen
  obtain ⟨released, faulty, keyed, shut, standing⟩ := seen
  rw [← before] at released faulty keyed shut standing
  exact ⟨released, faulty, fun l p q k => let ⟨a, b, c, d⟩ := keyed l p q k; ⟨a, b, c, d⟩, shut, standing⟩

theorem judged_of_gist {ps : FaceParams} {x x' y y' : Door} {rep : DoorReport} (before : x'.gist = x.gist)
    (after : y'.gist = y.gist) (h : Judged ps x rep y) : Judged ps x' rep y' := by
  have seen : Judged ps x.gist rep y.gist := ⟨h.pulled, h.released, h.faulty, h.returned, h.discrepant,
    fun a b c e k => let ⟨⟨s, o, c, t⟩, u⟩ := h.keyed a b c e k; ⟨⟨s, o, c, t⟩, u⟩, h.failed, h.ruled⟩
  rw [← before, ← after] at seen
  exact ⟨seen.pulled, seen.released, seen.faulty, seen.returned, seen.discrepant,
    fun a b c e k => let ⟨⟨s, o, c, t⟩, u⟩ := seen.keyed a b c e k; ⟨⟨s, o, c, t⟩, u⟩, seen.failed, seen.ruled⟩

/-! ### The fields of a report -/

section
variable {rep : DoorReport}

theorem DoorReport.shut_iff : rep.shut = true ↔ rep.rests := by
  simp [DoorReport.shut, DoorReport.rests, and_assoc]

theorem DoorReport.faulty_iff : rep.faulty = true ↔ rep.fault ≠ .none := decide_eq_true_iff

theorem DoorReport.keyOut_iff : rep.keyOut = true ↔ rep.key ≠ .auto := decide_eq_true_iff

theorem DoorReport.travelling_iff : rep.travelling = true ↔ rep.travels := by
  simp [DoorReport.travelling, DoorReport.travels]

theorem DoorReport.fullyOpen_iff : rep.fullyOpen = true ↔ rep.full := by
  simp [DoorReport.fullyOpen, DoorReport.full]

theorem DoorReport.stalled_iff : rep.stalled = true ↔ rep.motion = .stalled := decide_eq_true_iff

end

/-! ### Operations on one door -/

section
variable (f : Face) (d : DoorIx) (p : Part)

@[simp] theorem issueStop_doors (e : DoorIx) : ((issueStop f e p).face f).doors = (p.face f).doors := by
  unfold issueStop
  split
  · rfl
  · rw [Part.modFace_self, placeStop_doors]

@[simp] theorem issueReverse_doors (e : DoorIx) : ((issueReverse f e p).face f).doors = (p.face f).doors := by
  unfold issueReverse
  rw [Part.modFace_self, placeMove_doors]

theorem issueStop_arb (e : DoorIx) : (issueStop f e p).arb = p.arb := by
  unfold issueStop
  split
  · rfl
  · exact p.modFace_arb ..

/-- A door's change leaves it as the change says. -/
theorem changeDoor_self (c : DoorCause) (g : Door → Door) :
    ((changeDoor f d c g p).face f).doors[d.val].stance = (g (p.face f).doors[d.val]).stance := by
  rw [changeDoor_stance, if_pos rfl]

/-- A door's change that takes it out of the start machinery. -/
theorem changeDoor_out (c : DoorCause) (g : Door → Door) : (leaveMachinery f d (changeDoor f d c g p)).outOfMachinery f d ∧
    ((leaveMachinery f d (changeDoor f d c g p)).face f).doors[d.val].stance = (g (p.face f).doors[d.val]).stance := by
  obtain ⟨out, stance⟩ := leaveMachinery_out f d (changeDoor f d c g p)
  exact ⟨out, stance.trans (changeDoor_self f d p c g)⟩

theorem onDoor_self (g : Door → Door) : ((onDoor f d g p).face f).doors[d.val] = g (p.face f).doors[d.val] := by
  unfold onDoor
  rw [Part.modFace_self, FaceRec.modDoor_doors_self]

section
variable {q : Part} {w : Door} (h : q.outOfMachinery f d ∧ (q.face f).doors[d.val].stance = w)
include h

theorem issueStop_out : (issueStop f d q).outOfMachinery f d ∧ ((issueStop f d q).face f).doors[d.val].stance = w :=
  ⟨outOfMachinery_of_arb (issueStop_arb ..) h.1,
    (congrArg (fun ds : Vector Door 24 => ds[d.val].stance) (issueStop_doors f q d)).trans h.2⟩

theorem issueReverse_out : (issueReverse f d q).outOfMachinery f d ∧ ((issueReverse f d q).face f).doors[d.val].stance = w :=
  ⟨outOfMachinery_of_arb (Part.modFace_arb ..) h.1,
    (congrArg (fun ds : Vector Door 24 => ds[d.val].stance) (issueReverse_doors f q d)).trans h.2⟩

end

/-- A door's record as it enters DISCREPANT (R94). -/
def Door.discrepant (why : DiscCause) (x : Door) : Door :=
  { x.stopTimers.enter .discrepant with cause := some why, order := none, forced := false }

/-- A door's record as it is released (R79). -/
def Door.released (x : Door) : Door :=
  { x.stopTimers.enter .released with latch := true, order := none, partialOpen := false, forced := false }

/-- A door's record as its key isolation begins (R81). -/
def Door.keyBegun (x : Door) : Door := { x.stopTimers with order := none, reopenCause := none, forced := false }

/-- A door's record as its obstruction turns it back (R91, R92). -/
def Door.turnedBack (timeout : Nat) (x : Door) : Door :=
  { x.stopTimers.enter .reopening with
      attempts := x.attempts + 1, reopenCause := some .obstruction, order := none, motionT := some timeout }

/-- A door's record as it enters OBSTRUCTED (R91). -/
def Door.obstructed (nObst : Nat) (x : Door) : Door :=
  { x.stopTimers.enter .obstructed with order := none, attempts := nObst }

theorem enterDiscrepant_out (why : DiscCause) (trig : DoorCause) (stop : Bool) :
    (enterDiscrepant f d why trig stop p).outOfMachinery f d ∧
      ((enterDiscrepant f d why trig stop p).face f).doors[d.val].stance = ((p.face f).doors[d.val].discrepant why).stance := by
  have changed := changeDoor_out f d p trig (Door.discrepant why)
  unfold enterDiscrepant; simp only
  split
  · exact issueStop_out f d changed
  · exact changed

theorem releaseDoor_out (trig : DoorCause) : (releaseDoor f d trig p).outOfMachinery f d ∧
    ((releaseDoor f d trig p).face f).doors[d.val].stance = (p.face f).doors[d.val].released.stance := by
  have changed (q : Part) (face : q.face f = p.face f) :
      (leaveMachinery f d (changeDoor f d trig Door.released q)).outOfMachinery f d ∧
        ((leaveMachinery f d (changeDoor f d trig Door.released q)).face f).doors[d.val].stance =
          (p.face f).doors[d.val].released.stance := by
    rw [← face]
    exact changeDoor_out f d q trig Door.released
  have reported := changed (if (p.face f).doors[d].latch then p else queueReport (.release f (releaseSet (p.face f) d)) p)
    (by split <;> simp)
  unfold releaseDoor; simp only
  split
  · exact issueStop_out f d reported
  · exact reported

theorem beginKey_out : (beginKey f d p).outOfMachinery f d ∧
    ((beginKey f d p).face f).doors[d.val].stance = (p.face f).doors[d.val].keyBegun.stance := by
  obtain ⟨out, stance⟩ := leaveMachinery_out f d (leaveOperation f d .excluded p)
  have doors : ((leaveOperation f d .excluded p).face f).doors = (p.face f).doors := by
    unfold leaveOperation
    rw [Part.modFace_self]
    rfl
  rw [doors] at stance
  unfold beginKey
  refine ⟨outOfMachinery_of_arb (Part.modFace_arb ..) out, ?_⟩
  rw [onDoor_self]
  exact (congrArg (fun x : Door => x.keyBegun.stance) stance :)

/-- An obstruction: the door is turned back until its attempts are spent (R91). -/
theorem obstruction_out : (obstruction f d p).outOfMachinery f d ∧ ∃ timeout,
    ((obstruction f d p).face f).doors[d.val].stance =
      (if (p.face f).doors[d.val].attempts < (p.face f).params.nObst then (p.face f).doors[d.val].turnedBack timeout
        else (p.face f).doors[d.val].obstructed (p.face f).params.nObst).stance := by
  unfold obstruction; simp only [Fin.getElem_fin]
  split
  · next more =>
    generalize counted : onDoor f d (fun x => { x with attempts := x.attempts + 1 }) p = q
    have door : (q.face f).doors[d.val] = { (p.face f).doors[d.val] with attempts := (p.face f).doors[d.val].attempts + 1 } := by
      rw [← counted, onDoor_self]
    have turned := changeDoor_out f d q .report fun x => { x.stopTimers.enter .reopening with
      reopenCause := some .obstruction, order := none, motionT := some (reverseCodes (q.face f) d).timeout }
    rw [door] at turned
    obtain ⟨out, stance⟩ := issueReverse_out f d turned
    exact ⟨out, _, stance⟩
  · next spent =>
    obtain ⟨out, stance⟩ := issueReverse_out f d (changeDoor_out f d p .report (Door.obstructed (p.face f).params.nObst))
    exact ⟨out, 0, stance⟩

end

end Sys2Proof.Machine

/-! A report judged: the classification (R77), the rule of a door's state (R80, R87, R88, R90 to R92), and the lines of R78. -/

namespace Sys2Proof.Machine

section
variable (f : Face) (d : DoorIx) (p : Part)

@[simp] theorem releaseDoor_courses (trig : DoorCause) : (releaseDoor f d trig p).courses = p.courses := by
  simp [releaseDoor, Part.ite_courses]

@[simp] theorem beginKey_courses : (beginKey f d p).courses = p.courses := by simp [beginKey, leaveOperation]

@[simp] theorem obstruction_courses : (obstruction f d p).courses = p.courses := by
  simp [obstruction, issueReverse, Part.ite_courses]

end

/-! ### What every judgement leaves -/

/-- The report of a door and its key isolation. -/
def Door.shown (x : Door) : Option DoorReport × Bool := (x.report, x.keyIso)

/-- A part after a judgement of a door: its report and its key as they stood, the start machinery as it stood or without the
door, and the courses of the faces kept. -/
structure Part.Judges (f : Face) (d : DoorIx) (p q : Part) : Prop where
  shown : (q.face f).doors[d.val].shown = (p.face f).doors[d.val].shown
  machinery : q.arb = p.arb ∨ q.outOfMachinery f d
  courses : q.courses = p.courses

section
variable {f : Face} {d : DoorIx} {p q t : Part}

theorem Part.Judges.rfl' : p.Judges f d p := ⟨rfl, .inl rfl, rfl⟩

theorem Part.Judges.trans (h : p.Judges f d q) (k : q.Judges f d t) : p.Judges f d t where
  shown := k.shown.trans h.shown
  machinery := k.machinery.elim (fun same => h.machinery.imp same.trans (outOfMachinery_of_arb same)) .inr
  courses := k.courses.trans h.courses

theorem Part.Judges.of_out {w : Door} (h : q.outOfMachinery f d ∧ (q.face f).doors[d.val].stance = w.stance)
    (shown : w.shown = (p.face f).doors[d.val].shown) (courses : q.courses = p.courses) : p.Judges f d q :=
  ⟨((congrArg Door.shown h.2 :) : (q.face f).doors[d.val].shown = w.shown).trans shown, .inr h.1, courses⟩

theorem changeDoor_judges (c : DoorCause) {g : Door → Door} (h : ∀ x, (g x).shown = x.shown) :
    p.Judges f d (changeDoor f d c g p) :=
  ⟨((congrArg Door.shown (changeDoor_self f d p c g) :) : _ = (g (p.face f).doors[d.val]).shown).trans (h _),
    .inl (changeDoor_arb ..), changeDoor_courses ..⟩

theorem enterDiscrepant_judges (why : DiscCause) (trig : DoorCause) (stop : Bool) :
    p.Judges f d (enterDiscrepant f d why trig stop p) :=
  .of_out (enterDiscrepant_out f d p why trig stop) rfl (enterDiscrepant_courses ..)

theorem releaseDoor_judges (trig : DoorCause) : p.Judges f d (releaseDoor f d trig p) :=
  .of_out (releaseDoor_out f d p trig) rfl (releaseDoor_courses ..)

theorem beginKey_judges : p.Judges f d (beginKey f d p) := .of_out (beginKey_out f d p) rfl (beginKey_courses ..)

theorem obstruction_judges : p.Judges f d (obstruction f d p) := by
  obtain ⟨out, timeout, stance⟩ := obstruction_out f d p
  exact .of_out ⟨out, stance⟩ (by split <;> rfl) (obstruction_courses ..)

theorem Door.keyFollow_shown (rep : DoorReport) (x : Door) : (x.keyFollow rep).shown = x.shown := by
  unfold Door.keyFollow
  repeat' split
  all_goals rfl

theorem Part.Judges.ite {c : Prop} [Decidable c] (h : p.Judges f d q) (k : p.Judges f d t) :
    p.Judges f d (if c then q else t) := by
  split
  · exact h
  · exact k

theorem changeDoor_follows (rep : DoorReport) : p.Judges f d (changeDoor f d .report (Door.keyFollow rep) p) :=
  changeDoor_judges _ (Door.keyFollow_shown rep)

theorem classify_judges (rep : DoorReport) : p.Judges f d (classify f d rep p) :=
  .ite (releaseDoor_judges _) (.ite (enterDiscrepant_judges _ _ _) (.ite (changeDoor_follows rep)
    (.ite (changeDoor_judges _ fun _ => rfl) (enterDiscrepant_judges _ _ _))))

theorem uncommanded_judges (rep : DoorReport) : p.Judges f d (uncommanded f d rep p) :=
  .ite .rfl' (enterDiscrepant_judges _ _ _)

theorem opensTo_judges (b : Bool) : p.Judges f d (opensTo f d b p) := changeDoor_judges _ fun _ => rfl

theorem judgeUnlocking_judges (rep : DoorReport) : p.Judges f d (judgeUnlocking f d rep p) := by
  have unlocked : p.Judges f d (if rep.locked then p else onDoor f d (fun x => { x with unlockT := none }) p) :=
    .ite .rfl' ⟨by rw [onDoor_self]; rfl, .inl (Part.modFace_arb ..), onDoor_courses ..⟩
  exact .ite (unlocked.trans (changeDoor_judges _ fun _ => rfl)) (.ite (unlocked.trans (opensTo_judges _))
    (.ite (unlocked.trans (opensTo_judges _)) (.ite (unlocked.trans (uncommanded_judges rep)) unlocked)))

theorem judgeOpening_judges (rep : DoorReport) : p.Judges f d (judgeOpening f d rep p) :=
  .ite (opensTo_judges _) (.ite (opensTo_judges _) (.ite (uncommanded_judges rep) .rfl'))

theorem judgeClosing_judges (rep : DoorReport) : p.Judges f d (judgeClosing f d rep p) :=
  .ite (changeDoor_judges _ fun _ => rfl) (.ite (changeDoor_judges _ fun _ => rfl)
    (.ite obstruction_judges (.ite (uncommanded_judges rep) .rfl')))

theorem judgeProving_judges (rep : DoorReport) : p.Judges f d (judgeProving f d rep p) :=
  .ite (changeDoor_judges _ fun _ => rfl) (.ite (uncommanded_judges rep) .rfl')

theorem judgeReopening_judges (rep : DoorReport) : p.Judges f d (judgeReopening f d rep p) :=
  .ite (.ite .rfl' (.ite (changeDoor_judges _ fun _ => rfl) (opensTo_judges _))) (.ite (uncommanded_judges rep) .rfl')

theorem judgeState_judges (rep : DoorReport) : p.Judges f d (judgeState f d rep p) := by
  have outside (c : Prop) [Decidable c] : p.Judges f d (if c then uncommanded f d rep p else p) :=
    .ite (uncommanded_judges rep) .rfl'
  have inside (c : Prop) [Decidable c] : p.Judges f d (if c then p else uncommanded f d rep p) :=
    .ite .rfl' (uncommanded_judges rep)
  unfold judgeState; simp only
  split
  · exact inside _
  · exact .ite (outside _) (inside _)
  · exact outside _
  · exact outside _
  · exact outside _
  · exact outside _
  · exact outside _
  · exact judgeUnlocking_judges rep
  · exact judgeOpening_judges rep
  · exact judgeClosing_judges rep
  · exact judgeProving_judges rep
  · exact judgeReopening_judges rep
  all_goals exact .rfl'

theorem judgeLines_judges (oldKey : Bool) (rep : DoorReport) : p.Judges f d (judgeLines f d oldKey rep p) := by
  have follows : p.Judges f d ((if oldKey then p else beginKey f d p) |> changeDoor f d .report (Door.keyFollow rep)) :=
    (Part.Judges.ite .rfl' beginKey_judges).trans (changeDoor_follows rep)
  exact .ite (releaseDoor_judges _) (.ite .rfl' (.ite (enterDiscrepant_judges _ _ _)
    (.ite (.ite (changeDoor_judges _ fun _ => rfl) (.ite .rfl' (enterDiscrepant_judges _ _ _)))
      (.ite .rfl' (.ite follows (.ite (enterDiscrepant_judges _ _ _) (judgeState_judges rep)))))))

end

/-! ### The key-follow table and the classification (R77, R81) -/

/-- A door that follows its key (R81). -/
theorem Door.keyFollow_follows (rep : DoorReport) (x : Door) : FollowsKey rep (x.keyFollow rep) := by
  unfold Door.keyFollow
  have shut := rep.shut_iff
  by_cases rests : rep.rests
  · rw [if_pos (shut.mpr rests)]
    exact ⟨fun _ => rfl, fun m => absurd (rests.2.2.symm.trans m) nofun, fun m => absurd (rests.2.2.symm.trans m) nofun,
      fun n => absurd rests n⟩
  · rw [if_neg fun s => rests (shut.mp s)]
    by_cases opening : rep.motion = .opening
    · rw [if_pos opening]
      exact ⟨fun r => absurd r rests, fun _ => rfl, fun m => absurd (opening.symm.trans m) nofun,
        fun _ n => absurd (Or.inl opening) n⟩
    · rw [if_neg opening]
      by_cases closing : rep.motion = .closing
      · rw [if_pos closing]
        exact ⟨fun r => absurd r rests, fun m => absurd m opening, fun _ => rfl, fun _ n => absurd (Or.inr closing) n⟩
      · rw [if_neg closing]
        exact ⟨fun r => absurd r rests, fun m => absurd m opening, fun m => absurd m closing,
          fun _ _ => ⟨rfl, decide_eq_true_iff⟩⟩

theorem followsKey_of_stance {rep : DoorReport} {y w : Door} (h : y.stance = w.stance) (k : FollowsKey rep w) :
    FollowsKey rep y := by
  have state : y.state = w.state := (congrArg Door.state h :)
  have part : y.partialOpen = w.partialOpen := (congrArg Door.partialOpen h :)
  obtain ⟨shut, opening, closing, other⟩ := k
  rw [← state] at shut opening closing
  rw [← state, ← part] at other
  exact ⟨shut, opening, closing, other⟩

theorem Door.keyFollow_stance (rep : DoorReport) {x y : Door} (h : x.stance = y.stance) :
    (x.keyFollow rep).stance = (y.keyFollow rep).stance := by
  unfold Door.keyFollow
  split
  · exact (congrArg (fun z : Door => z.closeLocked.stance) h :)
  · split
    · exact (congrArg (fun z : Door => (z.enter .opening).stance) h :)
    · split
      · exact (congrArg (fun z : Door => (z.enter .closing).stance) h :)
      · exact (congrArg (fun z : Door => ({ z.enter .opened with partialOpen := decide (rep.pos < 980) } : Door).stance) h :)

/-- What the key-follow table leaves of a door whose key isolation has begun (R81). -/
theorem Door.keyFollow_begun (rep : DoorReport) (x : Door) : (x.keyBegun.keyFollow rep).order = none ∧
    (x.keyBegun.keyFollow rep).forced = false ∧ (x.keyBegun.keyFollow rep).motionT = none := by
  unfold Door.keyFollow
  repeat' split
  all_goals exact ⟨rfl, rfl, rfl⟩

section
variable {f : Face} {d : DoorIx} {p : Part} {rep : DoorReport}

/-- The classification of a report, line by line (R77). -/
theorem classify_classified :
    Classified (p.face f).doors[d.val] rep ((classify f d rep p).face f).doors[d.val] := by
  have line (latch : (p.face f).doors[d.val].latch = false) (pulled : rep.pulled = false) : classify f d rep p =
      if rep.faulty then enterDiscrepant f d .unitFault .report false p
      else if rep.keyOut then changeDoor f d .report (Door.keyFollow rep) p
      else if rep.shut then changeDoor f d .report Door.closeLocked p
      else enterDiscrepant f d .returnedOpen .report false p :=
    if_neg (by rw [Fin.getElem_fin, latch, pulled]; nofun)
  have faultless (fault : rep.fault = .none) : ¬ rep.faulty = true := fun c => rep.faulty_iff.mp c fault
  have inside (key : rep.key = .auto) : ¬ rep.keyOut = true := fun c => rep.keyOut_iff.mp c key
  refine ⟨fun out => ?_, fun latch pulled fault => ?_, fun latch pulled fault key => ?_, fun latch pulled fault key rests => ?_,
    fun latch pulled fault key stands => ?_⟩
  · rw [classify, if_pos (by simpa using out)]
    have stance := (releaseDoor_out f d p .report).2
    exact ⟨(congrArg Door.state stance :), (congrArg Door.latch stance :)⟩
  · rw [line latch pulled, if_pos (rep.faulty_iff.mpr fault)]
    have stance := (enterDiscrepant_out f d p .unitFault .report false).2
    exact ⟨(congrArg Door.state stance :), (congrArg Door.cause stance :)⟩
  · rw [line latch pulled, if_neg (faultless fault), if_pos (rep.keyOut_iff.mpr key)]
    exact followsKey_of_stance (changeDoor_self f d p .report (Door.keyFollow rep)) (Door.keyFollow_follows rep _)
  · rw [line latch pulled, if_neg (faultless fault), if_neg (inside key), if_pos (rep.shut_iff.mpr rests)]
    exact (congrArg Door.state (changeDoor_self f d p .report Door.closeLocked) :)
  · rw [line latch pulled, if_neg (faultless fault), if_neg (inside key), if_neg fun s => stands (rep.shut_iff.mp s)]
    have stance := (enterDiscrepant_out f d p .returnedOpen .report false).2
    exact ⟨(congrArg Door.state stance :), (congrArg Door.cause stance :)⟩

end

end Sys2Proof.Machine

/-! The rule of a door's state, and the lines of R78 (R78, R80, R87, R88, R90 to R92). -/

namespace Sys2Proof.Machine

/-! ### Inside and outside the expectation (R78, R80) -/

theorem keeps_of_stance {x y : Door} (h : y.stance = x.stance) : x.Keeps y :=
  ⟨(congrArg Door.state h :), (congrArg Door.order h :), (congrArg Door.cause h :), (congrArg Door.partialOpen h :),
    (congrArg Door.attempts h :)⟩

section
variable {f : Face} {d : DoorIx} {p : Part} {rep : DoorReport} {x : Door}
  (same : (p.face f).doors[d.val].stance = x.stance)
include same

theorem uncommanded_unexpected : Unexpected x rep ((uncommanded f d rep p).face f).doors[d.val] := by
  refine ⟨fun waiting => ?_, fun not => ?_⟩
  · rw [uncommanded, if_pos waiting]
    exact keeps_of_stance same
  · rw [uncommanded, if_neg not]
    have stance := (enterDiscrepant_out f d p .uncommanded .report false).2
    exact ⟨(congrArg Door.state stance :), (congrArg Door.cause stance :), (congrArg Door.order stance :)⟩

variable {ok c : Prop} [Decidable c]

theorem expected_outside (h : c ↔ ¬ ok) :
    Expected ok x rep ((if c then uncommanded f d rep p else p).face f).doors[d.val] := by
  refine ⟨fun inside => ?_, fun outside => ?_⟩
  · rw [if_neg fun out => h.mp out inside]
    exact keeps_of_stance same
  · rw [if_pos (h.mpr outside)]
    exact uncommanded_unexpected same

theorem expected_inside (h : c ↔ ok) :
    Expected ok x rep ((if c then p else uncommanded f d rep p).face f).doors[d.val] := by
  refine ⟨fun inside => ?_, fun outside => ?_⟩
  · rw [if_pos (h.mpr inside)]
    exact keeps_of_stance same
  · rw [if_neg fun inside => outside (h.mp inside)]
    exact uncommanded_unexpected same

end

/-! ### The rules of the moving states (R87, R88, R90 to R92) -/

/-- The door stands OPEN, completely or in part, with no order and no motion timer (R87, R88). -/
def Door.Stands (b : Bool) (y : Door) : Prop :=
  y.state = .opened ∧ y.partialOpen = b ∧ y.order = none ∧ y.motionT = none

theorem opensTo_stands (f : Face) (d : DoorIx) (b : Bool) (p : Part) :
    ((opensTo f d b p).face f).doors[d.val].Stands b := by
  have stance := changeDoor_self f d p .report (Door.standOpen b)
  exact ⟨(congrArg Door.state stance :), (congrArg Door.partialOpen stance :), (congrArg Door.order stance :),
    (congrArg Door.motionT stance :)⟩

theorem closeLocked_shut (f : Face) (d : DoorIx) (p : Part) :
    ((changeDoor f d .report Door.closeLocked p).face f).doors[d.val].state = .closedLocked ∧
      ((changeDoor f d .report Door.closeLocked p).face f).doors[d.val].order = none ∧
      ((changeDoor f d .report Door.closeLocked p).face f).doors[d.val].cause = none := by
  have stance := changeDoor_self f d p .report Door.closeLocked
  exact ⟨(congrArg Door.state stance :), (congrArg Door.order stance :), (congrArg Door.cause stance :)⟩

section
variable {f : Face} {d : DoorIx} {p : Part} {rep : DoorReport}

theorem DoorReport.not_full_of_motion (h : rep.motion ≠ .idle) : ¬ rep.fullyOpen = true :=
  fun c => h (rep.fullyOpen_iff.mp c).1

theorem DoorReport.not_stalled_of_motion (h : rep.motion ≠ .stalled) : ¬ rep.stalled = true :=
  fun c => h (rep.stalled_iff.mp c)

/-- UNLOCKING (R87, R88). -/
theorem judgeUnlocking_ruled :
    let x := (p.face f).doors[d.val]
    let y := ((judgeUnlocking f d rep p).face f).doors[d.val]
    (rep.locked = false → rep.motion = .opening → y.state = .opening) ∧
      (rep.locked = false → rep.full → y.Stands false) ∧ (rep.locked = false → rep.motion = .stalled → y.Stands true) ∧
      (rep.motion = .closing → Unexpected x rep y) ∧
      (rep.motion ≠ .closing → rep.locked = true ∨ (rep.motion = .idle ∧ rep.pos < 980) → x.Keeps y) := by
  generalize unlocked : (if rep.locked then p else onDoor f d (fun x => { x with unlockT := none }) p) = q
  have same : (q.face f).doors[d.val].stance = (p.face f).doors[d.val].stance := by
    rw [← unlocked]
    split
    · rfl
    · rw [onDoor_self]
      rfl
  have judged : judgeUnlocking f d rep p =
      if !rep.locked && decide (rep.motion = .opening) then changeDoor f d .report (Door.enter .opening) q
      else if !rep.locked && rep.fullyOpen then opensTo f d false q
      else if !rep.locked && rep.stalled then opensTo f d true q
      else if rep.motion = .closing then uncommanded f d rep q
      else q := by rw [← unlocked]; rfl
  intro x y
  refine ⟨fun locked opening => ?_, fun locked full => ?_, fun locked stalled => ?_, fun closing => ?_, fun not rests => ?_⟩
  · simp only [y, judged, locked, opening]
    exact (congrArg Door.state (changeDoor_self f d q .report (Door.enter .opening)) :)
  · have idle := full.1
    simp only [y, judged, locked, idle, rep.fullyOpen_iff.mpr full]
    exact opensTo_stands f d false q
  · have still : rep.fullyOpen = false := Bool.eq_false_iff.mpr (DoorReport.not_full_of_motion (by rw [stalled]; nofun))
    simp only [y, judged, locked, still, stalled, rep.stalled_iff.mpr stalled]
    exact opensTo_stands f d true q
  · have opens : ¬ (!rep.locked && decide (rep.motion = .opening)) = true := by simp [closing]
    have full : ¬ (!rep.locked && rep.fullyOpen) = true := by
      simp [DoorReport.not_full_of_motion (rep := rep) (by rw [closing]; nofun)]
    have stalled : ¬ (!rep.locked && rep.stalled) = true := by
      simp [DoorReport.not_stalled_of_motion (rep := rep) (by rw [closing]; nofun)]
    simp only [y, judged, if_neg opens, if_neg full, if_neg stalled, if_pos closing]
    exact uncommanded_unexpected same
  · refine keeps_of_stance ?_
    have none : ¬ (!rep.locked && decide (rep.motion = .opening)) = true ∧ ¬ (!rep.locked && rep.fullyOpen) = true ∧
        ¬ (!rep.locked && rep.stalled) = true := by
      rcases rests with locked | ⟨idle, short⟩
      · simp [locked]
      · have unshut : ¬ rep.fullyOpen = true := fun c => absurd (rep.fullyOpen_iff.mp c).2 (by omega)
        have stalled := DoorReport.not_stalled_of_motion (rep := rep) (by rw [idle]; nofun)
        simp [idle, unshut, stalled]
    simp only [y, judged, if_neg none.1, if_neg none.2.1, if_neg none.2.2, if_neg not]
    exact same

/-- OPENING (R87, R88). -/
theorem judgeOpening_ruled :
    let x := (p.face f).doors[d.val]
    let y := ((judgeOpening f d rep p).face f).doors[d.val]
    (rep.full → y.Stands false) ∧ (rep.motion = .stalled → y.Stands true) ∧
      (¬ rep.full → rep.motion ≠ .stalled → Expected (rep.locked = false ∧ rep.motion ≠ .closing) x rep y) := by
  intro x y
  refine ⟨fun full => ?_, fun stalled => ?_, fun short moves => ?_⟩
  · simp only [y, judgeOpening, if_pos (rep.fullyOpen_iff.mpr full)]
    exact opensTo_stands f d false p
  · simp only [y, judgeOpening, if_neg (DoorReport.not_full_of_motion (rep := rep) (by rw [stalled]; nofun)),
      if_pos (rep.stalled_iff.mpr stalled)]
    exact opensTo_stands f d true p
  · simp only [y, judgeOpening, if_neg fun c => short (rep.fullyOpen_iff.mp c),
      if_neg (DoorReport.not_stalled_of_motion moves)]
    exact expected_outside rfl (by rw [not_and_or, not_not, Bool.not_eq_false])

/-- CLOSING (R90, R91). -/
theorem judgeClosing_ruled :
    let params := (p.face f).params
    let x := (p.face f).doors[d.val]
    let y := ((judgeClosing f d rep p).face f).doors[d.val]
    (rep.closed = true → rep.locked = true → y.state = .closedLocked ∧ y.order = none) ∧
      (rep.closed = true → rep.locked = false →
        y.state = .proving ∧ y.motionT = none ∧ y.lockProofT = some params.tLock) ∧
      (rep.closed = false → rep.motion = .stalled →
        (x.attempts < params.nObst → y.state = .reopening ∧ y.reopenCause = some .obstruction ∧
          y.attempts = x.attempts + 1 ∧ y.forced = x.forced) ∧
        (params.nObst ≤ x.attempts → y.state = .obstructed ∧ y.attempts = params.nObst)) ∧
      (rep.closed = false → rep.motion ≠ .stalled → Expected (rep.motion ≠ .opening) x rep y) := by
  intro params x y
  refine ⟨fun closed locked => ?_, fun closed locked => ?_, fun ajar stalled => ?_, fun ajar moves => ?_⟩
  · simp only [y, judgeClosing, closed, locked]
    obtain ⟨state, order, -⟩ := closeLocked_shut f d p
    exact ⟨state, order⟩
  · simp only [y, judgeClosing, closed, locked]
    have stance := changeDoor_self f d p .report fun x =>
      { x.enter .proving with motionT := none, lockProofT := some (p.face f).params.tLock }
    exact ⟨(congrArg Door.state stance :), (congrArg Door.motionT stance :), (congrArg Door.lockProofT stance :)⟩
  · simp only [y, judgeClosing, ajar, rep.stalled_iff.mpr stalled]
    obtain ⟨-, timeout, stance⟩ := obstruction_out f d p
    refine ⟨fun more => ?_, fun spent => ?_⟩
    · rw [if_pos more] at stance
      exact ⟨(congrArg Door.state stance :), (congrArg Door.reopenCause stance :), (congrArg Door.attempts stance :),
        (congrArg Door.forced stance :)⟩
    · rw [if_neg (Nat.not_lt.mpr spent)] at stance
      exact ⟨(congrArg Door.state stance :), (congrArg Door.attempts stance :)⟩
  · simp only [y, judgeClosing, ajar, if_neg (DoorReport.not_stalled_of_motion moves)]
    exact expected_outside rfl not_not.symm

/-- PROVING (R90). -/
theorem judgeProving_ruled :
    let x := (p.face f).doors[d.val]
    let y := ((judgeProving f d rep p).face f).doors[d.val]
    (rep.closed = true → rep.locked = true → y.state = .closedLocked ∧ y.order = none) ∧
      (rep.closed = false ∨ rep.locked = false → Expected (rep.closed = true) x rep y) := by
  intro x y
  refine ⟨fun closed locked => ?_, fun unproved => ?_⟩
  · simp only [y, judgeProving, closed, locked]
    obtain ⟨state, order, -⟩ := closeLocked_shut f d p
    exact ⟨state, order⟩
  · have not : ¬ (rep.closed && rep.locked) = true := by
      rw [Bool.and_eq_true]
      rintro ⟨closed, locked⟩
      rcases unproved with h | h
      · exact absurd (h.symm.trans closed) nofun
      · exact absurd (h.symm.trans locked) nofun
    simp only [y, judgeProving, if_neg not]
    exact expected_outside rfl (by simp)

/-- REOPENING (R92). -/
theorem judgeReopening_ruled :
    let params := (p.face f).params
    let x := (p.face f).doors[d.val]
    let y := ((judgeReopening f d rep p).face f).doors[d.val]
    (rep.full ∨ rep.motion = .stalled →
        (x.pauseT ≠ none → x.Keeps y) ∧
        (x.pauseT = none → x.reopenCause = some .obstruction → x.state = .reopening → y.state = .reopening ∧ y.motionT = none ∧
          y.pauseT = some params.tObst ∧ (y.partialOpen = true ↔ rep.motion = .stalled)) ∧
        (x.pauseT = none → x.reopenCause ≠ some .obstruction →
          y.state = .opened ∧ (y.partialOpen = true ↔ rep.motion = .stalled))) ∧
      (¬ rep.full → rep.motion ≠ .stalled → Expected (rep.locked = false ∧ rep.motion ≠ .closing) x rep y) := by
  intro params x y
  refine ⟨fun ends => ?_, fun short moves => ?_⟩
  · have ended : (rep.fullyOpen || rep.stalled) = true := by
      rw [Bool.or_eq_true, rep.fullyOpen_iff, rep.stalled_iff]
      exact ends
    refine ⟨fun pauses => ?_, fun runs obstructed state => ?_, fun runs other => ?_⟩
    · have stays : judgeReopening f d rep p = p := (if_pos ended).trans (if_pos (Option.isSome_iff_ne_none.mpr pauses))
      simp only [y, stays]
      exact keeps_of_stance rfl
    · have paused : judgeReopening f d rep p = changeDoor f d .report (fun x =>
          { x with motionT := none, partialOpen := rep.stalled, pauseT := some (p.face f).params.tObst }) p :=
        (if_pos ended).trans ((if_neg (by rw [Option.isSome_iff_ne_none]; exact fun c => c runs)).trans (if_pos obstructed))
      have stance := changeDoor_self f d p .report fun x =>
        { x with motionT := none, partialOpen := rep.stalled, pauseT := some (p.face f).params.tObst }
      have part : y.partialOpen = rep.stalled := by simp only [y, paused]; exact (congrArg Door.partialOpen stance :)
      rw [part, rep.stalled_iff]
      simp only [y, paused]
      exact ⟨((congrArg Door.state stance :) : _ = x.state).trans state, (congrArg Door.motionT stance :),
        (congrArg Door.pauseT stance :), trivial⟩
    · have opened : judgeReopening f d rep p = opensTo f d rep.stalled p :=
        (if_pos ended).trans ((if_neg (by rw [Option.isSome_iff_ne_none]; exact fun c => c runs)).trans (if_neg other))
      obtain ⟨state, part, -⟩ := opensTo_stands f d rep.stalled p
      simp only [y, opened]
      exact ⟨state, by rw [part, rep.stalled_iff]⟩
  · have not : ¬ (rep.fullyOpen || rep.stalled) = true := by
      rw [Bool.or_eq_true, rep.fullyOpen_iff, rep.stalled_iff]
      exact fun c => c.elim short moves
    simp only [y, judgeReopening, if_neg not]
    exact expected_outside rfl (by rw [not_and_or, not_not, Bool.not_eq_false, or_comm])

theorem Door.fromOpen_eq (x : Door) : x.fromOpen = x.order.any fun o => o.fromOpen := by
  unfold Door.fromOpen
  cases x.order <;> rfl

/-- The rule of the door's state (step 8 of R78). -/
theorem judgeState_ruled : (p.face f).doors[d.val].Ruled (p.face f).params rep
    ((judgeState f d rep p).face f).doors[d.val] := by
  have resting : (rep.locked || rep.travelling) = true ↔ ¬ (rep.locked = false ∧ ¬ rep.travels) := by
    rw [Bool.or_eq_true, rep.travelling_iff, not_and_or, not_not, Bool.not_eq_false]
  have queued : (p.face f).doors[d.val].fromOpen = _ := Door.fromOpen_eq _
  cases state : (p.face f).doors[d.val].state <;>
    simp only [Door.Ruled, judgeState, Fin.getElem_fin, state]
  case closedLocked => exact expected_inside rfl rep.shut_iff
  case openQueued =>
    rw [← queued]
    split
    · exact expected_outside rfl resting
    · exact expected_inside rfl rep.shut_iff
  case opened => exact expected_outside rfl resting
  case preClose => exact expected_outside rfl (by rw [rep.travelling_iff, not_not])
  case held => exact expected_outside rfl (by rw [rep.travelling_iff, not_not])
  case closeQueued => exact expected_outside rfl (by rw [rep.travelling_iff, not_not])
  case obstructed =>
    exact expected_outside rfl (by rw [Bool.or_eq_true, decide_eq_true_iff, not_and_or, not_not, Bool.not_eq_false])
  case unlocking => exact judgeUnlocking_ruled
  case opening => exact judgeOpening_ruled
  case closing => exact judgeClosing_ruled
  case proving => exact judgeProving_ruled
  case reopening =>
    obtain ⟨ends, goes⟩ := judgeReopening_ruled (f := f) (d := d) (p := p) (rep := rep)
    refine ⟨fun ended => ?_, goes⟩
    obtain ⟨pauses, obstructed, other⟩ := ends ended
    exact ⟨pauses, fun runs cause => obstructed runs cause state, other⟩

end

/-! ### The lines of R78 -/

section
variable {f : Face} {d : DoorIx} {p : Part} {rep : DoorReport} {oldKey : Bool}
  (key : (p.face f).doors[d.val].keyIso = rep.keyOut)
include key

/-- The judgement of a report whose key has been taken, by the first line that holds (R78); the key isolation before the
report is `oldKey`. -/
theorem judgeLines_judged : Judged (p.face f).params { (p.face f).doors[d.val] with keyIso := oldKey } rep
    ((judgeLines f d oldKey rep p).face f).doors[d.val] := by
  have unpulled (pulled : rep.pulled = false) (here : (p.face f).doors[d.val].state ≠ .released) :
      judgeLines f d oldKey rep p =
        if rep.faulty ∧ (p.face f).doors[d.val].state ≠ .discrepant then enterDiscrepant f d .unitFault .report false p
        else if oldKey ∧ (p.face f).doors[d.val].keyIso = false then
          if rep.shut ∧ rep.faulty = false then changeDoor f d .report Door.closeLocked p
          else if (p.face f).doors[d.val].state = .discrepant then p
          else enterDiscrepant f d .returnedOpen .report false p
        else if (p.face f).doors[d.val].state = .discrepant then p
        else if (p.face f).doors[d.val].keyIso then
          (if oldKey then p else beginKey f d p) |> changeDoor f d .report (Door.keyFollow rep)
        else if rep.confirm = .failed then enterDiscrepant f d .noConfirm .report false p
        else judgeState f d rep p :=
    (if_neg fun c => by rw [pulled] at c; exact absurd c.1 nofun).trans (if_neg here)
  have keyOut : (p.face f).doors[d.val].keyIso = false ↔ rep.key = .auto := by
    rw [key, Bool.eq_false_iff, ne_eq, rep.keyOut_iff, not_not]
  refine ⟨fun pulled here => ?pulled, fun gone => ?released, fun pulled here apart fault => ?faulty,
    fun pulled here calm wasKey inside => ?returned, fun pulled gone keyed => ?discrepant,
    fun pulled here apart calm keyed => ?keyed, fun pulled here apart calm old inside failed => ?failed,
    fun pulled here apart calm old inside taken => ?ruled⟩
  case pulled =>
    rw [judgeLines, if_pos (by exact ⟨pulled, here⟩)]
    have stance := (releaseDoor_out f d p .report).2
    exact ⟨(congrArg Door.state stance :), (congrArg Door.latch stance :), (congrArg Door.order stance :),
      (congrArg Door.partialOpen stance :), (congrArg Door.forced stance :)⟩
  case released =>
    have stays : judgeLines f d oldKey rep p = p := (if_neg fun c => c.2 gone).trans (if_pos gone)
    rw [stays]
    exact ⟨rfl, rfl, rfl, rfl, rfl⟩
  case faulty =>
    rw [unpulled pulled here, if_pos ⟨rep.faulty_iff.mpr fault, apart⟩]
    have stance := (enterDiscrepant_out f d p .unitFault .report false).2
    exact ⟨(congrArg Door.state stance :), (congrArg Door.cause stance :), (congrArg Door.order stance :)⟩
  case returned =>
    have sound : ¬ (rep.faulty = true ∧ (p.face f).doors[d.val].state ≠ .discrepant) := fun c =>
      calm.elim (rep.faulty_iff.mp c.1) c.2
    rw [unpulled pulled here, if_neg sound, if_pos ⟨wasKey, keyOut.mpr inside⟩]
    refine ⟨fun rests fault => ?_, fun stands => ?_⟩
    · rw [if_pos ⟨rep.shut_iff.mpr rests, Bool.eq_false_iff.mpr fun c => rep.faulty_iff.mp c fault⟩]
      obtain ⟨state, -, cause⟩ := closeLocked_shut f d p
      exact ⟨state, cause⟩
    · have unshut : ¬ (rep.shut = true ∧ rep.faulty = false) := fun ⟨shut, fault⟩ =>
        stands.elim (fun n => n (rep.shut_iff.mp shut)) fun n => Bool.eq_false_iff.mp fault (rep.faulty_iff.mpr n)
      rw [if_neg unshut]
      by_cases apart : (p.face f).doors[d.val].state = .discrepant
      · rw [if_pos apart]
        exact ⟨apart, (if_pos apart).symm⟩
      · rw [if_neg apart]
        have stance := (enterDiscrepant_out f d p .returnedOpen .report false).2
        exact ⟨(congrArg Door.state stance :), (congrArg Door.cause stance :).trans (if_neg apart).symm⟩
  case discrepant =>
    have apart : (p.face f).doors[d.val].state = .discrepant := gone
    have was : oldKey = false ∨ rep.key ≠ .auto := keyed
    rw [unpulled pulled (by rw [apart]; nofun), if_neg fun c => c.2 apart,
      if_neg fun c => was.elim (fun n => Bool.false_ne_true (n.symm.trans c.1)) fun n => n (keyOut.mp c.2), if_pos apart]
    exact ⟨rfl, rfl, rfl, rfl, rfl⟩
  case keyed =>
    have out : (p.face f).doors[d.val].keyIso = true := by rw [key]; exact rep.keyOut_iff.mpr keyed
    rw [unpulled pulled here, if_neg fun c => rep.faulty_iff.mp c.1 calm, if_neg fun c => keyed (keyOut.mp c.2), if_neg apart,
      if_pos out]
    refine ⟨followsKey_of_stance (changeDoor_self f d _ .report (Door.keyFollow rep)) (Door.keyFollow_follows rep _), fun old => ?_⟩
    have begins : ¬ oldKey = true := fun c => absurd (old.symm.trans c) nofun
    rw [if_neg begins]
    have follows := (changeDoor_self f d (beginKey f d p) .report (Door.keyFollow rep)).trans
      (Door.keyFollow_stance rep (beginKey_out f d p).2)
    obtain ⟨order, forced, motion⟩ := Door.keyFollow_begun rep (p.face f).doors[d.val]
    exact ⟨(congrArg Door.order follows :).trans order, (congrArg Door.forced follows :).trans forced,
      (congrArg Door.motionT follows :).trans motion⟩
  case failed =>
    have unkeyed : ¬ (p.face f).doors[d.val].keyIso = true := by rw [keyOut.mpr inside]; nofun
    have old : ¬ oldKey = true := fun c => absurd (old.symm.trans c) nofun
    rw [unpulled pulled here, if_neg fun c => rep.faulty_iff.mp c.1 calm, if_neg fun c => old c.1, if_neg apart,
      if_neg unkeyed, if_pos failed]
    have stance := (enterDiscrepant_out f d p .noConfirm .report false).2
    exact ⟨(congrArg Door.state stance :), (congrArg Door.cause stance :), (congrArg Door.order stance :)⟩
  case ruled =>
    have unkeyed : ¬ (p.face f).doors[d.val].keyIso = true := by rw [keyOut.mpr inside]; nofun
    have old : ¬ oldKey = true := fun c => absurd (old.symm.trans c) nofun
    rw [unpulled pulled here, if_neg fun c => rep.faulty_iff.mp c.1 calm, if_neg fun c => old c.1, if_neg apart,
      if_neg unkeyed, if_neg taken]
    exact judgeState_ruled

end

end Sys2Proof.Machine

/-! An accepted report on its way through the blocks (R63, R64, R67, R77, R78, R85, R120, R129). -/

namespace Sys2Proof.Machine

/-! ### A report that has been taken -/

/-- A part that has taken a report of a door that stood as `x`: its report and its key, its state by the classification or by
the lines of R78, and its start phase (R77, R78, R85). -/
structure Part.Takes (f : Face) (d : DoorIx) (ps : FaceParams) (rep : DoorReport) (x : Door) (q : Part) : Prop where
  shown : (q.face f).doors[d.val].shown = (some rep, rep.keyOut)
  classified : x.state = .unknown ∨ x.state = .lost → Classified x rep (q.face f).doors[d.val]
  judged : x.state ≠ .unknown → x.state ≠ .lost → Judged ps x rep (q.face f).doors[d.val]
  started : travelled (q.face f).doors[d.val].state rep.pos = true → (⟨f, d⟩ : DoorRef) ∉ q.arb.starting

section
variable {f : Face} {d : DoorIx} {ps : FaceParams} {rep : DoorReport} {x x' : Door} {p q : Part}

theorem Part.Takes.before (h : p.Takes f d ps rep x) (same : x'.gist = x.gist) : p.Takes f d ps rep x' := by
  have state : x'.state = x.state := (congrArg Door.state same :)
  have latch : x'.latch = x.latch := (congrArg Door.latch same :)
  refine ⟨h.shown, fun unset => ?_, fun known here => ?_, h.started⟩
  · exact classified_of_latch latch rfl (h.classified (by rw [← state]; exact unset))
  · exact judged_of_gist same rfl (h.judged (by rw [← state]; exact known) (by rw [← state]; exact here))

theorem Part.Takes.after (h : p.Takes f d ps rep x) (door : (q.face f).doors[d.val].gist = (p.face f).doors[d.val].gist)
    (shown : (q.face f).doors[d.val].shown = (p.face f).doors[d.val].shown) (arb : q.arb = p.arb) : q.Takes f d ps rep x := by
  have state : (q.face f).doors[d.val].state = (p.face f).doors[d.val].state := (congrArg Door.state door :)
  refine ⟨shown.trans h.shown, fun unset => classified_of_latch rfl door (h.classified unset),
    fun known here => judged_of_gist rfl door (h.judged known here), ?_⟩
  rw [state, arb]
  exact h.started

/-- What keeps the doors' records keeps a report taken. -/
theorem Part.Takes.kept (h : p.Takes f d ps rep x) (k : Kept p q) : q.Takes f d ps rep x := by
  have stance := stance_of_kept k f d
  exact h.after (Door.gist_of_stance stance) (congrArg Door.shown stance :) (congrArg (fun w => w.2.2.2.1) k.2)

theorem Part.Takes.same (h : p.Takes f d ps rep x) (doors : (q.face f).doors = (p.face f).doors) (arb : q.arb = p.arb) :
    q.Takes f d ps rep x :=
  h.after (congrArg (fun ds : Vector Door 24 => ds[d.val].gist) doors)
    (congrArg (fun ds : Vector Door 24 => ds[d.val].shown) doors) arb

end

/-! ### The door table (R77, R78, R85) -/

section
variable {f : Face} {d : DoorIx} {p : Part} {rep : DoorReport}

/-- Nothing of an event takes a face into FIRE but the entry itself. -/
theorem unfired_stillInv (f : Face) : StillInv (fun _ => True) fun q => (q.face f).mode.mode ≠ .fire where
  report r q h := by rwa [queueReport_face]
  mod f' g q _ calm h := by
    rw [Part.modFace_face]
    split
    · next same =>
      subst same
      rcases (calm (q.face f)).2 with mode | away
      · rw [mode]; exact h
      · exact away
    · exact h

theorem storeReport_door : ((storeReport f d rep p).face f).doors[d.val].stance =
    ({ (p.face f).doors[d.val] with report := some rep, keyIso := rep.keyOut } : Door).stance := by
  unfold storeReport
  rw [changeDoor_self, onDoor_self]

theorem storeReport_arb : (storeReport f d rep p).arb = p.arb := (changeDoor_arb ..).trans (Part.modFace_arb ..)

theorem storeReport_courses : (storeReport f d rep p).courses = p.courses := by simp [storeReport]

theorem recomputeSecured_judges (c : SecuredCause) (b : Bool) : p.Judges f d (recomputeSecured f c b p) :=
  ⟨congrArg (fun ds : Vector Door 24 => ds[d.val].shown) (recomputeSecured_doors ..), .inl (recomputeSecured_arb ..),
    recomputeSecured_courses ..⟩

/-- The start phase of a door that is not both queued and starting, judged after its state is settled (R85). -/
theorem judgeStart_started (idle : p.unqueued f d ∨ (⟨f, d⟩ : DoorRef) ∉ p.arb.starting) :
    ((judgeStart f d rep p).face f).doors[d.val].stance = (p.face f).doors[d.val].stance ∧
      (travelled (p.face f).doors[d.val].state rep.pos = true → (⟨f, d⟩ : DoorRef) ∉ (judgeStart f d rep p).arb.starting) := by
  unfold judgeStart
  split
  · rcases idle with free | out
    · obtain ⟨left, stance⟩ := endStart_out free
      exact ⟨stance, fun _ => left.2⟩
    · have none : endStart f d p = p := if_neg (by simpa using out)
      rw [none]
      exact ⟨rfl, fun _ => out⟩
  · next short => exact ⟨rfl, fun far => absurd far short⟩

theorem judgeStart_courses : (judgeStart f d rep p).courses = p.courses := by simp [judgeStart, Part.ite_courses]

theorem fireDoorTest_nothing {x : Door} (away : (p.face f).mode.mode ≠ .fire) : fireDoorTest f d x p = p := by
  unfold fireDoorTest; simp only
  split
  · exact fireOpenTest_nothing (.inl (decide_eq_false away)) _
  · rfl

/-- The judgement of a report that has been stored, by the door's state before it. -/
def judgeStored (f : Face) (d : DoorIx) (rep : DoorReport) (before : Door) (p : Part) : Part :=
  match before.state with
  | .unknown => p |> recomputeSecured f .report false |> classify f d rep
  | .lost => p |> classify f d rep |> recomputeSecured f .ret false
  | _ => p |> recomputeSecured f .report false |> judgeLines f d before.keyIso rep

theorem judgeStored_judges (before : Door) : p.Judges f d (judgeStored f d rep before p) := by
  unfold judgeStored
  split
  · exact (recomputeSecured_judges _ _).trans (classify_judges rep)
  · exact (classify_judges rep).trans (recomputeSecured_judges _ _)
  · exact (recomputeSecured_judges _ _).trans (judgeLines_judges _ rep)

theorem judgeStored_classified {x : Door} (latch : (p.face f).doors[d.val].latch = x.latch)
    (unset : x.state = .unknown ∨ x.state = .lost) : Classified x rep ((judgeStored f d rep x p).face f).doors[d.val] := by
  rcases unset with unknown | lost
  · have same : ((recomputeSecured f .report false p).face f).doors[d.val].latch = x.latch := by
      simp only [recomputeSecured_doors, latch]
    unfold judgeStored
    rw [unknown]
    exact classified_of_latch same.symm rfl classify_classified
  · unfold judgeStored
    rw [lost]
    refine classified_of_latch latch.symm ?_ classify_classified
    simp only [recomputeSecured_doors]

theorem judgeStored_judged {x : Door} (stored : (p.face f).doors[d.val].stance =
    ({ x with report := some rep, keyIso := rep.keyOut } : Door).stance) (known : x.state ≠ .unknown) (here : x.state ≠ .lost) :
    Judged (p.face f).params x rep ((judgeStored f d rep x p).face f).doors[d.val] := by
  generalize proved : recomputeSecured f .report false p = q
  have door : (q.face f).doors[d.val] = (p.face f).doors[d.val] := by rw [← proved]; simp only [recomputeSecured_doors]
  have params : (q.face f).params = (p.face f).params := by
    rw [← proved]
    exact congrArg Standing.params (congrFun (recomputeSecured_standing f p .report false) f)
  have line : judgeStored f d rep x p = judgeLines f d x.keyIso rep q := by
    unfold judgeStored
    rw [← proved]
    split
    · next state => exact absurd state known
    · next state => exact absurd state here
    · rfl
  have key : (q.face f).doors[d.val].keyIso = rep.keyOut := by
    rw [door]
    exact (congrArg Door.keyIso stored :)
  rw [line, ← params]
  refine judged_of_gist ?_ rfl (judgeLines_judged (oldKey := x.keyIso) key)
  rw [door]
  exact (congrArg (fun w : Door => ({ w with keyIso := x.keyIso } : Door).gist) stored).symm

/-- The door table takes an accepted report, outside FIRE, of a door that is not both queued and starting (R77, R78, R85). -/
theorem applyReport_takes (away : (p.face f).mode.mode ≠ .fire)
    (idle : p.unqueued f d ∨ (⟨f, d⟩ : DoorRef) ∉ p.arb.starting) :
    (applyReport f d rep p).Takes f d (p.face f).params rep (p.face f).doors[d.val] := by
  generalize woken : (if reportWakes (p.face f).doors[d] rep then wakeFace f p else p) = q
  have kept : Kept p q := by
    rw [← woken]
    split
    · exact wakeFace_inv (kept_stillInv p) f trivial ⟨fun _ => rfl, rfl⟩
    · exact ⟨fun _ => rfl, rfl⟩
  have calm : (q.face f).mode.mode ≠ .fire := by
    rw [← woken]
    split
    · exact wakeFace_inv (unfired_stillInv f) f trivial away
    · exact away
  have params : (q.face f).params = (p.face f).params := by
    have still := kept.1 f
    simp only [FaceRec.still, FaceRec.config, Prod.mk.injEq] at still
    exact still.1.2.2
  have arb : q.arb = p.arb := congrArg (fun w => w.2.2.2.1) kept.2
  have before := stance_of_kept kept f d
  have applied : applyReport f d rep p = fireDoorTest f d (q.face f).doors[d.val] (judgeStart f d rep
      (judgeStored f d rep (q.face f).doors[d.val] (storeReport f d rep q))) := by
    rw [← woken]
    rfl
  have stored := storeReport_door (f := f) (d := d) (p := q) (rep := rep)
  have judges := judgeStored_judges (f := f) (d := d) (rep := rep) (q.face f).doors[d.val] (p := storeReport f d rep q)
  generalize settled : judgeStored f d rep (q.face f).doors[d.val] (storeReport f d rep q) = t at applied judges
  have free : t.unqueued f d ∨ (⟨f, d⟩ : DoorRef) ∉ t.arb.starting := by
    rcases judges.machinery with same | out
    · have still : t.arb = p.arb := same.trans (storeReport_arb.trans arb)
      unfold Part.unqueued
      rw [still]
      exact idle
    · exact .inl out.1
  obtain ⟨stance, started⟩ := judgeStart_started (rep := rep) free
  have courses : (judgeStart f d rep t).courses = q.courses := judgeStart_courses.trans (judges.courses.trans storeReport_courses)
  have mode : ((judgeStart f d rep t).face f).mode.mode = (q.face f).mode.mode :=
    (congrArg (fun c => c.2.2.1.mode) (congrFun courses f) :)
  rw [applied, fireDoorTest_nothing (by rw [mode]; exact calm)]
  have gist := Door.gist_of_stance stance
  refine Part.Takes.before (x := (q.face f).doors[d.val]) ⟨?_, fun unset => ?_, fun known here => ?_, ?_⟩
    (Door.gist_of_stance before.symm)
  · exact (congrArg Door.shown stance :).trans (judges.shown.trans (congrArg Door.shown stored :))
  · refine classified_of_latch rfl gist ?_
    rw [← settled]
    exact judgeStored_classified (congrArg Door.latch stored :) unset
  · refine judged_of_gist rfl gist ?_
    have standing := congrArg Standing.params (congrFun (storeReport_standing f q d rep) f)
    rw [← params, ← show ((storeReport f d rep q).face f).params = (q.face f).params from standing, ← settled]
    exact judgeStored_judged stored known here
  · rw [show ((judgeStart f d rep t).face f).doors[d.val].state = (t.face f).doors[d.val].state from (congrArg Door.state stance :)]
    exact started

end

/-! ### The sequencer and the sensing (R64, R120 to R123, R129) -/

/-- A beam that reads clear brings no change of it to BLOCKED (R129). -/
theorem Sense.hand_clear (ps : FaceParams) (inner : Bool) (x : Sense) : (x.hand ps inner false).outerBlocked = false := by
  unfold Sense.hand
  split
  · by_cases h : x.outer.Accepts ps.fBeam false
    · simp only [Filter.sample_taken h]
      rfl
    · simp only [Filter.sample_passed h]
      rfl
  · rfl

section
variable {f : Face} {d : DoorIx} {ps : FaceParams} {rep : DoorReport} {x : Door} {p : Part}

theorem Part.Takes.seqCheck (h : p.Takes f d ps rep x) : (seqCheck f p).Takes f d ps rep x :=
  h.kept (seqCheck_inv (kept_stillInv p) f trivial ⟨fun _ => rfl, rfl⟩)

/-- The beams of a reply whose outer beam is clear count at most (R123). -/
theorem Part.Takes.beams (h : p.Takes f d ps rep x) (inner : Bool) : (beamHandover f d inner false p).Takes f d ps rep x := by
  have sensed (s : Sense) : (p.modFace f fun r => r.modSense d fun _ => s).Takes f d ps rep x :=
    h.same (by rw [Part.modFace_self]; rfl) (p.modFace_arb ..)
  have counted (s : Sense) (res : CrossResult) : (onDoor f d (fun x => { x with counts := x.counts.add res })
      (p.modFace f fun r => r.modSense d fun _ => s)).Takes f d ps rep x :=
    (sensed s).after (by rw [onDoor_self]; rfl) (by rw [onDoor_self]; rfl) (Part.modFace_arb ..)
  unfold beamHandover; simp only
  split
  · rw [Sense.hand_clear, if_neg Bool.false_ne_true]
    split
    · exact sensed _
    · split
      · exact counted _ _
      · exact sensed _
  · exact h

/-- The end of a poll of a round leaves the doors (R70, R71). -/
theorem Part.Takes.roundStep (h : p.Takes f d ps rep x) (pace : Pace) (pos : Nat) : (roundStep f pace pos p).Takes f d ps rep x := by
  have linked (g : Link → Link) : (p.modFace f fun r => r.modLink g).Takes f d ps rep x :=
    h.same (by rw [Part.modFace_self]; rfl) (p.modFace_arb ..)
  have ended (g : Link → Link) : (wakeRoundEnded f (p.modFace f fun r => r.modLink g)).Takes f d ps rep x := by
    refine (linked g).same ?_ (Part.modFace_arb ..)
    unfold wakeRoundEnded
    rw [Part.modFace_self]
    split <;> rfl
  unfold Machine.roundStep; simp only
  split
  · exact h
  · split
    · exact linked _
    · exact h
  · split
    · split
      · exact ended _
      · exact linked _
    · exact h

/-- An accepted report is handed over, its outer beam clear (R64). -/
theorem handOver_takes {st : StatusReply} {c : Confirm} (clear : st.outer = false) (away : (p.face f).mode.mode ≠ .fire)
    (idle : p.unqueued f d ∨ (⟨f, d⟩ : DoorRef) ∉ p.arb.starting) :
    (handOver f d st c p).Takes f d (p.face f).params { st.report with confirm := c } (p.face f).doors[d.val] := by
  have taken := (applyReport_takes (rep := { st.report with confirm := c }) away idle).seqCheck.beams st.inner
  unfold handOver
  rw [clear]
  exact taken

/-- What is judged of the awaited command, the health of the door has no part in (R67). -/
theorem confirmReply_answered (inFire : Bool) (d : DoorIx) (id : Nat) (h : Health) :
    (confirmReply inFire d id h.answered).1 = (confirmReply inFire d id h).1 := by
  have awaited : h.answered.awaited = h.awaited := rfl
  have confirm : h.answered.confirm = h.confirm := rfl
  have resends : h.answered.resends = h.resends := rfl
  unfold confirmReply
  rw [awaited, confirm, resends]
  cases h.awaited with
  | none => rfl
  | some a =>
    simp only
    repeat' split
    all_goals rfl

/-- An accepted reply while RUNNING (R64, R67). -/
theorem runAccepted_takes {st : StatusReply} (clear : st.outer = false) (away : (p.face f).mode.mode ≠ .fire)
    (idle : p.unqueued f d ∨ (⟨f, d⟩ : DoorRef) ∉ p.arb.starting) : (runAccepted f d st p).Takes f d (p.face f).params
      { st.report with confirm := (confirmReply false d st.report.lastId (p.face f).health[d]).1 } (p.face f).doors[d.val] := by
  have calm : (p.face f).inFire = false := decide_eq_false away
  have handed (q : Part) (arb : q.arb = p.arb) (mode : (q.face f).mode.mode = (p.face f).mode.mode)
      (params : (q.face f).params = (p.face f).params)
      (gist : (q.face f).doors[d.val].gist = (p.face f).doors[d.val].gist) (c : Confirm) :
      (handOver f d st c q).Takes f d (p.face f).params { st.report with confirm := c } (p.face f).doors[d.val] := by
    rw [← params]
    refine (handOver_takes clear (by rw [mode]; exact away) ?_).before gist.symm
    unfold Part.unqueued
    rw [arb]
    exact idle
  have late (q : Part) (arb : q.arb = p.arb) (mode : (q.face f).mode.mode = (p.face f).mode.mode)
      (params : (q.face f).params = (p.face f).params) (doors : (q.face f).doors = (p.face f).doors) (was : HealthState)
      (c : Confirm) : (handOver f d st c (if was = .late then setLate f d false q else q)).Takes f d (p.face f).params
        { st.report with confirm := c } (p.face f).doors[d.val] := by
    have gist : (q.face f).doors[d.val].gist = (p.face f).doors[d.val].gist :=
      congrArg (fun ds : Vector Door 24 => ds[d.val].gist) doors
    split
    · refine handed _ ((changeDoor_arb ..).trans arb) ?_ ?_ ?_ c
      · exact (congrArg (fun c => c.2.2.1.mode) (congrFun (setLate_courses f q d false) f) :).trans mode
      · exact (congrArg Standing.params (congrFun (setLate_standing f q d false) f) :).trans params
      · exact (Door.gist_of_stance (changeDoor_self f d q .link fun x => { x with late := false })).trans gist
    · exact handed q arb mode params gist c
  have view (h : Health) (rs : Option Resend) (b : Bool) : (fun r : FaceRec => (r.mode, r.params, r.doors))
      (if b then handCue d ((p.face f).modHealth d fun _ => h).doors[d].cue
        (((p.face f).modHealth d fun _ => h).modLink (queueResend rs))
       else ((p.face f).modHealth d fun _ => h).modLink (queueResend rs)) = ((p.face f).mode, (p.face f).params, (p.face f).doors) := by
    split
    · unfold handCue
      split <;> rfl
    · rfl
  rw [← confirmReply_answered, ← calm]
  unfold runAccepted; simp only
  refine late _ (p.modFace_arb ..) ?_ ?_ ?_ _ _
  all_goals rw [Part.modFace_self]
  · exact congrArg (fun v => v.1.mode) (view _ _ _)
  · exact congrArg (fun v => v.2.1) (view _ _ _)
  · exact congrArg (fun v => v.2.2) (view _ _ _)

end

end Sys2Proof.Machine

/-! An accepted report while RUNNING, from the bytes of its reply to the end of the event (R63, R64). -/

namespace Sys2Proof.Machine

/-- Fourteen bytes from the start byte on, with the length of a STATUS reply, are a whole reply (R63, R74). -/
theorem reply_whole {bytes : List Byte} (length : bytes.length = 14) (head : bytes.head? = some 0xA5)
    (len : bytes[1]? = some 10) : replyLenBad bytes = false ∧ replyComplete bytes = true := by
  obtain _ | ⟨a, _ | ⟨b, rest⟩⟩ := bytes
  · cases length
  · cases length
  · obtain rfl : a = 0xA5 := Option.some.inj head
    obtain rfl : b = 10 := Option.some.inj len
    exact ⟨rfl, decide_eq_true length.ge⟩

/-- An accepted reply of a unit of the right type ends the poll of its door (R63). -/
theorem replyReceived_accepted {f : Face} {d : DoorIx} {bytes : List Byte} {st : StatusReply} {p : Part}
    (running : (p.face f).link.state = .running) (line : (p.face f).link.line = .awaiting d.val false false)
    (length : bytes.length = 14) (head : bytes.head? = some 0xA5) (len : bytes[1]? = some 10)
    (accepted : judgeReply (p.face f).link.g d.val bytes = some st) (type : st.report.unitType = 0x2D) :
    replyReceived f bytes p =
      roundStep f (p.face f).link.pace d.val (runAccepted f d st (p.modFace f FaceRec.freed)) := by
  obtain ⟨good, whole⟩ := reply_whole length head len
  have outcome : PollOutcome.ofReply (p.face f).link.g d.val bytes = .accepted st := by
    unfold PollOutcome.ofReply
    rw [accepted]
    exact if_pos type
  unfold replyReceived; simp only
  rw [line]
  simp only [good, whole, Bool.false_eq_true, if_false, if_true]
  rw [outcome, pollEnd_running d _ running]
  rfl

end Sys2Proof.Machine

namespace Sys2Proof.Proofs

open Sys2Proof.Machine

/-- Settles O40: what the door table makes of the report, which the rest of the event leaves as it is. -/
theorem reportJudged : Obligations.ReportJudged := by
  intro f d bytes st s settled here set running line length head len accepted type clear away idle r x rep
  have event := faceEvent_eq settled here (replyReceived f bytes)
  rw [replyReceived_accepted running line length head len accepted type] at event
  generalize begun : s.part.modFace f FaceRec.freed = p at event
  have face : p.face f = r.freed := by rw [← begun, Part.modFace_self]
  have arb : p.arb = s.part.arb := by rw [← begun, Part.modFace_arb]
  have taken := runAccepted_takes (f := f) (d := d) (p := p) (st := st) clear (by rw [face]; exact away)
    (by unfold Part.unqueued; rw [arb]; exact idle)
  rw [face] at taken
  have ended := (taken.roundStep r.link.pace d.val).kept (settle_kept _)
  have sent : (transmit { s with part := settle (roundStep f r.link.pace d.val (runAccepted f d st p)) }).part.Takes f d
      r.params rep x := ended.same (by rw [transmit_face]) (transmit_arb _)
  obtain ⟨shown, classified, judged, started⟩ := sent
  obtain ⟨report, key⟩ := Prod.mk.inj shown
  refine ⟨_, congrArg Host.Outcome.next event, report, key, classified, judged, fun opens far => started ?_,
    fun closes far => started ?_⟩
  · rcases opens with state | state
    · exact (congrArg (travelled · rep.pos) state).trans (decide_eq_true far)
    · exact (congrArg (travelled · rep.pos) state).trans (decide_eq_true far)
  · rcases closes with state | state
    · exact (congrArg (travelled · rep.pos) state).trans (decide_eq_true far)
    · exact (congrArg (travelled · rep.pos) state).trans (decide_eq_true far)

end Sys2Proof.Proofs

/-! The start machinery in order (R81, R84, R85, R92, R113): what it asks of the arbiter and of each door's record, with the
one door that an operation has in hand set apart; and how the arbiter's operations keep it. -/

namespace Sys2Proof.Machine

/-! ### The order of the start machinery (R113) -/

/-- The record of a door of either face. -/
def Part.door (p : Part) (x : DoorRef) : Door := (p.face x.face).doors[x.door.val]

/-- No door stands twice in the start queue, twice in the starting set, or in both. -/
structure Arbiter.Apart (a : Arbiter) : Prop where
  once : (a.queue.map QEntry.ref).Nodup
  started : a.starting.Nodup
  apart : ∀ e ∈ a.queue, e.ref ∉ a.starting

/-- The door is on its way: the states a door of the starting set may be in (R85). -/
@[reducible] def DoorState.underWay (s : DoorState) : Prop := s = .unlocking ∨ s = .opening ∨ s = .closing ∨ s = .proving

/-- The obstruction pause runs only while the door is REOPENING, its key in AUTO (R92). -/
def Door.pausesWell (y : Door) : Prop := y.pauseT ≠ none → y.state = .reopening ∧ y.keyIso = false

/-- The record of a door is what the arbiter's entries of it ask for. -/
structure Arbiter.Fits (a : Arbiter) (x : DoorRef) (y : Door) : Prop where
  queued : ∀ e ∈ a.queue, e.ref = x → y.state = e.action.queuedState ∧ y.keyIso = false ∧
    ∃ o, y.order = some o ∧ o.action = e.action ∧ o.kind = e.kind
  moving : x ∈ a.starting → y.keyIso = false ∧ y.state.underWay
  paused : y.pausesWell

/-- The start machinery is in order but for the records of the doors of `X`. -/
structure Part.Ordered (X : DoorRef → Prop) (p : Part) : Prop where
  arb : p.arb.Apart
  fits : ∀ x, ¬ X x → p.arb.Fits x (p.door x)

theorem Part.machineryOk_iff {p : Part} : p.MachineryOk ↔ p.Ordered fun _ => False where
  mp h := ⟨⟨h.once, h.started, h.apart⟩, fun x _ =>
    ⟨fun e mem own => by subst own; exact h.queued e mem, h.moving x, h.pauses x.face x.door⟩⟩
  mpr h := ⟨h.arb.once, h.arb.started, h.arb.apart, fun e mem => (h.fits e.ref id).queued e mem rfl,
    fun x => (h.fits x id).moving, fun f d => (h.fits ⟨f, d⟩ id).paused⟩

/-! ### The record of one door -/

section
variable {a : Arbiter} {x : DoorRef} {y z : Door}

/-- Of the record the machinery reads what the stance shows. -/
theorem Arbiter.Fits.of_stance (same : z.stance = y.stance) (h : a.Fits x y) : a.Fits x z := by
  have seen : a.Fits x y.stance := ⟨h.queued, h.moving, h.paused⟩
  rw [← same] at seen
  exact ⟨seen.queued, seen.moving, seen.paused⟩

theorem Arbiter.Fits.shrink {b : Arbiter} (h : a.Fits x y) (queue : ∀ e ∈ b.queue, e ∈ a.queue)
    (starting : ∀ x ∈ b.starting, x ∈ a.starting) : b.Fits x y :=
  ⟨fun e mem => h.queued e (queue e mem), fun mem => h.moving (starting x mem), h.paused⟩

/-- A door out of the start machinery needs but a fitting pause. -/
theorem Arbiter.Fits.of_out (queue : ∀ e ∈ a.queue, e.ref ≠ x) (starting : x ∉ a.starting) (paused : y.pausesWell) :
    a.Fits x y :=
  ⟨fun e mem own => absurd own (queue e mem), fun mem => absurd mem starting, paused⟩

theorem Action.queuedState_cases (c : Action) : c.queuedState = .openQueued ∨ c.queuedState = .closeQueued := by
  cases c
  · exact .inl rfl
  · exact .inr rfl

/-- A door that does not wait for its start is not queued. -/
theorem Arbiter.Fits.unqueued (h : a.Fits x y) (opens : y.state ≠ .openQueued) (closes : y.state ≠ .closeQueued) :
    ∀ e ∈ a.queue, e.ref ≠ x := fun e mem own => by
  obtain ⟨state, _⟩ := h.queued e mem own
  rcases e.action.queuedState_cases with s | s
  · exact opens (state.trans s)
  · exact closes (state.trans s)

/-- A door whose key is out is in neither part of the machinery, and runs no pause (R81). -/
theorem Arbiter.Fits.keyed (h : a.Fits x y) (key : y.keyIso = true) :
    (∀ e ∈ a.queue, e.ref ≠ x) ∧ x ∉ a.starting ∧ y.pauseT = none := by
  have locked : ¬ y.keyIso = false := by rw [key]; nofun
  exact ⟨fun e mem own => locked (h.queued e mem own).2.1, fun mem => locked (h.moving mem).1,
    by_contra fun runs => locked (h.paused runs).2⟩

theorem Arbiter.Fits.unpaused (h : a.Fits x y) (state : y.state ≠ .reopening) : y.pauseT = none :=
  by_contra fun runs => state (h.paused runs).1

end

/-- A state of rest: the door neither waits for a start nor moves. -/
@[reducible] def DoorState.atRest (s : DoorState) : Prop := s ≠ .openQueued ∧ s ≠ .closeQueued ∧ ¬ s.underWay

theorem Arbiter.Fits.at_rest {a : Arbiter} {x : DoorRef} {y : Door} (h : a.Fits x y) (rest : y.state.atRest) :
    (∀ e ∈ a.queue, e.ref ≠ x) ∧ x ∉ a.starting :=
  ⟨h.unqueued rest.1 rest.2.1, fun mem => rest.2.2 (h.moving mem).2⟩

/-! ### Changes of a part -/

section
variable {X Y : DoorRef → Prop} {p q : Part}

theorem Part.Ordered.mono (h : p.Ordered X) (sub : ∀ x, X x → Y x) : p.Ordered Y :=
  ⟨h.arb, fun x out => h.fits x (mt (sub x) out)⟩

/-- What keeps the arbiter and the stances of the doors. -/
theorem Part.Ordered.same (h : p.Ordered X) (arb : q.arb = p.arb) (doors : ∀ x, (q.door x).stance = (p.door x).stance) :
    q.Ordered X :=
  ⟨by rw [arb]; exact h.arb, fun x out => by rw [arb]; exact (h.fits x out).of_stance (doors x)⟩

/-- A door set apart whose record fits again. -/
theorem Part.Ordered.restore {x : DoorRef} (h : p.Ordered fun y => X y ∨ y = x) (fits : ¬ X x → p.arb.Fits x (p.door x)) :
    p.Ordered X :=
  ⟨h.arb, fun y out => by
    by_cases same : y = x
    · subst same; exact fits out
    · exact h.fits y (not_or.mpr ⟨out, same⟩)⟩

theorem Part.Ordered.machineryOk {x : DoorRef} (h : p.Ordered (· = x)) (fits : p.arb.Fits x (p.door x)) : p.MachineryOk :=
  Part.machineryOk_iff.mpr ((h.mono fun _ => .inr).restore fun _ => fits)

theorem Part.MachineryOk.ordered (h : p.MachineryOk) : p.Ordered X := (Part.machineryOk_iff.mp h).mono fun _ => False.elim

theorem Part.MachineryOk.fits (h : p.MachineryOk) (f : Face) (d : DoorIx) : p.arb.Fits ⟨f, d⟩ (p.face f).doors[d.val] :=
  (Part.machineryOk_iff.mp h).fits ⟨f, d⟩ id

theorem ordered_modFace (h : p.Ordered X) (f : Face) {g : FaceRec → FaceRec}
    (doors : ∀ d : DoorIx, (g (p.face f)).doors[d.val].stance = (p.face f).doors[d.val].stance) : (p.modFace f g).Ordered X :=
  h.same (p.modFace_arb f g) fun x => by
    unfold Part.door
    rw [Part.modFace_face]
    obtain ⟨f', e⟩ := x
    split
    · next own => subst own; exact doors e
    · rfl

/-- What the end of an event may do keeps the order. -/
theorem ordered_stillInv (X : DoorRef → Prop) : StillInv (fun _ => True) (Part.Ordered X) where
  report r p h := h.same (queueReport_arb r p) fun x => by unfold Part.door; rw [queueReport_face]
  mod f g p _ calm h := ordered_modFace h f fun d => by
    have still := (calm (p.face f)).1
    simp only [FaceRec.still, Prod.mk.injEq] at still
    exact Door.stance_of_core (congrFun still.2.2.1 d)

theorem ordered_shrink (h : p.Ordered X) {q : List QEntry} {s : List DoorRef} (queue : List.Sublist q p.arb.queue)
    (starting : List.Sublist s p.arb.starting) : ({ p with arb := ⟨q, s⟩ } : Part).Ordered X where
  arb := ⟨h.arb.once.sublist (queue.map _), h.arb.started.sublist starting,
    fun e mem own => h.arb.apart e (queue.subset mem) (starting.subset own)⟩
  fits x out := by
    unfold Part.door
    rw [Part.face_mk]
    exact (h.fits x out).shrink (fun _ mem => queue.subset mem) fun _ mem => starting.subset mem

/-- A door's change does not reach the other face. -/
theorem changeDoor_other {f f' : Face} (away : f ≠ f') (d : DoorIx) (c : DoorCause) (g : Door → Door) (p : Part) :
    (changeDoor f d c g p).face f' = p.face f' := by
  have hI := (other_frameInv f' (p.face f')).notice
  have kept (q : Part) (u : FaceRec → FaceRec) (h : q.face f' = p.face f') : (q.modFace f u).face f' = p.face f' :=
    (q.modFace_other away u).trans h
  have told (x : Prop) [Decidable x] (r : Report) (q : Part) (h : q.face f' = p.face f') :
      (if x then q else queueReport r q).face f' = p.face f' := by
    split
    · exact h
    · exact hI.report r q h
  unfold changeDoor; simp only
  refine kept _ _ ?_
  split
  · exact told _ _ _ (kept _ _ rfl)
  · exact doorGap_notice hI away (kept _ _ (told _ _ _ (kept _ _ rfl))) d _

/-- A door's change makes of that door's record what it says, and of no other record anything. -/
theorem changeDoor_door (f : Face) (d : DoorIx) (c : DoorCause) (g : Door → Door) (p : Part) (x : DoorRef) :
    ((changeDoor f d c g p).door x).stance = if x = ⟨f, d⟩ then (g (p.face f).doors[d.val]).stance else (p.door x).stance := by
  obtain ⟨f', e⟩ := x
  unfold Part.door; simp only
  by_cases own : f' = f
  · subst own
    rw [changeDoor_stance]
    by_cases same : e = d
    · subst same; rw [if_pos rfl, if_pos rfl]
    · rw [if_neg fun q => same q.symm, if_neg fun q => same (congrArg DoorRef.door q)]
  · rw [if_neg fun q => own (congrArg DoorRef.face q), changeDoor_other (Ne.symm own)]

end

end Sys2Proof.Machine

namespace Sys2Proof.Machine

theorem Door.pausesWell_of_none {y : Door} (h : y.pauseT = none) : y.pausesWell := fun runs => absurd h runs

/-- What the start machinery reads of a door record. -/
def Door.post (y : Door) : DoorState × Bool × Option MoveOrder × Timer := (y.state, y.keyIso, y.order, y.pauseT)

theorem Arbiter.Fits.of_post {a : Arbiter} {x : DoorRef} {y z : Door} (same : z.post = y.post) (h : a.Fits x y) : a.Fits x z := by
  simp only [Door.post, Prod.mk.injEq] at same
  obtain ⟨state, key, order, pause⟩ := same
  exact ⟨by rw [state, key, order]; exact h.queued, by rw [state, key]; exact h.moving,
    by unfold Door.pausesWell; rw [state, key, pause]; exact h.paused⟩

/-- What the grant of each queued door keeps, and the placing of a MOVE, a grant event keeps. -/
theorem grantEvent_kept {I : Part → Prop}
    (grant : ∀ (e : QEntry) (codes : Codes) (q : Part), e ∈ q.arb.queue → I q → I (grantDoor e codes q))
    (place : ∀ (f : Face) (a : LinkAction) (ts : List MoveTarget) (q : Part), I q → I (q.modFace f (FaceRec.placeMove a ts)))
    {p : Part} (h : I p) : I (grantEvent p) := by
  have loop (n : Nat) (gs : List Grant) (q : Part) (k : I q) : I (grantLoop n gs q).1 := by
    induction n generalizing gs q with
    | zero => exact k
    | succ n ih =>
      unfold grantLoop
      split
      · exact k
      · next e first =>
        split
        · exact ih _ _ (grant e _ q (candidate_mem first) k)
        · exact k
  have issued (ks : List (Face × Action)) (gs : List Grant) (q : Part) (k : I q) :
      I (ks.foldl (fun p k => p.modFace k.1 (FaceRec.placeMove
        (match k.2 with
         | .toOpen => .unlockOpen
         | .toClose => .closeLock) (moveTargets gs k.1 k.2))) q) := by
    induction ks generalizing q with
    | nil => exact k
    | cons key ks ih => exact ih _ (place _ _ _ _ k)
  exact issued _ _ _ (loop _ _ _ h)

section
variable {X : DoorRef → Prop} {p : Part} (h : p.Ordered X)
include h

theorem ordered_changeDoor (f : Face) (d : DoorIx) (c : DoorCause) (g : Door → Door)
    (fits : ¬ X ⟨f, d⟩ → p.arb.Fits ⟨f, d⟩ (g (p.face f).doors[d.val])) : (changeDoor f d c g p).Ordered X :=
  ⟨by rw [changeDoor_arb]; exact h.arb, fun x out => by
    have stance := changeDoor_door f d c g p x
    rw [changeDoor_arb]
    split at stance
    · next own => subst own; exact (fits out).of_stance stance
    · exact (h.fits x out).of_stance stance⟩

/-- A change of the doors of a face that the machinery does not see. -/
theorem ordered_posts (f : Face) {g : FaceRec → FaceRec}
    (doors : ∀ d : DoorIx, (g (p.face f)).doors[d.val].post = (p.face f).doors[d.val].post) : (p.modFace f g).Ordered X :=
  ⟨by rw [Part.modFace_arb]; exact h.arb, fun ⟨f', d⟩ out => by
    rw [Part.modFace_arb]
    refine (h.fits ⟨f', d⟩ out).of_post ?_
    unfold Part.door
    rw [Part.modFace_face]
    simp only
    split
    · next own => subst own; exact doors d
    · rfl⟩

theorem ordered_onDoor (f : Face) (d : DoorIx) {g : Door → Door}
    (fits : ¬ X ⟨f, d⟩ → p.arb.Fits ⟨f, d⟩ (g (p.face f).doors[d.val])) : (onDoor f d g p).Ordered X :=
  ⟨by unfold onDoor; rw [Part.modFace_arb]; exact h.arb, fun ⟨f', e⟩ out => by
    unfold onDoor
    rw [Part.modFace_arb]
    have own := h.fits ⟨f', e⟩ out
    unfold Part.door at own ⊢
    rw [Part.modFace_face]
    simp only at own ⊢
    split
    · next same =>
      subst same
      rw [FaceRec.modDoor_doors]
      split
      · next same => subst same; exact fits out
      · exact own
    · exact own⟩

/-! ### Grants (R115) -/

/-- A granted door goes from the queue to the starting set, and from its queued state into its movement (R85, R115). -/
theorem ordered_grantDoor {e : QEntry} (mem : e ∈ p.arb.queue) (codes : Codes) : (grantDoor e codes p).Ordered X := by
  have left {b : QEntry} (inside : b ∈ p.arb.queue.filter fun b => decide (b.ref ≠ e.ref)) : b ∈ p.arb.queue ∧ b.ref ≠ e.ref := by
    simpa using inside
  have taken : ({ p with arb := { queue := p.arb.queue.filter fun b => decide (b.ref ≠ e.ref)
                                  starting := p.arb.starting ++ [e.ref] } } : Part).Ordered fun y => X y ∨ y = e.ref := by
    refine ⟨⟨h.arb.once.sublist (List.filter_sublist.map _), ?_, fun b inside own => ?_⟩, fun y out => ?_⟩
    · exact List.nodup_append.mpr ⟨h.arb.started, List.nodup_singleton _, fun a inside b own same => by
        rw [List.mem_singleton.mp own] at same
        exact h.arb.apart e mem (same ▸ inside)⟩
    · rcases List.mem_append.mp own with own | own
      · exact h.arb.apart b (left inside).1 own
      · exact (left inside).2 (List.mem_singleton.mp own)
    · obtain ⟨out, other⟩ := not_or.mp out
      unfold Part.door
      rw [Part.face_mk]
      have fits := h.fits y out
      refine ⟨fun b inside => fits.queued b (left inside).1, fun own => fits.moving ?_, fits.paused⟩
      exact (List.mem_append.mp own).resolve_right fun own => other (List.mem_singleton.mp own)
  refine Part.Ordered.restore (x := e.ref) (ordered_changeDoor taken _ _ _ _ fun out => absurd (.inr rfl) out) fun out => ?_
  obtain ⟨state, key, _⟩ := (h.fits e.ref out).queued e mem rfl
  have rests : (p.door e.ref).pauseT = none := (h.fits e.ref out).unpaused (by rw [state]; cases e.action <;> decide)
  have stance := changeDoor_door e.ref.face e.ref.door .grant (Door.granted e.action p.params.tStart codes.timeout)
    { p with arb := { queue := p.arb.queue.filter fun b => decide (b.ref ≠ e.ref), starting := p.arb.starting ++ [e.ref] } } e.ref
  rw [if_pos rfl, Part.face_mk] at stance
  refine Arbiter.Fits.of_stance stance ⟨fun b inside own => ?_, fun _ => ⟨key, ?_⟩, Door.pausesWell_of_none rests⟩
  · unfold grantDoor at inside
    rw [changeDoor_arb] at inside
    exact absurd own (left inside).2
  · cases e.action
    · exact .inl rfl
    · exact .inr (.inr (.inl rfl))

theorem ordered_grantEvent : (grantEvent p).Ordered X :=
  grantEvent_kept (fun _ codes _ mem k => ordered_grantDoor k mem codes)
    (fun f _ _ _ k => ordered_modFace k f fun d => by rw [placeMove_doors]) h

/-! ### Joining and leaving (R84, R85, R113) -/

theorem ordered_endStart (f : Face) (d : DoorIx) : (endStart f d p).Ordered X := by
  unfold endStart
  split
  · have left := ordered_shrink h (List.Sublist.refl p.arb.queue)
      (List.filter_sublist (p := fun x => decide (x ≠ (⟨f, d⟩ : DoorRef))) (l := p.arb.starting))
    refine ordered_grantEvent (ordered_onDoor left f d fun out => ?_)
    have fits := left.fits ⟨f, d⟩ out
    unfold Part.door at fits
    rw [Part.face_mk] at fits ⊢
    exact Arbiter.Fits.of_post (y := (p.face f).doors[d.val]) rfl fits
  · exact h

theorem ordered_leaveMachinery (f : Face) (d : DoorIx) : (leaveMachinery f d p).Ordered X := by
  unfold leaveMachinery
  refine ordered_endStart ?_ f d
  exact ordered_shrink h (List.filter_sublist (p := fun x => decide (x.ref ≠ ⟨f, d⟩)) (l := p.arb.queue)) (List.Sublist.refl _)

theorem ordered_leaveQueueAll (f : Face) : (leaveQueueAll f p).Ordered X :=
  ordered_shrink h (List.filter_sublist (p := fun x => decide (x.ref.face ≠ f)) (l := p.arb.queue)) (List.Sublist.refl _)

end

section
variable {p : Part} {f : Face} {d : DoorIx} (h : p.Ordered (· = ⟨f, d⟩))
include h

/-- A door set apart that has left the start machinery is in order again. -/
theorem Part.Ordered.out (out : p.outOfMachinery f d) (paused : (p.face f).doors[d.val].pausesWell) : p.MachineryOk :=
  h.machineryOk (.of_out out.1 out.2 paused)

theorem machineryOk_leaves (paused : (p.face f).doors[d.val].pausesWell) : (leaveMachinery f d p).MachineryOk := by
  obtain ⟨out, stance⟩ := leaveMachinery_out f d p
  have kept : ((leaveMachinery f d p).face f).doors[d.val].pausesWell := by
    have seen : (p.face f).doors[d.val].stance.pausesWell := paused
    rw [← stance] at seen
    exact seen
  exact (ordered_leaveMachinery h f d).out out kept

/-- A change that takes the door out of the start machinery restores the order (R84, R113). -/
theorem machineryOk_changesOut (c : DoorCause) {g : Door → Door} (paused : (g (p.face f).doors[d.val]).pausesWell) :
    (leaveMachinery f d (changeDoor f d c g p)).MachineryOk := by
  refine machineryOk_leaves (ordered_changeDoor h f d c g fun n => absurd rfl n) ?_
  have seen : (g (p.face f).doors[d.val]).stance.pausesWell := paused
  rw [← changeDoor_self f d p c g] at seen
  exact seen

/-- A door out of the machinery joins the queue with its order (R84, R113). -/
theorem machineryOk_joins (out : p.outOfMachinery f d) {c : Action} {k : OrderKind} {b : Bool} {y : Door}
    (stance : (p.face f).doors[d.val].stance = y.stance) (state : y.state = c.queuedState) (key : y.keyIso = false)
    (order : y.order = some ⟨c, k, b⟩) (rests : y.pauseT = none) : (joinQueue ⟨⟨f, d⟩, c, k⟩ p).MachineryOk := by
  have member {e : QEntry} (mem : e ∈ p.arb.queue ++ [⟨⟨f, d⟩, c, k⟩]) : e ∈ p.arb.queue ∨ e = ⟨⟨f, d⟩, c, k⟩ :=
    (List.mem_append.mp mem).imp_right List.mem_singleton.mp
  refine Part.Ordered.machineryOk (x := ⟨f, d⟩) ⟨⟨?_, h.arb.started, fun e mem => ?_⟩, fun x other => ?_⟩ ?_
  · unfold joinQueue
    rw [List.map_append]
    refine List.nodup_append.mpr ⟨h.arb.once, List.nodup_singleton _, fun a inside b own same => ?_⟩
    obtain ⟨e, mem, rfl⟩ := List.mem_map.mp inside
    exact out.1 e mem (same.trans (List.mem_singleton.mp own))
  · rcases member mem with mem | rfl
    · exact h.arb.apart e mem
    · exact out.2
  · have fits := h.fits x other
    unfold Part.door joinQueue
    rw [Part.face_mk]
    refine ⟨fun e mem own => ?_, fits.moving, fits.paused⟩
    rcases member mem with mem | rfl
    · exact fits.queued e mem own
    · exact absurd own.symm other
  · unfold Part.door joinQueue
    rw [Part.face_mk]
    refine Arbiter.Fits.of_stance stance ⟨fun e mem own => ?_, fun mem => absurd mem out.2, Door.pausesWell_of_none rests⟩
    rcases member mem with mem | rfl
    · exact absurd own (out.1 e mem)
    · exact ⟨state, key, _, order, rfl, rfl⟩

end

end Sys2Proof.Machine

/-! The door table's operations on one door keep the start machinery in order (chapter 5, R113). -/

namespace Sys2Proof.Machine

theorem machineryOk_stillInv : StillInv (fun _ => True) Part.MachineryOk where
  report r p h := Part.machineryOk_iff.mpr ((ordered_stillInv _).report r p (Part.machineryOk_iff.mp h))
  mod f g p hf calm h := Part.machineryOk_iff.mpr ((ordered_stillInv _).mod f g p hf calm (Part.machineryOk_iff.mp h))

theorem machineryOk_ite {c : Prop} [Decidable c] {p q : Part} (h : p.MachineryOk) (k : q.MachineryOk) :
    (if c then p else q).MachineryOk := by
  split
  · exact h
  · exact k

/-! ### What the orders read of a door (R81, R82, R84, R89) -/

theorem Door.isolationAllows_key {k : OrderKind} {y : Door} (h : y.isolationAllows k = true) : y.keyIso = false := by
  unfold Door.isolationAllows Door.iso at h
  cases key : y.keyIso
  · rfl
  · cases k <;> simp [key] at h

theorem Door.takesOpen_state {k : OrderKind} {y : Door} (h : y.takesOpen k = true) :
    y.keyIso = false ∧ (y.state = .closedLocked ∨ y.state = .opened) := by
  unfold Door.takesOpen at h
  simp only [Bool.and_eq_true] at h
  obtain ⟨⟨allows, from_⟩, _⟩ := h
  refine ⟨Door.isolationAllows_key allows, ?_⟩
  split at from_
  · next s => exact .inl s
  · next s => exact .inr s
  · cases from_

theorem Door.closeFrom_state {k : OrderKind} {y : Door} (h : y.closeFrom k = true) : y.state.atRest := by
  unfold Door.closeFrom at h
  split at h
  all_goals first
    | (next s => rw [s]; decide)
    | cases h

section
variable {p : Part} (h : p.MachineryOk) (f : Face) (d : DoorIx)
include h

/-! ### Changes of a record -/

theorem machineryOk_doors {g : FaceRec → FaceRec} (doors : ∀ r, (g r).doors = r.doors) : (p.modFace f g).MachineryOk :=
  Part.machineryOk_iff.mpr (ordered_modFace h.ordered f fun d => by rw [doors])

theorem machineryOk_posts {g : FaceRec → FaceRec}
    (doors : ∀ d : DoorIx, (g (p.face f)).doors[d.val].post = (p.face f).doors[d.val].post) : (p.modFace f g).MachineryOk :=
  Part.machineryOk_iff.mpr (ordered_posts h.ordered f doors)

theorem machineryOk_changeDoor (c : DoorCause) {g : Door → Door}
    (fits : p.arb.Fits ⟨f, d⟩ (g (p.face f).doors[d.val])) : (changeDoor f d c g p).MachineryOk :=
  Part.machineryOk_iff.mpr (ordered_changeDoor h.ordered f d c g fun _ => fits)

theorem machineryOk_onDoor {g : Door → Door} (fits : p.arb.Fits ⟨f, d⟩ (g (p.face f).doors[d.val])) :
    (onDoor f d g p).MachineryOk :=
  Part.machineryOk_iff.mpr (ordered_onDoor h.ordered f d fun _ => fits)

theorem machineryOk_onDoor_post {g : Door → Door} (same : ∀ y, (g y).post = y.post) : (onDoor f d g p).MachineryOk :=
  machineryOk_onDoor h f d (Arbiter.Fits.of_post (same _) (h.fits f d))

theorem machineryOk_changeDoor_post (c : DoorCause) {g : Door → Door} (same : ∀ y, (g y).post = y.post) :
    (changeDoor f d c g p).MachineryOk :=
  machineryOk_changeDoor h f d c (Arbiter.Fits.of_post (same _) (h.fits f d))

/-- A door of rest may change to any record whose pause fits. -/
theorem machineryOk_rests (c : DoorCause) {g : Door → Door} (rest : (p.face f).doors[d.val].state.atRest)
    (paused : (g (p.face f).doors[d.val]).pausesWell) : (changeDoor f d c g p).MachineryOk :=
  machineryOk_changeDoor h f d c (.of_out ((h.fits f d).at_rest rest).1 ((h.fits f d).at_rest rest).2 paused)

/-- A door of rest is queued with its order (R84). -/
theorem machineryOk_queues (t : DoorCause) {g : Door → Door} {c : Action} {k : OrderKind} {b : Bool}
    (rest : (p.face f).doors[d.val].state.atRest) (state : (g (p.face f).doors[d.val]).state = c.queuedState)
    (key : (g (p.face f).doors[d.val]).keyIso = false) (order : (g (p.face f).doors[d.val]).order = some ⟨c, k, b⟩)
    (rests : (g (p.face f).doors[d.val]).pauseT = none) : (joinQueue ⟨⟨f, d⟩, c, k⟩ (changeDoor f d t g p)).MachineryOk := by
  have changed : (changeDoor f d t g p).Ordered (· = ⟨f, d⟩) := ordered_changeDoor h.ordered f d t g fun n => absurd rfl n
  exact machineryOk_joins changed (outOfMachinery_of_arb (changeDoor_arb ..) ((h.fits f d).at_rest rest))
    (changeDoor_self f d p t g) state key order rests

theorem machineryOk_changesOut' (c : DoorCause) {g : Door → Door} (stopped : ∀ y, (g y).pauseT = none) :
    (leaveMachinery f d (changeDoor f d c g p)).MachineryOk :=
  machineryOk_changesOut h.ordered c (Door.pausesWell_of_none (stopped _))

theorem machineryOk_grantEvent : (grantEvent p).MachineryOk :=
  Part.machineryOk_iff.mpr (ordered_grantEvent h.ordered)

theorem machineryOk_endStart : (endStart f d p).MachineryOk := Part.machineryOk_iff.mpr (ordered_endStart h.ordered f d)

theorem machineryOk_leaveQueueAll : (leaveQueueAll f p).MachineryOk :=
  Part.machineryOk_iff.mpr (ordered_leaveQueueAll h.ordered f)

theorem machineryOk_recomputeSecured (c : SecuredCause) (b : Bool) : (recomputeSecured f c b p).MachineryOk :=
  recomputeSecured_inv machineryOk_stillInv f trivial c b h

omit h in
theorem machineryOk_forDoors {op : DoorIx → Part → Part} (each : ∀ d q, q.MachineryOk → (op d q).MachineryOk)
    (ds : List DoorIx) {p : Part} (h : p.MachineryOk) : (forDoors ds op p).MachineryOk :=
  forDoors_closed (I := Part.MachineryOk) op each ds h

/-! ### Frames and operations -/

theorem machineryOk_leaveOperation (o : DoorOutcome) : (leaveOperation f d o p).MachineryOk :=
  machineryOk_doors h f fun _ => rfl

theorem machineryOk_issueStop : (issueStop f d p).MachineryOk := by
  unfold issueStop
  split
  · exact h
  · exact machineryOk_doors h f fun r => placeStop_doors d r

theorem machineryOk_issueReverse : (issueReverse f d p).MachineryOk :=
  machineryOk_doors h f fun r => placeMove_doors _ _ r

end

section
variable {p : Part} {f : Face} {d : DoorIx} (h : p.Ordered (· = ⟨f, d⟩))
include h

/-- DISCREPANT and RELEASED end whatever the machinery held of the door (R79, R94). -/
theorem machineryOk_enterDiscrepant (why : DiscCause) (t : DoorCause) (stop : Bool) :
    (enterDiscrepant f d why t stop p).MachineryOk := by
  have out := machineryOk_changesOut h t (g := Door.discrepant why) (Door.pausesWell_of_none rfl)
  unfold enterDiscrepant; simp only
  split
  · exact machineryOk_issueStop out f d
  · exact out

theorem machineryOk_releaseDoor (t : DoorCause) : (releaseDoor f d t p).MachineryOk := by
  have out (q : Part) (k : q.Ordered (· = ⟨f, d⟩)) : (leaveMachinery f d (changeDoor f d t Door.released q)).MachineryOk :=
    machineryOk_changesOut k t (Door.pausesWell_of_none rfl)
  have told : (if (p.face f).doors[d].latch then p else queueReport (.release f (releaseSet (p.face f) d)) p).Ordered
      (· = ⟨f, d⟩) := by
    split
    · exact h
    · exact (ordered_stillInv _).report _ _ h
  unfold releaseDoor; simp only
  split
  · exact machineryOk_issueStop (out _ told) f d
  · exact out _ told

end

section
variable {p : Part} (h : p.MachineryOk) (f : Face) (d : DoorIx)
include h

/-! ### Orders (R84, R89, R92, R93) -/

theorem machineryOk_openOrder (k : OrderKind) (t : DoorCause) : (openOrder f d k t p).MachineryOk := by
  by_cases takes : (p.face f).doors[d.val].takesOpen k = true
  · rw [openOrder_taken takes]
    obtain ⟨key, state⟩ := Door.takesOpen_state takes
    have rest : (p.face f).doors[d.val].state.atRest := by
      rcases state with s | s <;> rw [s] <;> decide
    have rests := (h.fits f d).unpaused (by rcases state with s | s <;> rw [s] <;> decide)
    exact machineryOk_queues h f d t rest rfl key rfl rests
  · unfold openOrder
    exact (if_neg takes).symm ▸ h

theorem machineryOk_withdrawDoor : (withdrawDoor f d p).MachineryOk := by
  have left := machineryOk_leaveOperation h f d .excluded
  have doors : ((leaveOperation f d .excluded p).face f).doors = (p.face f).doors := by
    unfold leaveOperation
    rw [Part.modFace_self]
    rfl
  unfold withdrawDoor
  split
  · next s =>
    refine machineryOk_changesOut left.ordered .order (Door.pausesWell_of_none ?_)
    rw [doors]
    unfold Door.withdrawn
    rw [show (p.face f).doors[d.val].state = .openQueued from s]
    simp only
    split <;> rfl
  · next s =>
    refine machineryOk_changesOut left.ordered .order (Door.pausesWell_of_none ?_)
    rw [doors]
    unfold Door.withdrawn
    rw [show (p.face f).doors[d.val].state = .closeQueued from s]
    rfl
  · exact h

theorem machineryOk_beginWarning : (beginWarning f d p).MachineryOk := by
  unfold beginWarning
  split
  · next opens =>
    have state : (p.face f).doors[d.val].state = .opened := opens.1
    refine machineryOk_rests h f d _ (by rw [state]; decide) ?_
    exact Door.pausesWell_of_none ((h.fits f d).unpaused (by rw [state]; decide))
  · exact h

theorem machineryOk_queueClose (k : OrderKind) (t : DoorCause) (rest : (p.face f).doors[d.val].state.atRest)
    (key : (p.face f).doors[d.val].keyIso = false) : (queueClose f d k t p).MachineryOk :=
  machineryOk_queues h f d t rest rfl key rfl rfl

theorem machineryOk_closeOrder (k : OrderKind) (t : DoorCause) : (closeOrder f d k t p).MachineryOk := by
  unfold closeOrder; simp only
  split
  · next taken =>
    obtain ⟨_, allows, from_⟩ := taken
    have key : (p.face f).doors[d.val].keyIso = false := Door.isolationAllows_key allows
    have rest : (p.face f).doors[d.val].state.atRest := Door.closeFrom_state from_
    split
    · have marked := onDoor_self f d p fun x => { x with forced := true }
      refine machineryOk_queueClose
        (machineryOk_onDoor_post h f d (g := fun x => { x with forced := true }) fun _ => rfl) f d k t ?_ ?_
      · rw [marked]; exact rest
      · rw [marked]; exact key
    · exact machineryOk_queueClose h f d k t rest key
  · exact h

theorem machineryOk_holdOrder : (holdOrder f d p).MachineryOk := by
  unfold holdOrder
  split
  · next warned =>
    have state : (p.face f).doors[d.val].state = .preClose := warned
    have held : (changeDoor f d .order (Door.enter .held) p).MachineryOk :=
      machineryOk_rests h f d _ (by rw [state]; decide)
        (Door.pausesWell_of_none ((h.fits f d).unpaused (by rw [state]; decide)))
    simp only
    split
    · exact machineryOk_closeOrder held f d _ _
    · exact held
  · exact h

theorem machineryOk_returnToOpen : (returnToOpen f d p).MachineryOk := by
  unfold returnToOpen
  split
  case h_4 => exact h
  all_goals exact machineryOk_changesOut' h f d _ fun _ => rfl

theorem machineryOk_enterReopening (why : ReopenCause) (t : DoorCause) : (enterReopening f d why t p).MachineryOk :=
  machineryOk_issueReverse (machineryOk_changesOut' h f d t fun _ => rfl) f d

theorem machineryOk_reverseOrder (why : ReopenCause) : (reverseOrder f d why p).MachineryOk := by
  unfold reverseOrder; simp only
  split
  · exact h
  · split
    · exact machineryOk_enterReopening h f d why _
    · exact machineryOk_enterReopening h f d why _
    · next s =>
      have rest : (p.face f).doors[d.val].state.atRest := by
        rw [show (p.face f).doors[d.val].state = .reopening from s]; decide
      split
      · exact machineryOk_rests h f d _ rest (Door.pausesWell_of_none rfl)
      · exact machineryOk_onDoor_post h f d fun _ => rfl
    · exact h

theorem machineryOk_gapReopenOrder : (gapReopenOrder f d p).MachineryOk := by
  have counted : (onDoor f d (fun x => { x with gapReopens := x.gapReopens + 1 }) p).MachineryOk :=
    machineryOk_onDoor_post h f d fun _ => rfl
  unfold gapReopenOrder; simp only
  split
  all_goals first
    | exact machineryOk_reverseOrder counted f d _
    | exact machineryOk_returnToOpen counted f d
    | exact machineryOk_openOrder counted f d _ _
    | exact counted

theorem machineryOk_obstruction : (obstruction f d p).MachineryOk := by
  unfold obstruction; simp only
  split
  · exact machineryOk_enterReopening
      (machineryOk_onDoor_post h f d (g := fun x => { x with attempts := x.attempts + 1 }) fun _ => rfl) f d _ _
  · exact machineryOk_issueReverse (machineryOk_changesOut' h f d .report
      (g := fun x => { x.stopTimers.enter .obstructed with order := none, attempts := (p.face f).params.nObst }) fun _ => rfl) f d

theorem machineryOk_haltingStop : (haltingStop f d p).MachineryOk := by
  have stops : (issueStop f d (leaveMachinery f d (changeDoor f d .order (Door.standOpen true) p))).MachineryOk :=
    machineryOk_issueStop (machineryOk_changesOut' h f d _ fun _ => rfl) f d
  unfold haltingStop; simp only
  split
  · exact h
  · split
    · split
      · exact machineryOk_enterDiscrepant h.ordered _ _ _
      · exact stops
    all_goals first | exact stops | exact h

theorem machineryOk_takeoverStop : (takeoverStop f d p).MachineryOk := by
  have stops : (issueStop f d (leaveMachinery f d (changeDoor f d .order
      (fun x => { x.stopTimers.enter .preClose with order := none }) (leaveOperation f d .excluded p)))).MachineryOk :=
    machineryOk_issueStop (machineryOk_changesOut' (machineryOk_leaveOperation h f d _) f d _ fun _ => rfl) f d
  unfold takeoverStop; simp only
  split
  · exact h
  · split
    all_goals first | exact stops | exact h

theorem machineryOk_enterLost : (enterLost f d p).MachineryOk :=
  machineryOk_recomputeSecured (machineryOk_changesOut' h f d _ fun _ => rfl) f _ _

theorem machineryOk_setLate (late : Bool) : (setLate f d late p).MachineryOk :=
  machineryOk_changeDoor_post h f d _ fun _ => rfl

/-! ### Timers (R85, R87, R90, R92) -/

theorem machineryOk_unlockExpiry : (unlockExpiry f d p).MachineryOk := by
  have stopped : (onDoor f d (fun x => { x with unlockT := none }) p).MachineryOk := machineryOk_onDoor_post h f d fun _ => rfl
  unfold unlockExpiry; simp only
  repeat' split
  all_goals first
    | exact machineryOk_enterDiscrepant stopped.ordered _ _ _
    | exact stopped
    | exact h

theorem machineryOk_motionExpiry : (motionExpiry f d p).MachineryOk := by
  have stopped : (onDoor f d (fun x => { x with motionT := none }) p).MachineryOk := machineryOk_onDoor_post h f d fun _ => rfl
  unfold motionExpiry; simp only
  repeat' split
  all_goals first
    | exact machineryOk_enterDiscrepant stopped.ordered _ _ _
    | exact stopped
    | exact h

theorem machineryOk_lockProofExpiry : (lockProofExpiry f d p).MachineryOk := by
  have stopped : (onDoor f d (fun x => { x with lockProofT := none }) p).MachineryOk := machineryOk_onDoor_post h f d fun _ => rfl
  unfold lockProofExpiry; simp only
  repeat' split
  all_goals first
    | exact machineryOk_enterDiscrepant stopped.ordered _ _ _
    | exact stopped
    | exact h

/-- The end of an obstruction pause finds its door REOPENING, its key in AUTO: it may be queued (R92). -/
theorem machineryOk_pauseExpiry : (pauseExpiry f d p).MachineryOk := by
  unfold pauseExpiry
  split
  · next runs =>
    have fits := h.fits f d
    obtain ⟨state, key⟩ := fits.paused (by simpa [Option.isSome_iff_ne_none] using runs)
    have ended := onDoor_self f d p fun x => { x with pauseT := none }
    have stopped : (onDoor f d (fun x => { x with pauseT := none }) p).MachineryOk :=
      machineryOk_onDoor h f d ⟨fits.queued, fits.moving, Door.pausesWell_of_none rfl⟩
    have rest : ((onDoor f d (fun x => { x with pauseT := none }) p).face f).doors[d.val].state.atRest := by
      rw [ended, show ({ (p.face f).doors[d.val] with pauseT := none } : Door).state = .reopening from state]
      decide
    simp only
    split
    · split
      · exact machineryOk_rests stopped f d _ rest (Door.pausesWell_of_none rfl)
      · exact machineryOk_grantEvent (machineryOk_queueClose stopped f d _ _ rest (by rw [ended]; exact key))
    · exact stopped
  · exact h

theorem machineryOk_startExpiry : (startExpiry f d p).MachineryOk := by
  unfold startExpiry
  split
  · exact machineryOk_endStart (machineryOk_onDoor_post h f d (g := fun x => { x with startT := none }) fun _ => rfl) f d
  · exact h

end

end Sys2Proof.Machine

/-! A report judged, a face's doors out of the start machinery together, and the requests for a door keep the start machinery in
order (R6, R77, R78, R82, R95). -/

namespace Sys2Proof.Machine

/-! ### A report judged (R77, R78, R85) -/

/-- The door is in a state of no movement, and its start is not queued: where it starts still, its start phase ends with the
judgement that has put it there (R78, R85). -/
structure Part.Landed (f : Face) (d : DoorIx) (p : Part) : Prop where
  ordered : p.Ordered (· = ⟨f, d⟩)
  unqueued : p.unqueued f d
  still : ¬ (p.face f).doors[d.val].state.underWay
  paused : (p.face f).doors[d.val].pausesWell

/-- What the end of the start phase, judged last, puts in order. -/
def Part.Judgeable (f : Face) (d : DoorIx) (p : Part) : Prop := p.MachineryOk ∨ p.Landed f d

theorem travelled_of_still {s : DoorState} (h : ¬ s.underWay) (pos : Nat) : travelled s pos = true := by
  cases s <;> simp_all [travelled]

section
variable {f : Face} {d : DoorIx} {p : Part}

theorem machineryOk_judgeStart (rep : DoorReport) (h : p.Judgeable f d) : (judgeStart f d rep p).MachineryOk := by
  unfold judgeStart
  rcases h with h | landed
  · split
    · exact machineryOk_endStart h f d
    · exact h
  · rw [Fin.getElem_fin, if_pos (travelled_of_still landed.still rep.pos)]
    obtain ⟨out, stance⟩ := endStart_out landed.unqueued
    refine (ordered_endStart landed.ordered f d).out out ?_
    have seen : (p.face f).doors[d.val].stance.pausesWell := landed.paused
    rw [← stance] at seen
    exact seen

section
variable (h : p.MachineryOk) (rep : DoorReport)
include h

theorem machineryOk_uncommanded : (uncommanded f d rep p).MachineryOk := by
  unfold uncommanded
  split
  · exact h
  · exact machineryOk_enterDiscrepant h.ordered _ _ _

/-- A door whose start is not queued lands as it enters a state of no movement. -/
theorem landed_changeDoor {g : Door → Door} (c : DoorCause) (free : p.unqueued f d)
    (still : ¬ (g (p.face f).doors[d.val]).state.underWay) (paused : (g (p.face f).doors[d.val]).pausesWell) :
    (changeDoor f d c g p).Landed f d := by
  have stance := changeDoor_self f d p c g
  refine ⟨ordered_changeDoor h.ordered f d c g fun n => absurd rfl n, ?_, ?_, ?_⟩
  · unfold Part.unqueued
    rw [changeDoor_arb]
    exact free
  · have seen : ¬ (g (p.face f).doors[d.val]).stance.state.underWay := still
    rw [← stance] at seen
    exact seen
  · have seen : (g (p.face f).doors[d.val]).stance.pausesWell := paused
    rw [← stance] at seen
    exact seen

theorem landed_opensTo (free : p.unqueued f d) (b : Bool) : (opensTo f d b p).Landed f d :=
  landed_changeDoor h _ free (by decide : ¬ DoorState.opened.underWay) (Door.pausesWell_of_none rfl)

theorem landed_closeLocked (free : p.unqueued f d) (c : DoorCause) : (changeDoor f d c Door.closeLocked p).Landed f d :=
  landed_changeDoor h c free (by decide : ¬ DoorState.closedLocked.underWay)
    (Door.pausesWell_of_none rfl)

/-- A door in a movement goes on into another state of it. -/
theorem machineryOk_moves {g : Door → Door} (c : DoorCause) (free : p.unqueued f d)
    (key : (p.face f).doors[d.val].keyIso = false → (g (p.face f).doors[d.val]).keyIso = false)
    (moves : (g (p.face f).doors[d.val]).state.underWay) (rests : (g (p.face f).doors[d.val]).pauseT = none) :
    (changeDoor f d c g p).MachineryOk :=
  machineryOk_changeDoor h f d c ⟨fun e mem own => absurd own (free e mem),
    fun mem => ⟨key ((h.fits f d).moving mem).1, moves⟩, Door.pausesWell_of_none rests⟩

theorem judgeUnlocking_judgeable (state : (p.face f).doors[d.val].state = .unlocking) :
    (judgeUnlocking f d rep p).Judgeable f d := by
  have rules (q : Part) (k : q.MachineryOk) (s : (q.face f).doors[d.val].state = .unlocking) :
      (if !rep.locked && decide (rep.motion = .opening) then changeDoor f d .report (Door.enter .opening) q
        else if !rep.locked && rep.fullyOpen then opensTo f d false q
        else if !rep.locked && rep.stalled then opensTo f d true q
        else if rep.motion = .closing then uncommanded f d rep q
        else q).Judgeable f d := by
    have free : q.unqueued f d := (k.fits f d).unqueued (by rw [s]; decide) (by rw [s]; decide)
    split
    · exact .inl (machineryOk_moves k _ free id (.inr (.inl rfl)) ((k.fits f d).unpaused (by rw [s]; decide)))
    · split
      · exact .inr (landed_opensTo k free _)
      · split
        · exact .inr (landed_opensTo k free _)
        · split
          · exact .inl (machineryOk_uncommanded k rep)
          · exact .inl k
  unfold judgeUnlocking; simp only
  refine rules _ ?_ ?_
  · split
    · exact h
    · exact machineryOk_onDoor_post h f d (g := fun x => { x with unlockT := none }) fun _ => rfl
  · split
    · exact state
    · rw [onDoor_self]; exact state

theorem judgeOpening_judgeable (free : p.unqueued f d) :
    (judgeOpening f d rep p).Judgeable f d := by
  unfold judgeOpening
  split
  · exact .inr (landed_opensTo h free _)
  · split
    · exact .inr (landed_opensTo h free _)
    · split
      · exact .inl (machineryOk_uncommanded h rep)
      · exact .inl h

theorem judgeClosing_judgeable (free : p.unqueued f d) (state : (p.face f).doors[d.val].state = .closing) :
    (judgeClosing f d rep p).Judgeable f d := by
  unfold judgeClosing; simp only
  split
  · exact .inr (landed_closeLocked h free _)
  · split
    · exact .inl (machineryOk_moves h _ free id (.inr (.inr (.inr rfl))) ((h.fits f d).unpaused (by rw [state]; decide)))
    · split
      · exact .inl (machineryOk_obstruction h f d)
      · split
        · exact .inl (machineryOk_uncommanded h rep)
        · exact .inl h

theorem judgeProving_judgeable (free : p.unqueued f d) :
    (judgeProving f d rep p).Judgeable f d := by
  unfold judgeProving
  split
  · exact .inr (landed_closeLocked h free _)
  · split
    · exact .inl (machineryOk_uncommanded h rep)
    · exact .inl h

theorem machineryOk_judgeReopening (state : (p.face f).doors[d.val].state = .reopening)
    (key : (p.face f).doors[d.val].keyIso = false) : (judgeReopening f d rep p).MachineryOk := by
  have rest : (p.face f).doors[d.val].state.atRest := by rw [state]; decide
  unfold judgeReopening; simp only
  split
  · split
    · exact h
    · split
      · exact machineryOk_rests h f d _ rest fun _ => ⟨state, key⟩
      · exact machineryOk_rests h f d _ rest (Door.pausesWell_of_none rfl)
  · split
    · exact machineryOk_uncommanded h rep
    · exact h

theorem judgeState_judgeable (key : (p.face f).doors[d.val].keyIso = false) :
    (judgeState f d rep p).Judgeable f d := by
  have outside (c : Prop) [Decidable c] : (if c then uncommanded f d rep p else p).MachineryOk := by
    split
    · exact machineryOk_uncommanded h rep
    · exact h
  have inside (c : Prop) [Decidable c] : (if c then p else uncommanded f d rep p).MachineryOk := by
    split
    · exact h
    · exact machineryOk_uncommanded h rep
  have moving {s : DoorState} (state : (p.face f).doors[d.val].state = s) (ne : s ≠ .openQueued ∧ s ≠ .closeQueued) :
      p.unqueued f d := (h.fits f d).unqueued (by rw [state]; exact ne.1) (by rw [state]; exact ne.2)
  unfold judgeState; simp only
  split
  case h_1 => exact .inl (inside _)
  case h_2 =>
    split
    · exact .inl (outside _)
    · exact .inl (inside _)
  case h_8 s => exact judgeUnlocking_judgeable h rep s
  case h_9 s => exact judgeOpening_judgeable h rep (moving s ⟨nofun, nofun⟩)
  case h_10 s => exact judgeClosing_judgeable h rep (moving s ⟨nofun, nofun⟩) s
  case h_11 s => exact judgeProving_judgeable h rep (moving s ⟨nofun, nofun⟩)
  case h_12 s => exact .inl (machineryOk_judgeReopening h rep s key)
  all_goals first
    | exact .inl (outside _)
    | exact .inl h

end

theorem Door.keyFollow_pause (rep : DoorReport) {x : Door} (h : x.pauseT = none) : (x.keyFollow rep).pauseT = none := by
  unfold Door.keyFollow
  repeat' split
  all_goals first
    | rfl
    | exact h

section
variable (h : p.Ordered (· = ⟨f, d⟩)) (rep : DoorReport)
include h

/-- A door out of the start machinery, with no pause, whatever its record becomes. -/
theorem machineryOk_changesFree (out : p.outOfMachinery f d) (c : DoorCause) {g : Door → Door}
    (rests : (g (p.face f).doors[d.val]).pauseT = none) : (changeDoor f d c g p).MachineryOk := by
  refine (ordered_changeDoor h f d c g fun n => absurd rfl n).out (outOfMachinery_of_arb (changeDoor_arb ..) out) ?_
  have seen : (g (p.face f).doors[d.val]).stance.pausesWell := Door.pausesWell_of_none rests
  rw [← changeDoor_self f d p c g] at seen
  exact seen

theorem machineryOk_classify (out : p.outOfMachinery f d) (rests : (p.face f).doors[d.val].pauseT = none) :
    (classify f d rep p).MachineryOk := by
  unfold classify
  split
  · exact machineryOk_releaseDoor h _
  · split
    · exact machineryOk_enterDiscrepant h _ _ _
    · split
      · exact machineryOk_changesFree h out _ (Door.keyFollow_pause rep rests)
      · split
        · exact machineryOk_changesFree h out _ rfl
        · exact machineryOk_enterDiscrepant h _ _ _

theorem ordered_leaveOperation (o : DoorOutcome) : (leaveOperation f d o p).Ordered (· = ⟨f, d⟩) :=
  ordered_posts h f fun _ => rfl

theorem ordered_beginKey : (beginKey f d p).Ordered (· = ⟨f, d⟩) :=
  ordered_onDoor (ordered_leaveMachinery (ordered_leaveOperation h _) f d) f d fun n => absurd rfl n

/-- The lines of R78, with the key isolation before the report still shown to the arbiter. -/
theorem judgeLines_judgeable {oldKey : Bool} (fits : p.arb.Fits ⟨f, d⟩ { (p.face f).doors[d.val] with keyIso := oldKey }) :
    (judgeLines f d oldKey rep p).Judgeable f d := by
  have resting (rest : (p.face f).doors[d.val].state.atRest) (state : (p.face f).doors[d.val].state ≠ .reopening) :
      p.MachineryOk :=
    h.out (fits.at_rest rest) (Door.pausesWell_of_none (fits.unpaused state))
  unfold judgeLines; simp only
  split
  · exact .inl (machineryOk_releaseDoor h _)
  split
  · next s =>
    have s : (p.face f).doors[d.val].state = .released := s
    exact .inl (resting (by rw [s]; decide) (by rw [s]; decide))
  split
  · exact .inl (machineryOk_enterDiscrepant h _ _ _)
  split
  · next returned =>
    obtain ⟨queue, starting, rests⟩ := fits.keyed returned.1
    refine .inl ?_
    split
    · exact machineryOk_changesFree h ⟨queue, starting⟩ _ rfl
    · split
      · exact h.out ⟨queue, starting⟩ (Door.pausesWell_of_none rests)
      · exact machineryOk_enterDiscrepant h _ _ _
  next stays =>
  split
  · next s =>
    have s : (p.face f).doors[d.val].state = .discrepant := s
    exact .inl (resting (by rw [s]; decide) (by rw [s]; decide))
  split
  · refine .inl ?_
    split
    · next locked =>
      obtain ⟨queue, starting, rests⟩ := fits.keyed locked
      exact machineryOk_changesFree h ⟨queue, starting⟩ _ (Door.keyFollow_pause rep rests)
    · obtain ⟨out, stance⟩ := beginKey_out f d p
      exact machineryOk_changesFree (ordered_beginKey h) out _
        (Door.keyFollow_pause rep ((congrArg Door.pauseT stance :) : _ = (p.face f).doors[d.val].keyBegun.pauseT))
  next inside =>
  split
  · exact .inl (machineryOk_enterDiscrepant h _ _ _)
  · have key : (p.face f).doors[d.val].keyIso = false := Bool.eq_false_of_not_eq_true inside
    have old : oldKey = false := Bool.eq_false_of_not_eq_true fun locked => stays ⟨locked, key⟩
    refine judgeState_judgeable (h.machineryOk (fits.of_post ?_)) rep key
    rw [old, ← key]
    rfl

end
end

end Sys2Proof.Machine

/-! The face sequencer and the passenger sensing unit keep the start machinery in order (chapters 6 and 7). -/

namespace Sys2Proof.Machine

section
variable {p : Part} (h : p.MachineryOk) (f : Face)
include h

/-! ### What the end of an event also does -/

theorem machineryOk_report (r : Report) : (queueReport r p).MachineryOk := machineryOk_stillInv.report r p h

theorem machineryOk_enterBerth (new : BerthState) (c : BerthCause) : (enterBerth f new c p).MachineryOk :=
  enterBerth_inv machineryOk_stillInv f trivial new c h

theorem machineryOk_wakeFace : (wakeFace f p).MachineryOk := wakeFace_inv machineryOk_stillInv f trivial h

theorem machineryOk_enterAuto (c : ModeCause) : (enterAuto f c p).MachineryOk := enterAuto_inv machineryOk_stillInv f trivial c h

theorem machineryOk_takeLocalRequest : (takeLocalRequest f p).MachineryOk :=
  takeLocalRequest_inv machineryOk_stillInv f trivial h

theorem machineryOk_gapTo (new : GapState) (c : GapCause) (d : Option DoorIx) : (gapTo f new c d p).MachineryOk :=
  gapTo_inv machineryOk_stillInv f trivial new c d h

theorem machineryOk_queueGapReport (prev : GapState) (c : GapCause) (d : Option DoorIx) :
    (queueGapReport f prev c d p).MachineryOk := machineryOk_report h _

theorem machineryOk_concludeGap (g : GapOutcome) : (concludeGap f g p).MachineryOk :=
  concludeGap_inv machineryOk_stillInv f trivial g h

theorem machineryOk_endOpEarly (e : EndCause) : (endOpEarly f e p).MachineryOk :=
  endOpEarly_inv machineryOk_stillInv f trivial e h

/-! ### The face sequencer -/

theorem machineryOk_berthOpenNotice : (berthOpenNotice f p).MachineryOk := by
  have served : (p.modFace f fun r => r.modBerth fun b => { b with served := true }).MachineryOk :=
    machineryOk_doors h f fun _ => rfl
  unfold berthOpenNotice; simp only
  split
  all_goals first
    | exact machineryOk_enterBerth served f _ _
    | exact served

theorem machineryOk_abandonGap : (abandonGap f p).MachineryOk := by
  have ended : (p.modFace f endCycles).MachineryOk := machineryOk_doors h f fun _ => rfl
  unfold abandonGap; simp only
  split
  all_goals first
    | exact machineryOk_gapTo ended f _ _ _
    | exact ended

theorem machineryOk_overtakeClose (q : OpenReq) : (overtakeClose f q p).1.MachineryOk := by
  unfold overtakeClose
  split
  · exact h
  · split
    · exact h
    · simp only
      refine machineryOk_endOpEarly (machineryOk_abandonGap ?_ f) f _
      refine machineryOk_forDoors (fun d _ k => machineryOk_reverseOrder k f d _) _ ?_
      refine machineryOk_forDoors (fun d _ k => machineryOk_reverseOrder k f d _) _ ?_
      exact machineryOk_forDoors (fun d _ k => machineryOk_returnToOpen k f d) _ h

theorem machineryOk_takeOpen (q : OpenReq) : (takeOpen f q p).MachineryOk := by
  unfold takeOpen; simp only
  refine machineryOk_berthOpenNotice (machineryOk_grantEvent ?_) f
  refine machineryOk_forDoors (fun d _ k => machineryOk_openOrder k f d _ _) _ ?_
  exact machineryOk_doors (machineryOk_overtakeClose h f q) f fun _ => rfl

theorem machineryOk_overtakeOpen : (overtakeOpen f p).MachineryOk := by
  have withdrawn := machineryOk_forDoors (fun d _ k => machineryOk_withdrawDoor k f d) ((p.face f).targetsIn [.openQueued]) h
  exact machineryOk_ite
    (machineryOk_endOpEarly (machineryOk_forDoors (fun d _ k => machineryOk_takeoverStop k f d) _ withdrawn) f _) h

theorem machineryOk_leadToClose (d : DoorIx) : (leadToClose f d p).MachineryOk := by
  unfold leadToClose
  split
  all_goals first
    | exact machineryOk_takeoverStop h f d
    | exact machineryOk_beginWarning h f d
    | exact h

theorem machineryOk_takeClose (s : OpSource) (tag : Byte) : (takeClose f s tag p).MachineryOk := by
  have withdrawn (ds : List DoorIx) :=
    machineryOk_forDoors (fun d _ k => machineryOk_withdrawDoor k f d) ds (machineryOk_overtakeOpen h f)
  unfold takeClose; simp only
  refine machineryOk_doors (machineryOk_forDoors (fun d _ k => machineryOk_leadToClose k f d) _ (withdrawn _)) f ?_
  exact fun _ => rfl

theorem machineryOk_afterWarning (d : DoorIx) : (afterWarning f d p).MachineryOk :=
  machineryOk_ite (machineryOk_closeOrder h f d _ _) (machineryOk_holdOrder h f d)

theorem machineryOk_warningExpiry : (warningExpiry f p).MachineryOk := by
  unfold warningExpiry; simp only
  split
  · refine machineryOk_grantEvent (machineryOk_doors ?_ f fun _ => rfl)
    refine machineryOk_forDoors (fun d _ k => machineryOk_afterWarning k f d) _ ?_
    exact machineryOk_doors h f fun _ => rfl
  · exact h

theorem machineryOk_rewarn (d : DoorIx) : (rewarn f d p).MachineryOk := by
  unfold rewarn; simp only
  exact machineryOk_doors (machineryOk_beginWarning h f d) f fun _ => rfl

theorem machineryOk_sequencerRolling : (sequencerRolling f p).MachineryOk := by
  have withdrawn (ds : List DoorIx) := machineryOk_forDoors (fun d _ k => machineryOk_withdrawDoor k f d) ds h
  have halted (ds es : List DoorIx) := machineryOk_forDoors (fun d _ k => machineryOk_haltingStop k f d) es (withdrawn ds)
  unfold sequencerRolling; simp only
  refine machineryOk_endOpEarly (machineryOk_abandonGap (machineryOk_doors (machineryOk_forDoors
    (fun d _ k => machineryOk_returnToOpen k f d) _ (halted _ _)) f ?_) f) f _
  exact fun _ => rfl

theorem machineryOk_sequencerEmpty : (sequencerEmpty f p).MachineryOk := by
  have withdrawn (ds : List DoorIx) := machineryOk_forDoors (fun d _ k => machineryOk_withdrawDoor k f d) ds h
  unfold sequencerEmpty
  split
  · exact h
  · split
    · exact machineryOk_endOpEarly (machineryOk_forDoors (fun d _ k => machineryOk_haltingStop k f d) _ (withdrawn _)) f _
    · exact machineryOk_concludeGap h f _

theorem machineryOk_fireOrders (ds : List DoorIx) : (fireOrders f ds p).MachineryOk :=
  machineryOk_grantEvent (machineryOk_forDoors (fun d _ k => machineryOk_openOrder k f d _ _) _ h)

theorem machineryOk_fireOpenTest (ds : List DoorIx) : (fireOpenTest f ds p).MachineryOk := by
  have targeted (op : FaceRec → Option Op) : (p.modFace f fun r => { r with op := op r }).MachineryOk :=
    machineryOk_doors h f fun _ => rfl
  unfold fireOpenTest; simp only
  split
  · exact h
  · split
    · exact machineryOk_berthOpenNotice (machineryOk_fireOrders (targeted _) f _) f
    · split
      · exact machineryOk_fireOrders (targeted _) f _
      · exact h

/-! ### The passenger sensing unit -/

theorem machineryOk_gapFails (c : GapCause) (d : Option DoorIx) : (gapFails f c d p).MachineryOk :=
  machineryOk_concludeGap (machineryOk_gapTo h f _ _ _) f _

theorem machineryOk_gapReopen (d : DoorIx) : (gapReopen f d p).MachineryOk := by
  unfold gapReopen
  refine machineryOk_grantEvent (machineryOk_queueGapReport (machineryOk_gapReopenOrder ?_ f d) f _ _ _)
  exact machineryOk_doors h f fun _ => rfl

theorem machineryOk_judgeBlocked (d : DoorIx) : (judgeBlocked f d p).MachineryOk := by
  have judged := machineryOk_ite (c := (p.face f).doors[d].gapReopens < 2)
    (machineryOk_ite (c := (p.face f).doors[d].takesGapReopen = true) (machineryOk_gapReopen h f d)
      (machineryOk_gapFails h f .reopenRefused (some d)))
    (machineryOk_gapFails h f .reopensSpent (some d))
  unfold judgeBlocked; simp only
  split
  · split
    all_goals first
      | exact judged
      | exact h
  · exact h

theorem machineryOk_beamHandover (d : DoorIx) (i o : Bool) : (beamHandover f d i o p).MachineryOk := by
  have sensed : (p.modFace f fun r =>
      r.modSense d fun _ => (((p.face f).sense[d]).hand (p.face f).params i o).sense).MachineryOk :=
    machineryOk_doors h f fun _ => rfl
  have judged {q : Part} (k : q.MachineryOk) : (if (((p.face f).sense[d]).hand (p.face f).params i o).outerBlocked
      then judgeBlocked f d q else q).MachineryOk := machineryOk_ite (machineryOk_judgeBlocked k f d) k
  unfold beamHandover; simp only
  split
  · refine judged ?_
    split
    · exact sensed
    · next res _ =>
      have counted := machineryOk_onDoor_post sensed f d (g := fun x => { x with counts := x.counts.add res }) fun _ => rfl
      exact machineryOk_ite counted sensed
  · exact h

theorem machineryOk_settleHeld (d : DoorIx) : (settleHeld f d p).MachineryOk := by
  unfold settleHeld
  refine machineryOk_grantEvent (machineryOk_closeOrder ?_ f d _ _)
  exact machineryOk_doors h f fun _ => rfl

theorem machineryOk_quietExpiry (d : DoorIx) : (quietExpiry f d p).MachineryOk := by
  have stopped : (p.modFace f fun r => r.modSense d fun x => { x with quietT := none }).MachineryOk :=
    machineryOk_doors h f fun _ => rfl
  unfold quietExpiry; simp only
  repeat' split
  all_goals first
    | exact machineryOk_settleHeld stopped f d
    | exact machineryOk_rewarn stopped f d
    | exact stopped
    | exact h

theorem machineryOk_holdExpiry (d : DoorIx) : (holdExpiry f d p).MachineryOk := by
  have stopped : (p.modFace f fun r => r.modSense d fun x => { x with holdT := none }).MachineryOk :=
    machineryOk_doors h f fun _ => rfl
  unfold holdExpiry; simp only
  repeat' split
  all_goals first
    | exact machineryOk_grantEvent (machineryOk_closeOrder stopped f d _ _)
    | exact stopped
    | exact h

theorem machineryOk_endBeamSample (b : EndBeam) (x : Bool) : (endBeamSample f b x p).MachineryOk := by
  have sampled (g : GapRec → GapRec) : (p.modFace f fun r => r.modGap g).MachineryOk := machineryOk_doors h f fun _ => rfl
  unfold endBeamSample; simp only
  split
  · cases b
    · exact machineryOk_ite (machineryOk_gapFails (sampled _) f _ _) (sampled _)
    · exact machineryOk_ite (machineryOk_gapFails (sampled _) f _ _) (sampled _)
  · exact h

theorem machineryOk_gapExpiry : (gapExpiry f p).MachineryOk :=
  machineryOk_ite (machineryOk_concludeGap (machineryOk_gapTo h f _ _ _) f _) h

theorem machineryOk_endGapCheck (c : GapCause) : (endGapCheck f c p).MachineryOk := by
  have ended : (p.modFace f endCycles).MachineryOk := machineryOk_doors h f fun _ => rfl
  exact machineryOk_gapTo ended f _ _ _

end

end Sys2Proof.Machine

/-! The doors of a face out of the start machinery together (R6, R77), a report taken (R78), and the requests for a door
(R82, R95). -/

namespace Sys2Proof.Machine

/-! ### Every door of a face out of the start machinery (R6, R77) -/

section
variable {f : Face} {p : Part}

/-- The end of a door's start phase brings no unqueued door of its face into the starting set, and takes its own out. -/
theorem endStart_starting {e : DoorIx} (free : p.unqueued f e) (d : DoorIx) : (endStart f d p).unqueued f e ∧
    ((⟨f, e⟩ : DoorRef) ∈ (endStart f d p).arb.starting → (⟨f, e⟩ : DoorRef) ∈ p.arb.starting ∧ e ≠ d) := by
  unfold endStart
  split
  · have left (a : Part)
        (arb : a.arb = { p.arb with starting := p.arb.starting.filter fun x => decide (x ≠ (⟨f, d⟩ : DoorRef)) }) :
        (grantEvent (onDoor f d (fun x => { x with startT := none }) a)).unqueued f e ∧
          ((⟨f, e⟩ : DoorRef) ∈ (grantEvent (onDoor f d (fun x => { x with startT := none }) a)).arb.starting →
            (⟨f, e⟩ : DoorRef) ∈ p.arb.starting ∧ e ≠ d) := by
      have ended : (onDoor f d (fun x => { x with startT := none }) a).arb = a.arb := Part.modFace_arb ..
      have passes := grantEvent_passes (p := onDoor f d (fun x => { x with startT := none }) a) (f := f) (d := e)
        (by unfold Part.unqueued; rw [ended, arb]; exact free)
      refine ⟨passes.unqueued, fun starts => ?_⟩
      have before := passes.starting.mp starts
      rw [ended, arb] at before
      simpa using before
    exact left _ rfl
  · next out => exact ⟨free, fun starts => ⟨starts, fun same => out (by simpa [← same] using starts)⟩⟩

theorem forDoors_endStart_out {ds : List DoorIx} (free : ∀ e, p.unqueued f e)
    (starting : ∀ e, (⟨f, e⟩ : DoorRef) ∈ p.arb.starting → e ∈ ds) (e : DoorIx) :
    (forDoors ds (endStart f) p).outOfMachinery f e := by
  unfold forDoors
  induction ds generalizing p with
  | nil => exact ⟨free e, fun starts => absurd (starting e starts) List.not_mem_nil⟩
  | cons d ds ih =>
    refine ih (fun e => (endStart_starting (free e) d).1) fun e starts => ?_
    obtain ⟨before, other⟩ := (endStart_starting (free e) d).2 starts
    exact (List.mem_cons.mp (starting e before)).resolve_left other

theorem leaveMachineryAll_out (f : Face) (p : Part) (e : DoorIx) : (leaveMachineryAll f p).outOfMachinery f e := by
  unfold leaveMachineryAll
  refine forDoors_endStart_out (fun e x mem own => ?_) (fun e starts => ?_) e
  · have away : x.ref.face ≠ f := by simpa using List.of_mem_filter mem
    exact away (congrArg DoorRef.face own)
  · have starts : (⟨f, e⟩ : DoorRef) ∈ p.arb.starting := starts
    simpa [Part.startingOf, allDoors] using starts

/-- The start machinery is in order and holds no door of the face. -/
structure Part.Cleared (f : Face) (p : Part) : Prop where
  ok : p.MachineryOk
  out : ∀ d, p.outOfMachinery f d

theorem cleared_leaveMachineryAll (h : p.MachineryOk) (f : Face) : (leaveMachineryAll f p).Cleared f where
  ok := by
    unfold leaveMachineryAll
    exact machineryOk_forDoors (fun d _ k => machineryOk_endStart k f d) _ (machineryOk_leaveQueueAll h f)
  out := leaveMachineryAll_out f p

section
variable (h : p.Cleared f)
include h

theorem cleared_changeDoor (d : DoorIx) (c : DoorCause) {g : Door → Door} (rests : ∀ y, (g y).pauseT = none) :
    (changeDoor f d c g p).Cleared f :=
  ⟨machineryOk_changesFree h.ok.ordered (h.out d) c (rests _), fun e => outOfMachinery_of_arb (changeDoor_arb ..) (h.out e)⟩

theorem cleared_posts {g : FaceRec → FaceRec}
    (doors : ∀ d : DoorIx, (g (p.face f)).doors[d.val].post = (p.face f).doors[d.val].post) : (p.modFace f g).Cleared f :=
  ⟨machineryOk_posts h.ok f doors, fun e => outOfMachinery_of_arb (Part.modFace_arb ..) (h.out e)⟩

theorem cleared_forDoors {op : DoorIx → Part → Part} (each : ∀ d q, q.Cleared f → (op d q).Cleared f) (ds : List DoorIx) :
    (forDoors ds op p).Cleared f :=
  forDoors_closed (I := Part.Cleared f) op each ds h

end

end

section
variable {p : Part} (h : p.MachineryOk) (f : Face)
include h

theorem machineryOk_doorsEnumerated : (doorsEnumerated f p).MachineryOk := by
  unfold doorsEnumerated
  refine machineryOk_recomputeSecured (Part.Cleared.ok (f := f) ?_) f _ _
  refine cleared_forDoors (cleared_leaveMachineryAll h f) (fun d q k => ?_) _
  exact cleared_changeDoor (cleared_posts (g := leaveOp d .lost) k fun _ => rfl) d _ fun _ => rfl

/-! ### A report taken (R77, R78) -/

theorem machineryOk_fireDoorTest (d : DoorIx) (x : Door) : (fireDoorTest f d x p).MachineryOk := by
  unfold fireDoorTest; simp only
  split
  · exact machineryOk_fireOpenTest h f _
  · exact h

theorem machineryOk_judgeStored (d : DoorIx) (rep : DoorReport) {x : Door} (same : (p.face f).doors[d.val] = x) :
    (judgeStored f d rep x (storeReport f d rep p)).Judgeable f d := by
  have stored := storeReport_door (f := f) (d := d) (p := p) (rep := rep)
  have ordered : (storeReport f d rep p).Ordered (· = ⟨f, d⟩) :=
    ordered_changeDoor (X := (· = ⟨f, d⟩)) (ordered_onDoor h.ordered f d fun n => absurd rfl n) f d _ _ fun n => absurd rfl n
  have fits : (storeReport f d rep p).arb.Fits ⟨f, d⟩ x := by rw [storeReport_arb, ← same]; exact h.fits f d
  rw [same] at stored
  generalize storeReport f d rep p = q at stored ordered fits
  have unset (rest : x.state.atRest) (state : x.state ≠ .reopening) :
      q.outOfMachinery f d ∧ (q.face f).doors[d.val].pauseT = none :=
    ⟨fits.at_rest rest, (congrArg Door.pauseT stored :).trans (fits.unpaused state)⟩
  have proved (c : SecuredCause) (b : Bool) : (recomputeSecured f c b q).Ordered (· = ⟨f, d⟩) :=
    recomputeSecured_inv (ordered_stillInv _) f trivial c b ordered
  unfold judgeStored
  split
  · next unknown =>
    obtain ⟨out, rests⟩ := unset (by rw [unknown]; decide) (by rw [unknown]; decide)
    exact .inl (machineryOk_classify (proved _ _) rep (outOfMachinery_of_arb (recomputeSecured_arb ..) out)
      (by rw [recomputeSecured_doors]; exact rests))
  · next lost =>
    obtain ⟨out, rests⟩ := unset (by rw [lost]; decide) (by rw [lost]; decide)
    exact .inl (machineryOk_recomputeSecured (machineryOk_classify ordered rep out rests) f _ _)
  · refine judgeLines_judgeable (proved _ _) rep ?_
    rw [recomputeSecured_arb, recomputeSecured_doors]
    exact Arbiter.Fits.of_post (y := x)
      (congrArg (fun w : Door => ({ w with keyIso := x.keyIso } : Door).post) stored :) fits

theorem machineryOk_applyReport (d : DoorIx) (rep : DoorReport) : (applyReport f d rep p).MachineryOk := by
  have woken : (if reportWakes (p.face f).doors[d] rep then wakeFace f p else p).MachineryOk := by
    split
    · exact machineryOk_wakeFace h f
    · exact h
  exact machineryOk_fireDoorTest (machineryOk_judgeStart rep (machineryOk_judgeStored woken f d rep rfl)) f d _

/-! ### Requests for a door (R82, R95) -/

theorem machineryOk_setHostIso (d : DoorIx) (b : Bool) : (setHostIso f d b p).MachineryOk :=
  machineryOk_fireDoorTest (machineryOk_changeDoor_post h f d _ (g := fun x => { x with hostIso := b }) fun _ => rfl) f d _

theorem machineryOk_doorIsolate (d : Byte) : (doorIsolate f d p).2.MachineryOk := by
  unfold doorIsolate
  repeat' split
  all_goals first
    | exact machineryOk_setHostIso h f _ _
    | exact h

theorem machineryOk_doorReadmit (d : Byte) : (doorReadmit f d p).2.MachineryOk := by
  unfold doorReadmit
  split
  · exact h
  · exact machineryOk_setHostIso h f _ _

theorem machineryOk_closeAttempt (d : DoorIx) : (closeAttempt f d p).2.MachineryOk := by
  unfold closeAttempt
  split
  · exact h
  · refine machineryOk_grantEvent (machineryOk_closeOrder ?_ f d _ _)
    split
    · refine machineryOk_posts h f fun e => ?_
      show ((p.face f).modDoor d fun x => { x with attempts := 0 }).doors[e.val].post = _
      rw [FaceRec.modDoor_doors]
      split <;> rfl
    · exact h

/-- A door whose latch is cleared, out of the start machinery as every RELEASED door is. -/
theorem machineryOk_clearLatch (d : DoorIx) (out : p.outOfMachinery f d) (c : ClearCause) (t : DoorCause) :
    (clearLatch f d c t p).MachineryOk := by
  unfold clearLatch; simp only
  exact machineryOk_changesFree (machineryOk_report h _).ordered (outOfMachinery_of_arb (queueReport_arb ..) out) t
    (g := fun x => { x.closeLocked with latch := false }) rfl

omit h in
theorem clearLatch_arb (d : DoorIx) (c : ClearCause) (t : DoorCause) (p : Part) : (clearLatch f d c t p).arb = p.arb := by
  unfold clearLatch; simp only
  rw [changeDoor_arb, queueReport_arb]

theorem machineryOk_doorRestore (d : Byte) : (doorRestore f d p).2.MachineryOk := by
  unfold doorRestore
  split
  · exact h
  · next d _ =>
    simp only
    split
    · next released =>
      have released : (p.face f).doors[d.val].state = .released := released
      split
      · exact machineryOk_fireDoorTest (machineryOk_clearLatch h f d ((h.fits f d).at_rest (by rw [released]; decide)) _ _) f d _
      · exact h
    · next discrepant =>
      have discrepant : (p.face f).doors[d.val].state = .discrepant := discrepant
      split
      · exact h
      · split
        · exact machineryOk_fireDoorTest
            (machineryOk_rests h f d _ (by rw [discrepant]; decide) (Door.pausesWell_of_none rfl)) f d _
        · exact machineryOk_closeAttempt h f d
    · exact machineryOk_closeAttempt h f d
    · exact h

theorem machineryOk_clearLatches (ds : List DoorIx) (out : ∀ d ∈ ds, p.outOfMachinery f d) (c : ClearCause) (t : DoorCause) :
    (forDoors ds (fun d => clearLatch f d c t) p).MachineryOk := by
  unfold forDoors
  induction ds generalizing p with
  | nil => exact h
  | cons d ds ih =>
    refine ih (machineryOk_clearLatch h f d (out d List.mem_cons_self) c t) fun e mem => ?_
    exact outOfMachinery_of_arb (clearLatch_arb ..) (out e (List.mem_cons_of_mem d mem))

theorem machineryOk_panelDoorReset : (panelDoorReset f p).MachineryOk := by
  unfold panelDoorReset; simp only
  refine machineryOk_fireOpenTest (machineryOk_clearLatches h f _ (fun d mem => ?_) _ _) f _
  have released : (p.face f).doors[d.val].state = .released := by
    simpa using (mem_doorsIn.mp (List.mem_of_mem_filter mem)).2
  exact (h.fits f d).at_rest (by rw [released]; decide)

end

end Sys2Proof.Machine

/-! The alignment unit, the berth monitor, the door link, the face modes and the configuration store keep the start machinery in
order. -/

namespace Sys2Proof.Machine

/-! ### What the machinery reads of a face's doors -/

/-- What the start machinery reads of each door of a face. -/
def FaceRec.posts (r : FaceRec) (d : DoorIx) : DoorState × Bool × Option MoveOrder × Timer := r.doors[d.val].post

theorem FaceRec.modDoor_posts (r : FaceRec) (d : DoorIx) {g : Door → Door} (same : ∀ x, (g x).post = x.post) :
    (r.modDoor d g).posts = r.posts := by
  funext e
  unfold FaceRec.posts
  rw [FaceRec.modDoor_doors]
  split
  · next own => subst own; exact same _
  · rfl

theorem handCue_posts (d : DoorIx) (c : Cue) (r : FaceRec) : (handCue d c r).posts = r.posts := by
  unfold handCue
  split <;> rfl

theorem chooseCue_posts (d : DoorIx) (r : FaceRec) : (chooseCue d r).posts = r.posts := by
  unfold chooseCue; simp only
  split
  · rw [handCue_posts]
    exact r.modDoor_posts d fun _ => rfl
  · rfl

theorem handVerdict_posts (a : AlignRec) (d : DoorIx) (r : FaceRec) : (handVerdict a d r).posts = r.posts :=
  (chooseCue_posts ..).trans (r.modDoor_posts d fun _ => rfl)

theorem enterRunning_posts (r : FaceRec) : (enterRunning r).posts = r.posts :=
  foldl_keeps FaceRec.posts (fun r d => handCue d r.doors[d].cue r) (fun r d => handCue_posts d _ r) _ _

/-- What leaves the arbiter and the faces. -/
theorem machineryOk_same {p q : Part} (h : p.MachineryOk) (arb : q.arb = p.arb) (faces : ∀ f, q.face f = p.face f) :
    q.MachineryOk :=
  Part.machineryOk_iff.mpr ((Part.machineryOk_iff.mp h).same arb fun x => by unfold Part.door; rw [faces])

section
variable {p : Part} (h : p.MachineryOk) (f : Face)
include h

theorem machineryOk_modBerth (g : Berth → Berth) : (p.modFace f fun r => r.modBerth g).MachineryOk :=
  machineryOk_doors h f fun _ => rfl

theorem machineryOk_modLink (g : Link → Link) : (p.modFace f fun r => r.modLink g).MachineryOk :=
  machineryOk_doors h f fun _ => rfl

theorem machineryOk_modMode (g : ModeRec → ModeRec) : (p.modFace f fun r => r.modMode g).MachineryOk :=
  machineryOk_doors h f fun _ => rfl

theorem machineryOk_modHealth (d : DoorIx) (g : Health → Health) : (p.modFace f fun r => r.modHealth d g).MachineryOk :=
  machineryOk_doors h f fun _ => rfl

theorem machineryOk_modPanel (g : Panel → Panel) : (p.modFace f (modPanel g)).MachineryOk :=
  machineryOk_doors h f fun _ => rfl

/-! ### The alignment unit -/

theorem machineryOk_writeAlign (a : AlignRec) : (writeAlign f a p).MachineryOk :=
  machineryOk_posts h f fun d =>
    congrFun (foldl_keeps FaceRec.posts (fun r d => handVerdict a d r) (fun r d => handVerdict_posts a d r) _ _) d

theorem machineryOk_takeNotice : (takeNotice f p).MachineryOk := by
  unfold takeNotice
  split
  · exact machineryOk_takeOpen h f _
  · exact h

theorem machineryOk_noticeArrives : (noticeArrives f p).MachineryOk := by
  have dropped : (p.modFace f FaceRec.dropNotice).MachineryOk := machineryOk_doors h f fun _ => rfl
  exact machineryOk_ite (machineryOk_takeNotice dropped f) dropped

theorem machineryOk_noticeTest : (p.modFace f noticeTest).MachineryOk :=
  machineryOk_doors h f fun r => by
    unfold noticeTest
    split <;> rfl

theorem machineryOk_computeAlign (c : AlignCause) : (computeAlign f c p).MachineryOk := by
  unfold computeAlign; simp only
  exact machineryOk_noticeTest (machineryOk_fireOpenTest (machineryOk_report (machineryOk_writeAlign h f _) _) f _) f

theorem machineryOk_clearAlign (c : AlignCause) : (clearAlign f c p).MachineryOk := machineryOk_writeAlign h f _

theorem machineryOk_moveAlign (c : AlignCause) : (moveAlign f c p).MachineryOk := by
  unfold moveAlign; simp only
  exact machineryOk_report (machineryOk_writeAlign h f _) _

/-! ### The berth monitor -/

theorem machineryOk_clearDwell : (p.modFace f clearDwell).MachineryOk :=
  machineryOk_posts h f fun d => by simp [clearDwell, Door.post]

theorem machineryOk_queueCounts : (queueCounts f p).MachineryOk := machineryOk_report h _

theorem machineryOk_enterEmpty (c : BerthCause) : (enterEmpty f c p).MachineryOk := by
  unfold enterEmpty; simp only
  exact machineryOk_sequencerEmpty (machineryOk_endGapCheck (machineryOk_clearDwell (machineryOk_queueCounts
    (machineryOk_clearAlign (machineryOk_enterBerth (machineryOk_modBerth h f _) f _ _) f _) f) f) f _) f

theorem machineryOk_enterStopped (c : BerthCause) : (enterStopped f c p).MachineryOk := by
  unfold enterStopped; simp only
  refine machineryOk_computeAlign ?_ f _
  refine machineryOk_doors (machineryOk_enterBerth (machineryOk_modBerth h f _) f _ _) f ?_
  exact fun _ => rfl

theorem machineryOk_enterRolling : (enterRolling f p).MachineryOk :=
  machineryOk_sequencerRolling (machineryOk_moveAlign (machineryOk_enterBerth h f _ _) f _) f

theorem machineryOk_enterDeparting : (enterDeparting f p).MachineryOk :=
  machineryOk_moveAlign (machineryOk_enterBerth h f _ _) f _

theorem machineryOk_emptyIfVacant : (emptyIfVacant f p).MachineryOk := machineryOk_ite (machineryOk_enterEmpty h f _) h

theorem machineryOk_restartSettle : (p.modFace f restartSettle).MachineryOk := machineryOk_doors h f fun _ => rfl

theorem machineryOk_movement (b : Bool) : (movement f b p).MachineryOk := by
  unfold movement; simp only
  refine machineryOk_emptyIfVacant ?_ f
  split
  all_goals repeat' split
  all_goals first
    | exact h
    | exact machineryOk_enterBerth (machineryOk_modBerth h f _) f _ _
    | exact machineryOk_enterBerth h f _ _
    | exact machineryOk_restartSettle h f
    | exact machineryOk_enterDeparting h f
    | exact machineryOk_enterRolling h f
    | exact machineryOk_clearAlign (machineryOk_enterBerth h f _ _) f _

theorem machineryOk_queueAxleFault (s : AxleSensor) (x : AxleFault) (m : Option (AxlePos × AxlePos)) :
    (queueAxleFault f s x m p).MachineryOk := machineryOk_report h _

theorem machineryOk_countAxle (s : AxleSensor) (d : AxleDir) : (countAxle f s d p).MachineryOk := by
  have fault := machineryOk_queueAxleFault h f s
  have counted := machineryOk_modBerth h f
  unfold countAxle; simp only
  split
  · exact h
  · cases d
    · exact machineryOk_ite (fault _ _) (counted _)
    · exact machineryOk_ite (fault _ _) (counted _)

theorem machineryOk_axleCounted (s : AxleSensor) (d : AxleDir) : (axleCounted f s d p).MachineryOk := by
  have woken := machineryOk_ite (c := s = .entry ∧ d = .inward) (machineryOk_wakeFace h f) h
  exact machineryOk_movement (machineryOk_modBerth (machineryOk_countAxle woken f _ _) f _) f _

theorem machineryOk_axleSample (s : AxleSensor) (x y : Bool) : (axleSample f s x y p).MachineryOk := by
  have stored (u : AxleUnit) := machineryOk_modBerth h f fun b => b.setAxleUnit s u
  have restarted {q : Part} (k : q.MachineryOk) (c : Prop) [Decidable c] :=
    machineryOk_ite (c := c) (machineryOk_restartSettle k f) k
  have faulted {q : Part} (k : q.MachineryOk) (c : Prop) [Decidable c] (m : Option (AxlePos × AxlePos)) :=
    machineryOk_ite (c := c) (machineryOk_queueAxleFault k f s .decode m) k
  unfold axleSample; simp only
  split
  · split
    · split
      · exact faulted (restarted (stored _) _) _ _
      · exact machineryOk_axleCounted (faulted (restarted (stored _) _) _ _) f _ _
    · exact stored _
  · exact h

theorem machineryOk_detectorSample (i : Fin 16) (o : Bool) : (detectorSample f i o p).MachineryOk := by
  have sampled := machineryOk_modBerth h f
  unfold detectorSample; simp only
  split
  · exact h
  · exact machineryOk_ite (machineryOk_movement (sampled _) f _) (sampled _)

theorem machineryOk_settleUnreckoned : (settleUnreckoned f p).MachineryOk := by
  have reckoned := machineryOk_modBerth h f
  exact machineryOk_ite
    (machineryOk_ite (machineryOk_enterBerth (reckoned _) f _ _) (machineryOk_enterEmpty (reckoned _) f _))
    (machineryOk_ite (machineryOk_enterStopped (reckoned _) f _) h)

theorem machineryOk_settleExpiry : (settleExpiry f p).MachineryOk := by
  have stopped := machineryOk_modBerth h f fun b => { b with settle := none }
  unfold settleExpiry; simp only
  split
  · split
    · exact machineryOk_enterStopped stopped f _
    · exact machineryOk_ite (machineryOk_enterEmpty stopped f _) (machineryOk_enterStopped stopped f _)
    · exact machineryOk_settleUnreckoned stopped f
    all_goals exact stopped
  · exact h

theorem machineryOk_firstSample (s : TrackSample) : (firstSample f s p).MachineryOk := by
  have primed : (p.modFace f (primeTrack s)).MachineryOk := machineryOk_doors h f fun _ => rfl
  exact machineryOk_ite (machineryOk_ite (machineryOk_ite primed (machineryOk_enterEmpty primed f _))
    (machineryOk_enterBerth primed f _ _)) h

theorem machineryOk_takeAnnouncement (a : Announcement) : (takeAnnouncement f a p).MachineryOk := by
  have held := machineryOk_modBerth (machineryOk_wakeFace h f) f fun b => { b with ann := some a }
  have changed (g : FaceRec → FaceRec) (same : ∀ r, (g r).doors = r.doors) := machineryOk_doors held f same
  unfold takeAnnouncement; simp only
  split
  · exact machineryOk_enterBerth held f _ _
  · exact machineryOk_modBerth held f _
  · exact machineryOk_computeAlign (machineryOk_modBerth held f _) f _
  · exact changed _ fun _ => rfl
  all_goals exact held

theorem machineryOk_announceTrain (auto : Bool) (us : List (Byte × Byte)) : (announceTrain f auto us p).2.MachineryOk := by
  unfold announceTrain; simp only
  repeat' split
  all_goals first
    | exact machineryOk_takeAnnouncement h f _
    | exact h

theorem machineryOk_withdrawTrain : (withdrawTrain f p).2.MachineryOk := by
  have dropped := machineryOk_modBerth h f dropAnnouncement
  have restarted := machineryOk_restartSettle
    (machineryOk_modBerth h f fun b => { b with ann := none, unchecked := false, axles := 0 }) f
  rw [Part.modFace_modFace] at restarted
  unfold withdrawTrain; simp only
  split
  · exact h
  · split
    · exact machineryOk_enterEmpty h f _
    · exact dropped
    · exact machineryOk_computeAlign dropped f _
    · exact restarted
    all_goals exact h

theorem machineryOk_clearBerth : (clearBerth f p).2.MachineryOk := by
  unfold clearBerth; simp only
  repeat' split
  all_goals first
    | exact h
    | exact machineryOk_enterEmpty (machineryOk_modBerth h f _) f _

/-! ### The door link -/

theorem machineryOk_startEnumeration (tag : Byte) (b : Bool) : (startEnumeration f tag b p).MachineryOk := by
  unfold startEnumeration; simp only
  have begun : (p.modFace f fun r => (r.modLink (Link.startEnum tag)).modMode fun m =>
      { m with toAuto := b, wakeRound := false, heldNotice := false }).MachineryOk := machineryOk_doors h f fun _ => rfl
  exact machineryOk_doors (machineryOk_doorsEnumerated begun f) f (g := resetHealth) fun _ => rfl

theorem machineryOk_chainResetExpiry : (chainResetExpiry f p).MachineryOk := machineryOk_ite (machineryOk_modLink h f _) h

theorem machineryOk_chainSettleExpiry : (chainSettleExpiry f p).MachineryOk := by
  unfold chainSettleExpiry
  split
  · refine machineryOk_posts h f fun d => ?_
    simp only
    exact congrFun (foldl_keeps FaceRec.posts (fun r d => r.modHealth d fun h => { h with lastCue := some .dark })
      (fun _ _ => rfl) _ _) d
  · exact h

theorem machineryOk_standbyExpiry : (standbyExpiry f p).MachineryOk := machineryOk_ite (machineryOk_modLink h f _) h

theorem machineryOk_flashExpiry : (flashExpiry f p).MachineryOk := by
  unfold flashExpiry
  split
  · exact machineryOk_doors h f fun _ => rfl
  · exact h

theorem machineryOk_frameSent : (frameSent f p).MachineryOk := by
  unfold frameSent
  exact machineryOk_doors h f fun _ => rfl

/-! ### The face modes -/

theorem machineryOk_queueModeReport (prev : FaceMode) (c : ModeCause) : (queueModeReport f prev c p).MachineryOk :=
  machineryOk_report h _

/-- A change of the face's mode record, told of. -/
theorem machineryOk_modeTold (g : ModeRec → ModeRec) (prev : FaceMode) (c : ModeCause) :
    (queueModeReport f prev c (p.modFace f fun r => r.modMode g)).MachineryOk :=
  machineryOk_queueModeReport (machineryOk_modMode h f g) f prev c

theorem machineryOk_faceFireExit : (faceFireExit f p).MachineryOk := by
  have dropped : (p.modFace f FaceRec.dropNotice).MachineryOk := machineryOk_doors h f fun _ => rfl
  unfold faceFireExit; simp only
  split
  · split
    · have told := machineryOk_modeTold dropped f (fun m => { m with mode := .maint }) .fire .fireReset
      have begun := machineryOk_startEnumeration told f 0 true
      exact machineryOk_ite (machineryOk_modeTold begun f _ _ _) begun
    · exact machineryOk_ite (machineryOk_modeTold dropped f _ _ _) (machineryOk_modeTold dropped f _ _ _)
  · exact h

omit f in
theorem machineryOk_fireExit : (fireExit p).MachineryOk := by
  have ended : ({ p with fire := { p.fire with cause := none } } : Part).MachineryOk :=
    machineryOk_same h rfl fun _ => Part.face_mk ..
  exact machineryOk_faceFireExit (machineryOk_faceFireExit ended .A) .B

theorem machineryOk_modeByRequest (m : FaceMode) : (modeByRequest f m p).MachineryOk :=
  machineryOk_modeTold h f _ _ _

theorem machineryOk_enterStandby : (enterStandby f p).MachineryOk := by
  unfold enterStandby
  refine machineryOk_modeByRequest ?_ f _
  exact machineryOk_doors h f fun _ => rfl

theorem machineryOk_setFaceMode (m tag : Byte) : (setFaceMode f m tag p).2.MachineryOk := by
  unfold setFaceMode; simp only
  repeat' split
  all_goals first
    | exact h
    | exact machineryOk_startEnumeration h f tag true
    | exact machineryOk_modeByRequest h f .maint
    | exact machineryOk_enterStandby h f
    | exact machineryOk_wakeFace h f

theorem machineryOk_enumerateFace (tag : Byte) : (enumerateFace f tag p).2.MachineryOk := by
  unfold enumerateFace; simp only
  repeat' split
  all_goals first
    | exact h
    | exact machineryOk_startEnumeration h f tag false

theorem machineryOk_wakeRoundEnded : (wakeRoundEnded f p).MachineryOk := by
  unfold wakeRoundEnded
  refine machineryOk_doors h f fun r => ?_
  split <;> rfl

theorem machineryOk_maintMove (d : Byte) (b : Bool) : (maintMove f d b p).2.MachineryOk := by
  unfold maintMove; simp only
  split
  · exact h
  · split
    · exact h
    · exact machineryOk_grantEvent (machineryOk_ite (machineryOk_closeOrder h f _ _ _) (machineryOk_openOrder h f _ _ _))

theorem machineryOk_localActive : (localActive f p).MachineryOk := by
  unfold localActive; simp only
  split
  · exact machineryOk_takeLocalRequest h f
  · exact machineryOk_wakeFace h f
  · exact machineryOk_modeTold (machineryOk_ite (machineryOk_modMode h f _) (machineryOk_startEnumeration h f _ _)) f _ _ _
  all_goals exact h

theorem machineryOk_localDropped : (localDropped f p).MachineryOk := by
  unfold localDropped; simp only
  split
  · refine machineryOk_enterAuto ?_ f _
    exact machineryOk_doors h f fun _ => rfl
  · exact machineryOk_ite (machineryOk_modeTold h f _ _ _) h

/-! ### The panel -/

theorem machineryOk_localSample (b : Bool) : (localSample f b p).MachineryOk := by
  have sampled := machineryOk_modPanel h f fun q =>
    { q with localReq := ((p.face f).mode.panel.localReq.sample (p.face f).params.fPanel b).1 }
  exact machineryOk_ite (machineryOk_ite (machineryOk_localActive sampled f) (machineryOk_localDropped sampled f)) sampled

theorem machineryOk_panelOpen (s : OpSource) : (panelOpen f s p).MachineryOk := by
  unfold panelOpen; simp only
  split
  · exact machineryOk_takeOpen h f _
  · exact h

theorem machineryOk_panelClose : (panelClose f p).MachineryOk := by
  unfold panelClose
  split
  · exact machineryOk_takeClose h f _ _
  · exact h

theorem machineryOk_openEdge : (openEdge f p).MachineryOk := machineryOk_ite (machineryOk_panelOpen h f _) h

theorem machineryOk_closeEdge : (closeEdge f p).MachineryOk :=
  machineryOk_ite (machineryOk_ite (machineryOk_panelDoorReset h f) h) (machineryOk_ite (machineryOk_panelClose h f) h)

theorem machineryOk_openButtonSample (b : Bool) : (openButtonSample f b p).MachineryOk := by
  have sampled := machineryOk_modPanel h f fun q =>
    { q with pOpen := ((p.face f).mode.panel.pOpen.sample (p.face f).params.fPanel b).1 }
  exact machineryOk_ite (machineryOk_openEdge sampled f) sampled

theorem machineryOk_closeButtonSample (b : Bool) : (closeButtonSample f b p).MachineryOk := by
  have sampled := machineryOk_modPanel h f fun q =>
    { q with pClose := ((p.face f).mode.panel.pClose.sample (p.face f).params.fPanel b).1 }
  exact machineryOk_ite (machineryOk_closeEdge sampled f) sampled

theorem machineryOk_allButtonSample (b : Bool) : (allButtonSample f b p).MachineryOk := machineryOk_doors h f fun _ => rfl

theorem machineryOk_proofBypassChanged : (proofBypassChanged f p).MachineryOk := machineryOk_recomputeSecured h f _ _

theorem machineryOk_gapBypassChanged : (gapBypassChanged f p).MachineryOk := by
  have proved := machineryOk_recomputeSecured h f .bypass true
  exact machineryOk_ite (machineryOk_concludeGap proved f _) proved

theorem machineryOk_proofBypassSample (b : Bool) : (proofBypassSample f b p).MachineryOk := by
  have sampled := machineryOk_modPanel h f fun q =>
    { q with proofBypass := ((p.face f).mode.panel.proofBypass.sample (p.face f).params.fPanel b).1 }
  exact machineryOk_ite (machineryOk_proofBypassChanged sampled f) sampled

theorem machineryOk_gapBypassSample (b : Bool) : (gapBypassSample f b p).MachineryOk := by
  have sampled := machineryOk_modPanel h f fun q =>
    { q with gapBypass := ((p.face f).mode.panel.gapBypass.sample (p.face f).params.fPanel b).1 }
  exact machineryOk_ite (machineryOk_gapBypassChanged sampled f) sampled

theorem machineryOk_primePanel (s : PanelLevels) : (primePanel f s p).MachineryOk := by
  have primed := machineryOk_modPanel h f fun _ =>
    { localReq := .prime s.localReq, pOpen := .prime s.pOpen, pClose := .prime s.pClose, pAll := .prime s.pAll,
      proofBypass := .prime s.proofBypass, gapBypass := .prime s.gapBypass }
  have proof := machineryOk_ite (c := s.proofBypass = true) (machineryOk_proofBypassChanged primed f) primed
  have gap := machineryOk_ite (c := s.gapBypass = true) (machineryOk_gapBypassChanged proof f) proof
  exact machineryOk_ite (machineryOk_ite (machineryOk_localActive gap f) gap) h

end

end Sys2Proof.Machine

/-! The entry to fire, the configuration store, the poll cycle and the step keep the start machinery in order. -/

namespace Sys2Proof.Machine

theorem dropCloseResends_doors (r : FaceRec) : (dropCloseResends r).doors = r.doors :=
  foldl_keeps FaceRec.doors (fun r d => r.modHealth d Health.settled) (fun _ _ => rfl) _ _

section
variable {p : Part} (h : p.MachineryOk) (f : Face)
include h

/-! ### The entry to fire (R140, R141) -/

theorem machineryOk_fireAct (d : DoorIx) : (fireAct f d p).MachineryOk := by
  unfold fireAct; simp only
  split
  · exact machineryOk_returnToOpen h f d
  · exact machineryOk_returnToOpen h f d
  · exact machineryOk_ite (machineryOk_reverseOrder h f d _) (machineryOk_haltingStop h f d)
  · exact machineryOk_ite (machineryOk_reverseOrder h f d _) h
  · exact machineryOk_reverseOrder h f d _
  · exact h

theorem machineryOk_fireTable (pick : FaceRec → List DoorState → List DoorIx) : (fireTable f pick p).MachineryOk := by
  unfold fireTable
  exact machineryOk_forDoors (fun d _ k => machineryOk_fireAct k f d) _
    (machineryOk_forDoors (fun d _ k => machineryOk_withdrawDoor k f d) _ h)

theorem machineryOk_fireSteps : (fireSteps f p).MachineryOk := by
  have ended : (endOpEarly f .fire (fireTable f FaceRec.targetsIn (leaveQueueAll f p))).MachineryOk :=
    machineryOk_endOpEarly (machineryOk_fireTable (machineryOk_leaveQueueAll h f) f _) f _
  have warned := machineryOk_doors ended f (g := fun r => { r with warning := none }) fun _ => rfl
  have tabled := machineryOk_fireTable warned f FaceRec.doorsIn
  have dropped := machineryOk_doors tabled f (g := dropCloseFrames) fun _ => rfl
  exact machineryOk_fireOpenTest (machineryOk_abandonGap dropped f) f _

theorem machineryOk_enterFire (c : ModeCause) : (enterFire f c p).MachineryOk := by
  unfold enterFire; simp only
  refine machineryOk_fireSteps (machineryOk_queueModeReport (machineryOk_doors h f fun r => ?_) f _ _) f
  exact (dropCloseResends_doors _).trans (by split <;> rfl)

theorem machineryOk_faceFireEntry (c : ModeCause) : (faceFireEntry c f p).MachineryOk := by
  unfold faceFireEntry
  split
  · split
    all_goals first
      | exact machineryOk_enterFire h f c
      | exact h
  · exact h

omit f

theorem machineryOk_fire (x : Fire) : ({ p with fire := x } : Part).MachineryOk := machineryOk_same h rfl fun _ => Part.face_mk ..

theorem machineryOk_fireEntry (c : FireCause) : (fireEntry c p).MachineryOk :=
  machineryOk_ite h (machineryOk_faceFireEntry (machineryOk_faceFireEntry (machineryOk_fire h _) .A _) .B _)

theorem machineryOk_fireInSample (b : Bool) : (fireInSample b p).MachineryOk :=
  machineryOk_ite (machineryOk_fireEntry (machineryOk_fire h _) _) (machineryOk_fire h _)

theorem machineryOk_fireResetSample (b : Bool) : (fireResetSample b p).MachineryOk :=
  machineryOk_ite (machineryOk_fireExit (machineryOk_fire h _)) (machineryOk_fire h _)

theorem machineryOk_resetSample (s : ResetSample) : (resetSample s p).MachineryOk := by
  have primed := machineryOk_fire (machineryOk_primePanel (machineryOk_primePanel h .A s.panelA) .B s.panelB)
  exact machineryOk_ite h (machineryOk_ite (machineryOk_fireEntry (primed _) _) (primed _))

end

/-! ### The configuration store (R3 to R13) -/

section
variable {p : Part} (h : p.MachineryOk) (f : Face)
include h

theorem machineryOk_takeGeometry (g : Geometry) : (takeGeometry f g p).MachineryOk := by
  have configured : ((leaveMachineryAll f p).modFace f (FaceRec.configure g)).Cleared f :=
    cleared_posts (cleared_leaveMachineryAll h f) fun d => by simp [FaceRec.configure, Door.post]
  have aligned : (clearAlign f .config ((leaveMachineryAll f p).modFace f (FaceRec.configure g))).Cleared f := by
    unfold clearAlign writeAlign
    exact cleared_posts configured fun d =>
      congrFun (foldl_keeps FaceRec.posts (fun r d => handVerdict _ d r) (fun r d => handVerdict_posts _ d r) _ _) d
  have loaded (ds : List DoorIx) := cleared_forDoors aligned
    (fun d q (k : q.Cleared f) => cleared_changeDoor k d .config (g := Door.reconfigured) fun _ => rfl) ds
  exact machineryOk_doors (machineryOk_recomputeSecured (machineryOk_endGapCheck (loaded _).ok f _) f _ _) f fun _ => rfl

theorem machineryOk_loadGeometry (g : Geometry) : (loadGeometry f g p).2.MachineryOk := by
  unfold loadGeometry; simp only
  repeat' split
  all_goals first
    | exact h
    | exact machineryOk_takeGeometry h f g

theorem machineryOk_loadClasses (cs : Vector MotionClass 4) : (loadClasses f cs p).2.MachineryOk := by
  have stored : (p.modFace f fun r => { r with classes := mapVec MotionClass.clamped cs }).MachineryOk :=
    machineryOk_doors h f fun _ => rfl
  unfold loadClasses
  repeat' split
  all_goals first
    | exact h
    | exact stored

theorem machineryOk_loadFaceParams (sent : List Nat) : (loadFaceParams f sent p).2.MachineryOk := by
  have stored : (p.modFace f fun r =>
      lowerAttempts (clampFaceParams sent).nObst { r with params := clampFaceParams sent }).MachineryOk :=
    machineryOk_posts h f fun d => by simp [lowerAttempts, Door.post]
  unfold loadFaceParams; simp only
  repeat' split
  all_goals first
    | exact h
    | exact stored

omit f

theorem machineryOk_loadProfile (id : Nat) (pr : Profile) : (loadProfile id pr p).2.MachineryOk := by
  have stored (v : Vector (Option Profile) 8) : ({ p with profiles := v } : Part).MachineryOk :=
    machineryOk_same h rfl fun _ => Part.face_mk ..
  unfold loadProfile
  repeat' split
  all_goals first
    | exact h
    | exact stored _

theorem machineryOk_loadPartParams (sent : List Nat) : (loadPartParams sent p).2.MachineryOk :=
  machineryOk_grantEvent (machineryOk_same h rfl fun _ => Part.face_mk ..)

theorem machineryOk_takeSupplySample (code : Byte) : (takeSupplySample code p).MachineryOk := by
  have sampled : ({ p with supply := p.supply.sample p.params code } : Part).MachineryOk :=
    machineryOk_same h rfl fun _ => Part.face_mk ..
  exact machineryOk_ite sampled (machineryOk_grantEvent (machineryOk_report sampled _))

end

/-! ### The poll cycle (R61 to R65) -/

section
variable {p : Part} (h : p.MachineryOk) (f : Face)
include h

theorem machineryOk_enumerationCompleted : (enumerationCompleted f p).MachineryOk := by
  have cleared := machineryOk_modMode h f fun m => { m with toAuto := false }
  have entered := machineryOk_ite (c := p.fire.cause.isSome = true) (machineryOk_enterFire cleared f .enumerated)
    (machineryOk_enterAuto cleared f .enumerated)
  unfold enumerationCompleted; simp only
  split
  · split
    all_goals first
      | exact cleared
      | (rw [Part.modFace_fire]; exact entered)
  · exact h

theorem machineryOk_handOver (d : DoorIx) (st : StatusReply) (c : Confirm) : (handOver f d st c p).MachineryOk :=
  machineryOk_beamHandover (seqCheck_inv machineryOk_stillInv f trivial (machineryOk_applyReport h f d _)) f d _ _

theorem machineryOk_enumPollEnd (d : DoorIx) (o : PollOutcome) : (enumPollEnd f d o p).MachineryOk := by
  unfold enumPollEnd
  split
  · exact machineryOk_handOver (machineryOk_modHealth h f d _) f d _ _
  all_goals exact machineryOk_enterLost (machineryOk_modHealth h f d _) f d

theorem machineryOk_sweepDone : (sweepDone f p).MachineryOk := by
  unfold sweepDone
  exact machineryOk_enumerationCompleted
    (machineryOk_posts (machineryOk_report h _) f fun d => congrFun (enterRunning_posts _) d) f

theorem machineryOk_sweepPollEnd (pos : Nat) (o : PollOutcome) : (sweepPollEnd f pos o p).MachineryOk := by
  have next {q : Part} (k : q.MachineryOk) :
      (if pos ≥ 31 then sweepDone f q else q.modFace f fun r => r.modLink fun l => { l with pollPos := pos + 1 }).MachineryOk :=
    machineryOk_ite (machineryOk_sweepDone k f) (machineryOk_modLink k f _)
  unfold sweepPollEnd; simp only
  cases o
  · exact next (machineryOk_modLink h f _)
  · exact next (machineryOk_modLink h f _)
  · exact next h

theorem machineryOk_runAccepted (d : DoorIx) (st : StatusReply) : (runAccepted f d st p).MachineryOk := by
  have answered (b : Bool) (c : Confirm × Health × Option Resend) : (p.modFace f fun r =>
      if b then handCue d ((r.modHealth d fun _ => c.2.1).modLink (queueResend c.2.2)).doors[d].cue
        ((r.modHealth d fun _ => c.2.1).modLink (queueResend c.2.2))
      else (r.modHealth d fun _ => c.2.1).modLink (queueResend c.2.2)).MachineryOk := by
    refine machineryOk_posts h f fun e => ?_
    split
    · exact congrFun (handCue_posts d _ _) e
    · rfl
  unfold runAccepted; simp only
  exact machineryOk_handOver (machineryOk_ite (machineryOk_setLate (answered _ _) f d _) (answered _ _)) f d _ _

theorem machineryOk_runMissed (d : DoorIx) (x : LostReason) : (runMissed f d x p).MachineryOk := by
  unfold runMissed
  split
  · exact machineryOk_setLate (machineryOk_modHealth h f d _) f d _
  · unfold runLost; simp only
    refine machineryOk_enterLost (machineryOk_report ?_ _) f d
    exact machineryOk_doors h f fun _ => rfl
  · exact machineryOk_modHealth h f d _
  · exact h

theorem machineryOk_runPollEnd (d : DoorIx) (o : PollOutcome) : (runPollEnd f d o p).MachineryOk := by
  unfold runPollEnd
  split
  · exact machineryOk_runAccepted h f d _
  all_goals exact machineryOk_runMissed h f d _

theorem machineryOk_roundStep (x : Pace) (pos : Nat) : (roundStep f x pos p).MachineryOk := by
  unfold roundStep; simp only
  split
  · exact h
  · exact machineryOk_ite (machineryOk_modLink h f _) h
  · exact machineryOk_ite
      (machineryOk_ite (machineryOk_wakeRoundEnded (machineryOk_modLink h f _) f) (machineryOk_modLink h f _)) h

theorem machineryOk_pollEnd (pos : Nat) (o : PollOutcome) : (pollEnd f pos o p).MachineryOk := by
  have idle := machineryOk_modLink h f fun l => { l with line := .idle, replyTimer := none }
  unfold pollEnd; simp only
  split
  · split
    · exact machineryOk_doors (machineryOk_enumPollEnd idle f _ o) f (g := enumAdvance pos) fun _ => rfl
    · exact idle
  · exact machineryOk_sweepPollEnd idle f pos o
  · split
    · exact machineryOk_roundStep (machineryOk_runPollEnd idle f _ o) f _ _
    · exact idle
  all_goals exact idle

theorem machineryOk_replyReceived (bs : List Byte) : (replyReceived f bs p).MachineryOk := by
  unfold replyReceived; simp only
  split
  · exact machineryOk_ite h (machineryOk_ite (machineryOk_modLink h f _) (machineryOk_ite (machineryOk_pollEnd h f _ _) h))
  all_goals exact h

theorem machineryOk_replyExpiry : (replyExpiry f p).MachineryOk := by
  unfold replyExpiry
  split
  · exact machineryOk_ite (machineryOk_pollEnd h f _ _) h
  all_goals exact h

end

/-! ### The host link and the commands -/

section
variable {p : Part} (h : p.MachineryOk)
include h

theorem machineryOk_settle : (settle p).MachineryOk := settle_inv machineryOk_stillInv (fun _ => trivial) h

theorem machineryOk_serveFace (k : ReqKind) (f : Face) (tag : Byte) (pl : List Byte) :
    (serveFace k f tag pl p).part.MachineryOk := by
  cases k <;> simp only [serveFace, Served.of, Served.enquiry, Served.refused]
  case loadGeometry => exact machineryOk_loadGeometry h f _
  case loadFaceParams => exact machineryOk_loadFaceParams h f _
  case loadClasses => exact machineryOk_loadClasses h f _
  case announceTrain => exact machineryOk_announceTrain h f _ _
  case withdrawTrain => exact machineryOk_withdrawTrain h f
  case clearBerth => exact machineryOk_clearBerth h f
  case doorRestore => exact machineryOk_doorRestore h f _
  case doorIsolate => exact machineryOk_doorIsolate h f _
  case doorReadmit => exact machineryOk_doorReadmit h f _
  case maintMove => exact machineryOk_maintMove h f _ _
  case setFaceMode => exact machineryOk_setFaceMode h f _ _
  case enumerateFace => exact machineryOk_enumerateFace h f _
  case openFace =>
    unfold serveOpen; simp only
    split
    · exact h
    · exact machineryOk_takeOpen h f _
  case closeFace =>
    unfold serveClose
    split
    · exact h
    · exact machineryOk_takeClose h f _ _
  case enquireDoor =>
    unfold serveDoor
    repeat' split
    all_goals exact h
  all_goals exact h

theorem machineryOk_serve (k : ReqKind) (tag : Byte) (pl : List Byte) : (serve k tag pl p).part.MachineryOk := by
  have wide : (servePartWide k pl p).part.MachineryOk := by
    cases k <;> simp only [servePartWide, Served.of, Served.refused]
    case loadProfile => exact machineryOk_loadProfile h _ _
    case loadPartParams => exact machineryOk_loadPartParams h _
    case fireCommand => exact machineryOk_fireEntry h _
    case enquirePart =>
      unfold servePart
      repeat' split
      all_goals exact h
    all_goals exact h
  unfold serve Served.refused
  repeat' split
  all_goals first
    | exact h
    | exact wide
    | exact machineryOk_serveFace h k _ tag pl

end

section
variable {s : State} (h : s.part.MachineryOk)
include h

theorem machineryOk_dispatch : (dispatch s).part.MachineryOk := by
  have taken (fr : Frame) (rest : List Frame) : (dispatchFrame fr rest s).part.MachineryOk := by
    unfold dispatchFrame; simp only
    split
    · exact h
    · exact machineryOk_settle (machineryOk_serve h _ _ _)
  unfold dispatch
  repeat' split
  all_goals first
    | exact h
    | exact taken _ _

theorem machineryOk_transmit : (transmit s).part.MachineryOk := machineryOk_same h (transmit_arb s) fun f => transmit_face s f

theorem machineryOk_hostPump : (hostPump s).part.MachineryOk :=
  machineryOk_dispatch (machineryOk_transmit (machineryOk_dispatch h))

omit h in
theorem machineryOk_event {g : Part → Part} (h : (g s.part).MachineryOk) : (event g s).part.MachineryOk :=
  machineryOk_hostPump (s := { s with part := settle (g s.part) }) (machineryOk_settle h)

theorem machineryOk_faceEvent {f : Face} {g : Part → Part} (k : (g s.part).MachineryOk) : (faceEvent f g s).part.MachineryOk :=
  machineryOk_event (g := fun p => if p.present f then g p else p) (machineryOk_ite k h)

theorem machineryOk_frameArrives (fr : Frame) : (frameArrives fr s).part.MachineryOk :=
  machineryOk_hostPump (s := { s with host := offerFrame fr s.host }) h

end

/-- Every command keeps the start machinery in order. -/
theorem exec_machineryOk {c : Instr} {s t : State} (e : exec c s = .next t) (h : s.part.MachineryOk) : t.part.MachineryOk := by
  cases c <;> (injection e with e; subst e)
  case powerOn | resetPin => exact Part.reset_machineryOk _
  case requestReset =>
    unfold requestedReset
    split
    · exact Part.reset_machineryOk _
    · exact h
  case hostFrameSent =>
    unfold hostSent
    split
    · exact Part.reset_machineryOk _
    · exact machineryOk_hostPump h
  case hostByteReceived => exact machineryOk_hostPump h
  case byteGapTimerExpiry => exact h
  case firstSampleAfterReset => exact machineryOk_event (machineryOk_resetSample h _)
  case fireInRisingEdge => exact machineryOk_event (machineryOk_fireInSample h _)
  case fireResetRisingEdge => exact machineryOk_event (machineryOk_fireResetSample h _)
  case fireInputFall x =>
    refine machineryOk_event ?_
    cases x
    · exact machineryOk_fireInSample h _
    · exact machineryOk_fireResetSample h _
  case supplyLevelChange => exact machineryOk_event (machineryOk_takeSupplySample h _)
  case chainResetTimerExpiry => exact machineryOk_faceEvent h (machineryOk_chainResetExpiry h _)
  case chainSettleTimerExpiry => exact machineryOk_faceEvent h (machineryOk_chainSettleExpiry h _)
  case doorLinkFrameSent => exact machineryOk_faceEvent h (machineryOk_frameSent h _)
  case statusReplyReceived => exact machineryOk_faceEvent h (machineryOk_replyReceived h _ _)
  case replyTimerExpiry => exact machineryOk_faceEvent h (machineryOk_replyExpiry h _)
  case standbyRoundTimerExpiry => exact machineryOk_faceEvent h (machineryOk_standbyExpiry h _)
  case flashTimerExpiry => exact machineryOk_faceEvent h (machineryOk_flashExpiry h _)
  case axleHeadChange => exact machineryOk_faceEvent h (machineryOk_axleSample h _ _ _ _)
  case stopDetectorChange => exact machineryOk_faceEvent h (machineryOk_detectorSample h _ _ _)
  case configurationFirstSample => exact machineryOk_faceEvent h (machineryOk_firstSample h _ _)
  case settleTimerExpiry => exact machineryOk_faceEvent h (machineryOk_settleExpiry h _)
  case automaticOpeningNotice => exact machineryOk_faceEvent h (machineryOk_noticeArrives h _)
  case unlockTimerExpiry => exact machineryOk_faceEvent h (machineryOk_unlockExpiry h _ _)
  case motionTimerExpiry => exact machineryOk_faceEvent h (machineryOk_motionExpiry h _ _)
  case lockProofTimerExpiry => exact machineryOk_faceEvent h (machineryOk_lockProofExpiry h _ _)
  case obstructionPauseTimerExpiry => exact machineryOk_faceEvent h (machineryOk_pauseExpiry h _ _)
  case startTimerExpiry => exact machineryOk_faceEvent h (machineryOk_startExpiry h _ _)
  case warningTimerExpiry => exact machineryOk_faceEvent h (machineryOk_warningExpiry h _)
  case beamChange => exact machineryOk_faceEvent h (machineryOk_beamHandover h _ _ _ _)
  case quietTimerExpiry => exact machineryOk_faceEvent h (machineryOk_quietExpiry h _ _)
  case holdTimerExpiry => exact machineryOk_faceEvent h (machineryOk_holdExpiry h _ _)
  case gapEndBeamChange => exact machineryOk_faceEvent h (machineryOk_endBeamSample h _ _ _)
  case gapTimerExpiry => exact machineryOk_faceEvent h (machineryOk_gapExpiry h _)
  case localRequestChange => exact machineryOk_faceEvent h (machineryOk_localSample h _ _)
  case pOpenEdge => exact machineryOk_faceEvent h (machineryOk_openButtonSample h _ _)
  case pCloseEdge => exact machineryOk_faceEvent h (machineryOk_closeButtonSample h _ _)
  case pAllChange => exact machineryOk_faceEvent h (machineryOk_allButtonSample h _ _)
  case proofBypassChange => exact machineryOk_faceEvent h (machineryOk_proofBypassSample h _ _)
  case gapBypassChange => exact machineryOk_faceEvent h (machineryOk_gapBypassSample h _ _)
  all_goals exact machineryOk_frameArrives h _

end Sys2Proof.Machine

namespace Sys2Proof.Proofs

open Sys2Proof.Machine

/-- Settles O11: every command keeps the start machinery in order. -/
theorem stepKeepsMachinery : Obligations.StepKeepsMachinery := by
  intro s t h e
  rcases step_cases e with rfl | ⟨c, rest, e⟩
  · exact h
  · exact exec_machineryOk e h

end Sys2Proof.Proofs

/-! The timers of a door's movement (R85, R87, R90, R92, R94, R117, R142). -/

namespace Sys2Proof.Machine

/-! ### A DOOR report that no later report of the event replaces (R76, R170) -/

section
variable {x : Report} {p : Part} (h : p.told x)
include h

theorem told_modFace (f : Face) (g : FaceRec → FaceRec) : (p.modFace f g).told x := by cases f <;> exact h

/-- A report of another kind, or of another door, replaces none of this door. -/
theorem told_report {r : Report} (aside : r.sameDoor x = false) : (queueReport r p).told x :=
  h.elim (fun lost => .inl (queueReport_loss r p lost)) fun mem => queueReport_keeps r x p mem aside

theorem told_ite {c : Prop} [Decidable c] {q : Part} (k : q.told x) : (if c then p else q).told x := by
  split
  · exact h
  · exact k

theorem told_recomputeSecured (f : Face) (c : SecuredCause) (b : Bool) : (recomputeSecured f c b p).told x := by
  have set := told_modFace h f fun r => { r with secured := (p.face f).proofMet }
  unfold recomputeSecured; simp only
  split
  · exact told_report set rfl
  · exact set

theorem told_gapTo (f : Face) (new : GapState) (c : GapCause) (d : Option DoorIx) : (gapTo f new c d p).told x :=
  told_ite (told_modFace h f _)
    (told_recomputeSecured (told_report (told_modFace (told_modFace h f _) f _) rfl) f _ _)

theorem told_gapPending (f : Face) (c : GapCause) (d : Option DoorIx) : (gapPending f c d p).told x := by
  unfold gapPending
  split
  · exact told_gapTo h f _ _ _
  · exact told_gapTo h f _ _ _
  all_goals exact h

theorem told_doorGap (f : Face) (d : DoorIx) (new : DoorState) : (doorGap f d new p).told x := by
  have resumed (r : Report) (aside : r.sameDoor x = false) := told_recomputeSecured (told_report (told_modFace
    (told_modFace h f fun r => r.modGap fun g => { g with state := .running, timer := none }) f
    fun r => r.modMode fun m => { m with alarm := false }) aside) f .gap false
  unfold doorGap; simp only
  repeat' split
  all_goals first
    | exact h
    | exact told_gapTo h f _ _ _
    | exact told_gapPending h f _ _
    | exact resumed _ rfl

/-- A change of another door. -/
theorem told_changeDoor (f : Face) (d : DoorIx) (c : DoorCause) (g : Door → Door) (other : x.doorKey ≠ some ⟨f, d⟩) :
    (changeDoor f d c g p).told x := by
  have aside (y : DoorChange) : (Report.door f d y).sameDoor x = false := decide_eq_false other
  have changed := told_modFace h f fun r => r.modDoor d fun _ => g (p.face f).doors[d]
  have reported := told_ite (c := (p.face f).doors[d].reported = (g (p.face f).doors[d]).reported) changed
    (told_report changed (aside (doorChange (g (p.face f).doors[d]) c
      ((p.modFace f fun r => r.modDoor d fun _ => g (p.face f).doors[d]).face f).berth.dwell)))
  exact told_modFace (told_ite reported (told_doorGap (told_modFace reported f _) f d _)) f _

theorem told_queueModeReport (f : Face) (prev : FaceMode) (c : ModeCause) : (queueModeReport f prev c p).told x :=
  told_report h rfl

theorem told_grantHandover (f : Face) : (grantHandover f p).told x := told_queueModeReport (told_modFace h f _) f _ _

theorem told_takeLocalRequest (f : Face) : (takeLocalRequest f p).told x :=
  told_ite (told_ite (told_grantHandover h f) (told_ite h (told_queueModeReport (told_modFace h f _) f _ _))) h

theorem told_enterAuto (f : Face) (c : ModeCause) : (enterAuto f c p).told x :=
  told_takeLocalRequest (told_queueModeReport (told_modFace h f _) f _ c) f

theorem told_wakeFace (f : Face) : (wakeFace f p).told x := told_ite (told_enterAuto (told_modFace h f _) f _) h

theorem told_berthGap (f : Face) (prev new : BerthState) : (berthGap f prev new p).told x := by
  unfold berthGap
  split
  · exact told_gapPending h f _ _
  · exact told_ite (told_gapPending h f _ _) h
  · exact told_ite (told_gapPending h f _ _) h
  · exact h

theorem told_enterBerth (f : Face) (new : BerthState) (c : BerthCause) : (enterBerth f new c p).told x := by
  have entered := told_modFace (told_ite (c := new = (p.face f).berth.state) h (told_wakeFace h f)) f fun r =>
    refreshCues (r.modBerth fun b => { b with state := new, settle := settleAtEntry r new })
  exact told_berthGap (told_ite entered (told_report entered rfl)) f _ _

theorem told_endOp (f : Face) (e : EndCause) (g : GapOutcome) : (endOp f e g p).told x := by
  unfold endOp
  split
  · exact h
  · next op _ =>
    have ended := told_modFace (told_report h (r := .opDone f op e g) rfl) f fun r => { r with op := none }
    simp only
    split
    · exact ended
    · exact told_ite (told_enterBerth ended f _ _) ended

theorem told_concludeGap (f : Face) (g : GapOutcome) : (concludeGap f g p).told x := by
  unfold concludeGap
  split
  · exact h
  · exact told_ite (told_endOp (told_modFace h f _) f _ _) h

theorem told_enterGapWait (f : Face) (op : Op) : (enterGapWait f op p).told x := by
  have waits := told_modFace h f fun r => { r with op := some { op with phase := some .gapWait } }
  have started := told_ite
    (c := ((p.modFace f fun r => { r with op := some { op with phase := some .gapWait } }).face f).gap.state = .pending)
    (told_gapTo waits f .running .targetsTerminal none) waits
  exact told_ite (told_concludeGap started f _) started

/-- The end of an event queues no DOOR report. -/
theorem told_seqCheck (f : Face) : (seqCheck f p).told x := by
  unfold seqCheck
  split
  · exact h
  · split
    · split
      · exact told_endOp h f _ _
      · split
        · exact told_endOp h f _ _
        · exact told_endOp h f _ _
        · exact told_endOp h f _ _
        · exact told_enterGapWait h f _
        · exact told_enterGapWait h f _
      · exact h
    · exact h

theorem told_settleFace (f : Face) : (settleFace f p).told x := by
  have updated : (gapUpdate f (seqCheck f p)).told x :=
    told_modFace (told_ite (told_gapTo (told_seqCheck h f) f _ _ _) (told_seqCheck h f)) f _
  exact told_ite (told_grantHandover updated f) updated

theorem told_settle : (settle p).told x :=
  told_modFace (told_modFace (told_settleFace (told_settleFace h .A) .B) .A _) .B _

end

end Sys2Proof.Machine

/-! The DOOR report of a door that becomes DISCREPANT, and its start timer, through the grants of other doors (R76, R94, R117). -/

namespace Sys2Proof.Machine

/-! ### Grants of other doors -/

section
variable {f : Face} {d : DoorIx} {p : Part}

theorem told_onDoor {x : Report} (h : p.told x) (f : Face) (d : DoorIx) (g : Door → Door) : (onDoor f d g p).told x :=
  told_modFace h f _

theorem told_grantDoor {x : Report} (h : p.told x) {e : QEntry} (other : x.doorKey ≠ some e.ref) (codes : Codes) :
    (grantDoor e codes p).told x := by
  unfold grantDoor
  exact told_changeDoor (p := { p with arb := { queue := p.arb.queue.filter fun b => decide (b.ref ≠ e.ref)
                                                starting := p.arb.starting ++ [e.ref] } }) h _ _ _ _ other

/-- A part in which no start of the door is queued, and the door's DOOR report stands. -/
theorem grantEvent_told {y : DoorChange} (free : p.unqueued f d) (h : p.told (.door f d y)) :
    (grantEvent p).told (.door f d y) := by
  refine And.right (grantEvent_kept (I := fun q => q.unqueued f d ∧ q.told (.door f d y)) (fun e codes q mem k => ?_)
    (fun f' a ts q k => ?_) ⟨free, h⟩)
  · obtain ⟨unqueued, told⟩ := k
    have other := unqueued e mem
    exact ⟨(grantDoor_passes unqueued other codes).unqueued,
      told_grantDoor told (fun same => other (Option.some.inj same).symm) codes⟩
  · exact ⟨by unfold Part.unqueued; rw [Part.modFace_arb]; exact k.1, told_modFace k.2 f' _⟩

theorem endStart_told {y : DoorChange} (free : p.unqueued f d) (h : p.told (.door f d y)) :
    (endStart f d p).told (.door f d y) := by
  unfold endStart
  split
  · refine grantEvent_told ?_ (told_onDoor (p := { p with arb := { p.arb with
      starting := p.arb.starting.filter fun x => decide (x ≠ (⟨f, d⟩ : DoorRef)) } }) h f d _)
    unfold Part.unqueued onDoor
    rw [Part.modFace_arb]
    exact free
  · exact h

/-- The start timer of a door, as a grant event of others leaves it. -/
theorem changeDoor_startT (f : Face) (d : DoorIx) (c : DoorCause) (g : Door → Door) (p : Part) (x : DoorRef) :
    ((changeDoor f d c g p).door x).startT = if x = ⟨f, d⟩ then (g (p.face f).doors[d.val]).startT else (p.door x).startT := by
  obtain ⟨f', e⟩ := x
  unfold Part.door; simp only
  by_cases own : f' = f
  · subst own
    obtain ⟨r, face, base⟩ := changeDoor_face f' d c g p
    have doors : r.doors = ((p.face f').modDoor d fun _ => g (p.face f').doors[d.val]).doors := (congrArg FaceRec.doors base :)
    have cued (r : FaceRec) (d : DoorIx) (c : Cue) : (r.modDoor d fun x => { x with cue := c }).doors[e.val].startT =
        r.doors[e.val].startT := by
      rw [FaceRec.modDoor_doors]
      split
      · next same => subst same; rfl
      · rfl
    rw [face, chooseCue_view (fun r => r.doors[e.val].startT) cued fun _ _ _ => rfl]
    simp only [doors, FaceRec.modDoor_doors]
    by_cases same : d = e
    · subst same; rw [if_pos rfl, if_pos rfl]
    · rw [if_neg same, if_neg fun q => same (congrArg DoorRef.door q).symm]
  · rw [if_neg fun q => own (congrArg DoorRef.face q), changeDoor_other (Ne.symm own)]

theorem grantEvent_startT (free : p.unqueued f d) :
    ((grantEvent p).face f).doors[d.val].startT = (p.face f).doors[d.val].startT := by
  refine And.right (grantEvent_kept
    (I := fun q => q.unqueued f d ∧ (q.face f).doors[d.val].startT = (p.face f).doors[d.val].startT)
    (fun e codes q mem k => ?_) (fun f' a ts q k => ?_) ⟨free, rfl⟩)
  · obtain ⟨unqueued, same⟩ := k
    have other := unqueued e mem
    refine ⟨(grantDoor_passes unqueued other codes).unqueued, ?_⟩
    have kept := changeDoor_startT e.ref.face e.ref.door .grant (Door.granted e.action q.params.tStart codes.timeout)
      { q with arb := { queue := q.arb.queue.filter fun b => decide (b.ref ≠ e.ref), starting := q.arb.starting ++ [e.ref] } }
      ⟨f, d⟩
    unfold Part.door at kept
    rw [if_neg (Ne.symm other), Part.face_mk] at kept
    exact kept.trans same
  · refine ⟨by unfold Part.unqueued; rw [Part.modFace_arb]; exact k.1, ?_⟩
    exact (q.modFace_keeps (fun r => r.doors[d.val].startT) f' f _ fun r => by rw [placeMove_doors]).trans k.2

/-- The end of a start phase stops the start timer of a door that has one (R85). -/
theorem endStart_startT (free : p.unqueued f d)
    (starts : (⟨f, d⟩ : DoorRef) ∈ p.arb.starting ∨ (p.face f).doors[d.val].startT = none) :
    ((endStart f d p).face f).doors[d.val].startT = none := by
  unfold endStart
  split
  · rw [grantEvent_startT, onDoor_self]
    unfold Part.unqueued onDoor
    rw [Part.modFace_arb]
    exact free
  · next out => exact starts.resolve_left fun inside => out (by simpa using inside)

end

/-! ### A movement or a timer fails (R94) -/

section
variable {f : Face} {d : DoorIx} {p : Part}

theorem enterDiscrepant_eq (why : DiscCause) (t : DoorCause) (stop : Bool) : enterDiscrepant f d why t stop p =
    if stop then issueStop f d (leaveMachinery f d (changeDoor f d t (Door.discrepant why) p))
    else leaveMachinery f d (changeDoor f d t (Door.discrepant why) p) := rfl

theorem enterDiscrepant_startT (why : DiscCause) (t : DoorCause) (stop : Bool) :
    ((enterDiscrepant f d why t stop p).face f).doors[d.val].startT = none := by
  have changed := changeDoor_startT f d t (Door.discrepant why) p ⟨f, d⟩
  rw [if_pos rfl] at changed
  have left : ((leaveMachinery f d (changeDoor f d t (Door.discrepant why) p)).face f).doors[d.val].startT = none := by
    refine endStart_startT (fun e mem => by simpa using List.of_mem_filter mem) (.inr ?_)
    rw [Part.face_mk]
    exact changed
  rw [enterDiscrepant_eq]
  split
  · exact (congrArg (fun ds : Vector Door 24 => ds[d.val].startT) (issueStop_doors ..)).trans left
  · exact left

/-- The DOOR report of a door that becomes DISCREPANT is told of (R76, R94). -/
theorem enterDiscrepant_told (why : DiscCause) (t : DoorCause) (stop : Bool)
    (moves : (p.face f).doors[d.val].state ≠ .discrepant) :
    (enterDiscrepant f d why t stop p).told
      (.door f d (doorChange ((p.face f).doors[d.val].discrepant why) t (p.face f).berth.dwell)) := by
  have changed : (changeDoor f d t (Door.discrepant why) p).told
      (.door f d (doorChange ((p.face f).doors[d.val].discrepant why) t (p.face f).berth.dwell)) := by
    have differs : (p.face f).doors[d.val].reported ≠ ((p.face f).doors[d.val].discrepant why).reported :=
      fun same => moves (congrArg Prod.fst same)
    have reported := queueReport_told (.door f d (doorChange ((p.face f).doors[d.val].discrepant why) t (p.face f).berth.dwell))
      (p.modFace f fun r => r.modDoor d fun _ => (p.face f).doors[d.val].discrepant why)
    unfold changeDoor; simp only [Fin.getElem_fin]
    rw [if_neg differs, Part.modFace_self]
    exact told_modFace (told_ite reported (told_doorGap (told_modFace reported f _) f d _)) f _
  have left := endStart_told (p := { changeDoor f d t (Door.discrepant why) p with
      arb := { (changeDoor f d t (Door.discrepant why) p).arb with
        queue := (changeDoor f d t (Door.discrepant why) p).arb.queue.filter fun x => decide (x.ref ≠ ⟨f, d⟩) } })
    (fun e mem => by simpa using List.of_mem_filter mem) changed
  rw [enterDiscrepant_eq]
  refine told_ite ?_ left
  unfold issueStop
  exact told_ite left (told_modFace left f _)

end

end Sys2Proof.Machine

/-! A movement that fails at a timer, and a door queued to close, to the end of the event (R92, R94). -/

namespace Sys2Proof.Machine

/-! ### The timers of a movement (R85, R87, R90) -/

theorem settle_startT (f : Face) (d : DoorIx) (p : Part) :
    ((settle p).face f).doors[d.val].startT = (p.face f).doors[d.val].startT := by
  have still := (settle_kept p).1 f
  simp only [FaceRec.still, Prod.mk.injEq] at still
  exact (congrArg Door.startT (congrFun still.2.2.1 d) :)

section
variable {f : Face} {d : DoorIx} {p : Part}

/-- A door that a movement's timer makes DISCREPANT, to the end of the event, with the DOOR report that tells of it (R76, R94). -/
theorem settle_fails (why : DiscCause) (stop : Bool) (moves : (p.face f).doors[d.val].state ≠ .discrepant) :
    MadeDiscrepant f d why (settle (enterDiscrepant f d why .timer stop p)) ∧
      (settle (enterDiscrepant f d why .timer stop p)).told
        (.door f d (doorChange ((p.face f).doors[d.val].discrepant why) .timer (p.face f).berth.dwell)) := by
  obtain ⟨out, stance⟩ := enterDiscrepant_out f d p why .timer stop
  have startT := enterDiscrepant_startT (f := f) (d := d) (p := p) why .timer stop
  have told := told_settle (enterDiscrepant_told why .timer stop moves)
  generalize enterDiscrepant f d why .timer stop p = q at out stance startT told
  have settled := (stance_of_kept (settle_kept q) f d).trans stance
  refine ⟨⟨(congrArg Door.state settled :), (congrArg Door.cause settled :), (congrArg Door.order settled :),
    (congrArg Door.forced settled :), ⟨(congrArg Door.motionT settled :), (congrArg Door.lockProofT settled :),
      (congrArg Door.pauseT settled :), ?_⟩, outOfMachinery_of_arb (settle_arb q) out⟩, told⟩
  exact (settle_startT f d q).trans startT

/-- What the three timers of a movement share: the expiry stops the timer and makes the door DISCREPANT. -/
theorem expiry_fails {s : State} (settled : s.Settled) (here : s.part.present f = true) {expiry : Part → Part} {g : Door → Door}
    (same : ∀ x, (g x).state = x.state ∧ (g x).report = x.report ∧ (g x).attempts = x.attempts) (why : DiscCause) (stop : Bool)
    (fails : expiry s.part = enterDiscrepant f d why .timer stop (onDoor f d g s.part))
    (moves : (s.part.face f).doors[d.val].state ≠ .discrepant) :
    MadeDiscrepant f d why (faceEvent f expiry s).part ∧ ((faceEvent f expiry s).lossy ∨
      ∃ y, (faceEvent f expiry s).tells (.door f d y) ∧ y.state = .discrepant ∧ y.cause = some why ∧ y.change = .timer ∧
        y.report = (s.part.face f).doors[d.val].report ∧ y.attempts = (s.part.face f).doors[d.val].attempts ∧
        y.dwell = (s.part.face f).berth.dwell) := by
  have door := onDoor_self f d s.part g
  have berth : ((onDoor f d g s.part).face f).berth = (s.part.face f).berth := by unfold onDoor; rw [Part.modFace_self]; rfl
  obtain ⟨state, report, attempts⟩ := same (s.part.face f).doors[d.val]
  obtain ⟨made, told⟩ := settle_fails (f := f) (d := d) (p := onDoor f d g s.part) why stop (by rw [door, state]; exact moves)
  rw [faceEvent_eq settled here, fails]
  refine ⟨?_, (transmit_told told told).imp_right fun tells => ⟨_, tells.1, rfl, rfl, rfl, ?_, ?_, ?_⟩⟩
  · obtain ⟨state, cause, order, forced, timers, out⟩ := made
    exact ⟨by rw [transmit_face]; exact state, by rw [transmit_face]; exact cause, by rw [transmit_face]; exact order,
      by rw [transmit_face]; exact forced, by rw [transmit_face]; exact timers, outOfMachinery_of_arb (transmit_arb _) out⟩
  · rw [door]; exact report
  · rw [door]; exact attempts
  · rw [berth]; rfl

/-! ### The obstruction pause (R92, R142) -/

/-- A door that waits for its start to close, or has been granted it: its order stands. -/
structure Part.Closes (f : Face) (d : DoorIx) (o : MoveOrder) (n : Nat) (p : Part) : Prop where
  queued : ∀ e ∈ p.arb.queue, e.ref = ⟨f, d⟩ → e.action = .toClose
  state : (p.face f).doors[d.val].state.closingUp
  order : (p.face f).doors[d.val].order = some o
  attempts : (p.face f).doors[d.val].attempts = n

theorem closes_of_stance {o : MoveOrder} {n : Nat} {q : Part} (h : p.Closes f d o n)
    (queue : ∀ e ∈ q.arb.queue, e ∈ p.arb.queue) (stance : (q.face f).doors[d.val].stance = (p.face f).doors[d.val].stance) :
    q.Closes f d o n where
  queued e mem := h.queued e (queue e mem)
  state := (congrArg (fun x : Door => x.state.closingUp) stance :).mpr h.state
  order := ((congrArg Door.order stance :) : (q.face f).doors[d.val].order = _).trans h.order
  attempts := ((congrArg Door.attempts stance :) : (q.face f).doors[d.val].attempts = _).trans h.attempts

theorem closes_grantDoor {o : MoveOrder} {n : Nat} (h : p.Closes f d o n) {e : QEntry} (mem : e ∈ p.arb.queue) (codes : Codes) :
    (grantDoor e codes p).Closes f d o n := by
  have queue (b : QEntry) (inside : b ∈ (grantDoor e codes p).arb.queue) : b ∈ p.arb.queue := by
    unfold grantDoor at inside
    rw [changeDoor_arb] at inside
    exact List.mem_of_mem_filter inside
  have stance := changeDoor_door e.ref.face e.ref.door .grant (Door.granted e.action p.params.tStart codes.timeout)
    { p with arb := { queue := p.arb.queue.filter fun b => decide (b.ref ≠ e.ref), starting := p.arb.starting ++ [e.ref] } }
    ⟨f, d⟩
  unfold Part.door at stance
  split at stance
  · next own =>
    obtain ⟨ref, action, kind⟩ := e
    have own : ref = ⟨f, d⟩ := own.symm
    have closes : action = .toClose := h.queued _ mem own
    subst own closes
    rw [Part.face_mk] at stance
    exact ⟨fun b inside => h.queued b (queue b inside), .inr (congrArg Door.state stance :),
      ((congrArg Door.order stance :) : _ = (p.face f).doors[d.val].order).trans h.order,
      ((congrArg Door.attempts stance :) : _ = (p.face f).doors[d.val].attempts).trans h.attempts⟩
  · rw [Part.face_mk] at stance
    exact closes_of_stance h queue stance

theorem closes_grantEvent {o : MoveOrder} {n : Nat} (h : p.Closes f d o n) : (grantEvent p).Closes f d o n :=
  grantEvent_kept (fun _ codes _ mem k => closes_grantDoor k mem codes)
    (fun f' a ts q k => closes_of_stance k (by rw [Part.modFace_arb]; exact fun _ mem => mem)
      (q.modFace_keeps (fun r => r.doors[d.val].stance) f' f _ fun r => by rw [placeMove_doors])) h

theorem closes_settle {o : MoveOrder} {n : Nat} (h : p.Closes f d o n) : (settle p).Closes f d o n :=
  closes_of_stance h (by rw [settle_arb]; exact fun _ mem => mem) (stance_of_kept (settle_kept p) f d)

/-- A door none of whose starts is queued is queued to close. -/
theorem closes_queueClose (free : p.unqueued f d) (k : OrderKind) (t : DoorCause) :
    (queueClose f d k t p).Closes f d ⟨.toClose, if (p.face f).doors[d.val].forced then .forced else k, false⟩
      (p.face f).doors[d.val].attempts := by
  unfold queueClose; simp only [Fin.getElem_fin]
  generalize (if (p.face f).doors[d.val].forced then OrderKind.forced else k) = kind
  have stance := changeDoor_self f d p t fun x => { x.stopTimers.enter .closeQueued with order := some ⟨.toClose, kind, false⟩ }
  refine ⟨fun e mem own => ?_, ?_, ?_, ?_⟩
  · unfold joinQueue at mem
    rw [changeDoor_arb] at mem
    rcases List.mem_append.mp mem with mem | mem
    · exact absurd own (free e mem)
    · rw [List.mem_singleton.mp mem]
  all_goals
    unfold joinQueue
    rw [Part.face_mk]
  · exact .inl (congrArg Door.state stance :)
  · exact (congrArg Door.order stance :)
  · exact (congrArg Door.attempts stance :)

end

end Sys2Proof.Machine

/-! The expiries of the five door timers (R85, R87, R90, R92, R142). -/

namespace Sys2Proof.Machine

/-! ### Each timer's expiry -/

section
variable {f : Face} {d : DoorIx} {p : Part}

theorem unlockExpiry_runs (runs : (p.face f).doors[d.val].unlockT ≠ none) (state : (p.face f).doors[d.val].state = .unlocking) :
    unlockExpiry f d p = enterDiscrepant f d .unlockTimeout .timer true (onDoor f d (fun x => { x with unlockT := none }) p) := by
  have stopped := onDoor_self f d p fun x => { x with unlockT := none }
  unfold unlockExpiry; simp only [Fin.getElem_fin]
  rw [if_pos (Option.isSome_iff_ne_none.mpr runs), if_pos (by rw [stopped]; exact state)]

theorem motionExpiry_runs (runs : (p.face f).doors[d.val].motionT ≠ none)
    (state : (p.face f).doors[d.val].state = .unlocking ∨ (p.face f).doors[d.val].state = .opening ∨
      (p.face f).doors[d.val].state = .closing ∨ (p.face f).doors[d.val].state = .reopening) :
    motionExpiry f d p = enterDiscrepant f d .motionTimeout .timer true (onDoor f d (fun x => { x with motionT := none }) p) := by
  have stopped := congrArg Door.state (onDoor_self f d p fun x => { x with motionT := none })
  unfold motionExpiry; simp only [Fin.getElem_fin]
  rw [if_pos (Option.isSome_iff_ne_none.mpr runs)]
  rcases state with s | s | s | s <;> rw [stopped.trans s]

theorem lockProofExpiry_runs (runs : (p.face f).doors[d.val].lockProofT ≠ none)
    (state : (p.face f).doors[d.val].state = .proving) :
    lockProofExpiry f d p =
      enterDiscrepant f d .lockTimeout .timer false (onDoor f d (fun x => { x with lockProofT := none }) p) := by
  have stopped := onDoor_self f d p fun x => { x with lockProofT := none }
  unfold lockProofExpiry; simp only [Fin.getElem_fin]
  rw [if_pos (Option.isSome_iff_ne_none.mpr runs), if_pos (by rw [stopped]; exact state)]

/-- The obstruction pause of a REOPENING door ends: in FIRE it stands OPEN, elsewhere it is queued to close (R92, R142). -/
theorem pauseExpiry_runs (runs : (p.face f).doors[d.val].pauseT ≠ none) (state : (p.face f).doors[d.val].state = .reopening) :
    pauseExpiry f d p =
      if (p.face f).mode.mode = .fire then
        changeDoor f d .timer (fun x => x.standOpen x.partialOpen) (onDoor f d (fun x => { x with pauseT := none }) p)
      else grantEvent (queueClose f d .ordinary .timer (onDoor f d (fun x => { x with pauseT := none }) p)) := by
  have stopped := onDoor_self f d p fun x => { x with pauseT := none }
  have fire : ((onDoor f d (fun x => { x with pauseT := none }) p).face f).inFire = decide ((p.face f).mode.mode = .fire) := by
    unfold onDoor
    rw [Part.modFace_self]
    rfl
  unfold pauseExpiry; simp only [Fin.getElem_fin]
  rw [if_pos (Option.isSome_iff_ne_none.mpr runs), if_pos (by rw [stopped]; exact state), fire]
  simp only [decide_eq_true_eq]

theorem startExpiry_runs (runs : (p.face f).doors[d.val].startT ≠ none) :
    startExpiry f d p = endStart f d (onDoor f d (fun x => { x with startT := none }) p) :=
  if_pos (Option.isSome_iff_ne_none.mpr runs)

theorem unqueued_onDoor (free : p.unqueued f d) (g : Door → Door) : (onDoor f d g p).unqueued f d := by
  unfold Part.unqueued onDoor
  rw [Part.modFace_arb]
  exact free

end

end Sys2Proof.Machine

namespace Sys2Proof.Proofs

open Sys2Proof.Machine

/-- Settles O47: a failed movement's DISCREPANT door and its report outlast the grants and the end of the event; the pause's
queued close and the start phase's end go through the grant event they make. -/
theorem doorTimers : Obligations.DoorTimers := by
  refine ⟨fun f d s settled here => ?_, fun f d s settled here => ?_⟩
  · have moving {a : DoorState} (state : (s.part.face f).doors[d.val].state = a) (moves : a ≠ .discrepant) :
        (s.part.face f).doors[d.val].state ≠ .discrepant := state ▸ moves
    refine ⟨fun stopped => ?_, fun runs state => ⟨_, rfl, ?_⟩, fun stopped => ?_, fun runs state => ⟨_, rfl, ?_⟩,
      fun stopped => ?_, fun runs state => ⟨_, rfl, ?_⟩⟩
    · exact congrArg _ (faceEvent_still settled here (if_neg (by rw [stopped]; nofun)))
    · exact expiry_fails settled here (g := fun x => { x with unlockT := none }) (fun _ => ⟨rfl, rfl, rfl⟩) _ _
        (unlockExpiry_runs runs state) (moving state nofun)
    · exact congrArg _ (faceEvent_still settled here (if_neg (by rw [stopped]; nofun)))
    · refine expiry_fails settled here (g := fun x => { x with motionT := none }) (fun _ => ⟨rfl, rfl, rfl⟩) _ _
        (motionExpiry_runs runs state) ?_
      rcases state with state | state | state | state <;> exact moving state nofun
    · exact congrArg _ (faceEvent_still settled here (if_neg (by rw [stopped]; nofun)))
    · exact expiry_fails settled here (g := fun x => { x with lockProofT := none }) (fun _ => ⟨rfl, rfl, rfl⟩) _ _
        (lockProofExpiry_runs runs state) (moving state nofun)
  · refine ⟨fun stopped => ?_, fun stopped => ?_, fun free => ⟨fun runs state away => ⟨_, rfl, ?_⟩,
      fun runs state fire => ⟨_, rfl, ?_⟩, fun runs starts => ⟨_, rfl, ?_⟩⟩⟩
    · exact congrArg _ (faceEvent_still settled here (if_neg (by rw [stopped]; nofun)))
    · exact congrArg _ (faceEvent_still settled here (if_neg (by rw [stopped]; nofun)))
    · have stopped := onDoor_self f d s.part fun x => { x with pauseT := none }
      have closes := closes_settle (closes_grantEvent (closes_queueClose
        (unqueued_onDoor free fun x => { x with pauseT := none }) .ordinary .timer))
      rw [stopped] at closes
      rw [faceEvent_eq settled here, pauseExpiry_runs runs state, if_neg away]
      refine ⟨?_, ?_⟩
      · rw [transmit_face]; exact closes.state
      · rw [transmit_face]; exact closes.order
    · have stopped := onDoor_self f d s.part fun x => { x with pauseT := none }
      have stance := changeDoor_self f d (onDoor f d (fun x => { x with pauseT := none }) s.part) .timer
        fun x => x.standOpen x.partialOpen
      rw [stopped] at stance
      have opened := (stance_of_kept (settle_kept (changeDoor f d .timer (fun x => x.standOpen x.partialOpen)
        (onDoor f d (fun x => { x with pauseT := none }) s.part))) f d).trans stance
      rw [faceEvent_eq settled here, pauseExpiry_runs runs state, if_pos fire]
      refine ⟨?_, ?_, ?_⟩
      · rw [transmit_face]; exact (congrArg Door.state opened :)
      · rw [transmit_face]; exact (congrArg Door.partialOpen opened :)
      · rw [transmit_face]; exact (congrArg Door.pauseT opened :)
    · have stopped := onDoor_self f d s.part fun x => { x with startT := none }
      obtain ⟨out, stance⟩ := endStart_out (unqueued_onDoor free fun x => { x with startT := none })
      have startT := endStart_startT (unqueued_onDoor free fun x => { x with startT := none }) (.inr (by rw [stopped]))
      rw [stopped] at stance
      rw [faceEvent_eq settled here, startExpiry_runs runs]
      generalize endStart f d (onDoor f d (fun x => { x with startT := none }) s.part) = q at out stance startT
      have ended := (stance_of_kept (settle_kept q) f d).trans stance
      refine ⟨?_, ?_, ?_⟩
      · rw [transmit_arb, settle_arb]; exact out.2
      · rw [transmit_face]; exact (settle_startT f d q).trans startT
      · rw [transmit_face]; exact (congrArg Door.state ended :)

end Sys2Proof.Proofs

/-! The requests for one door: DOOR_ISOLATE, DOOR_READMIT and DOOR_RESTORE (R82, R95, R138). -/

namespace Sys2Proof.Machine

/-! ### The checks of R82 -/

section
variable {r : FaceRec} {d : DoorIx}

theorem doorCheck_absent (absent : r.configured d = false) : doorCheck r (byteOf d) = .error (badValue 255) := by
  have out : ¬ d.val < r.n := by simpa [FaceRec.configured] using absent
  have byte := byteOf_toNat (show d.val < 256 by omega)
  unfold doorCheck
  rw [byte, dif_pos d.isLt, if_neg out]

theorem doorCheck_set (set : r.configured d = true) :
    doorCheck r (byteOf d) = if r.enumerating then .error (.plain .busy) else .ok d := by
  have inside : d.val < r.n := by simpa [FaceRec.configured] using set
  have byte := byteOf_toNat (show d.val < 256 by omega)
  unfold doorCheck
  simp only [byte, d.isLt, inside, dite_true, if_true, Fin.eta]

theorem doorCheck_busy (set : r.configured d = true) (busy : r.enumerating = true) :
    doorCheck r (byteOf d) = .error (.plain .busy) := by rw [doorCheck_set set, if_pos busy]

theorem doorCheck_passed (set : r.configured d = true) (idle : r.enumerating = false) :
    doorCheck r (byteOf d) = .ok d := by rw [doorCheck_set set, if_neg (by rw [idle]; nofun)]

end

/-! ### A request for a door, served -/

section
variable {s : State} {f : Face} {d : DoorIx} {tag : Byte}

/-- A door request that the door table refuses changes nothing. -/
theorem doorRequest_refused (free : s.HostFree) (settled : ∀ f, (s.part.face f).Settled) {k : ReqKind} {result : Result}
    {a : Byte} (notDone : result ≠ .done) (served : serve k tag [faceCode f, byteOf d] s.part = .of (⟨result, a, 0⟩, s.part)) :
    Unchanged (requestOf k tag [faceCode f, byteOf d]) k tag result a s :=
  unchanged_of_refused free settled notDone served

theorem serve_doorRestore (here : s.part.present f = true) {x : Answer × Part} (e : doorRestore f (byteOf d) s.part = x) :
    serve .doorRestore tag [faceCode f, byteOf d] s.part = .of x :=
  (serve_face rfl rfl rfl rfl here).trans (congrArg Served.of e)

theorem serve_doorIsolate (here : s.part.present f = true) {x : Answer × Part} (e : doorIsolate f (byteOf d) s.part = x) :
    serve .doorIsolate tag [faceCode f, byteOf d] s.part = .of x :=
  (serve_face rfl rfl rfl rfl here).trans (congrArg Served.of e)

theorem serve_doorReadmit (here : s.part.present f = true) {x : Answer × Part} (e : doorReadmit f (byteOf d) s.part = x) :
    serve .doorReadmit tag [faceCode f, byteOf d] s.part = .of x :=
  (serve_face rfl rfl rfl rfl here).trans (congrArg Served.of e)

end

/-! ### The end of an event that finds no operation due to end and no MOVE or STOP frame to send -/

/-- A free line of a RUNNING link has no STOP and no MOVE frame to send. -/
def FaceRec.carriesNone (r : FaceRec) : Prop :=
  r.link.line = .idle → r.link.state = .running → r.link.stopFrame = [] ∧ r.link.moveQ = []

theorem FaceRec.Settled.carriesNone {r : FaceRec} (h : r.Settled) : r.carriesNone := by
  intro idle running
  obtain ⟨_, _, due⟩ := h.line idle
  obtain ⟨_, stop, move, _⟩ := due running
  exact ⟨stop, move⟩

/-- A face with the records of its doors, its operation and no MOVE or STOP frame that a free line could send. -/
def FaceRec.Unmoved (ds : Vector Door 24) (op : Option Op) (r : FaceRec) : Prop :=
  r.doors = ds ∧ r.op = op ∧ r.carriesNone

theorem sendPoll_unmoved {ds : Vector Door 24} {op : Option Op} {r : FaceRec} (h : r.Unmoved ds op) :
    (sendPoll r).Unmoved ds op := by
  obtain ⟨doors, same, _⟩ := h
  unfold sendPoll; simp only
  split <;> exact ⟨doors, same, nofun⟩

theorem sendCue_unmoved {ds : Vector Door 24} {op : Option Op} {r : FaceRec} (h : r.Unmoved ds op) (c : Cue) :
    (sendCue c r).Unmoved ds op := by
  obtain ⟨doors, same, _⟩ := h
  have cued := foldl_keeps (fun r : FaceRec => (r.doors, r.op))
    (fun (r : FaceRec) d => r.modHealth d fun h => { h with lastCue := some c, pendingCue := none }) (fun _ _ => rfl)
    (allDoors.filter fun d => decide (r.cuePending d = some c)) r
  exact ⟨(congrArg Prod.fst cued :).trans doors, (congrArg Prod.snd cued :).trans same, nofun⟩

theorem linkPump_unmoved {ds : Vector Door 24} {op : Option Op} {r : FaceRec} (h : r.Unmoved ds op) :
    (linkPump r).Unmoved ds op := by
  have poll := sendPoll_unmoved h
  obtain ⟨doors, same, carries⟩ := id h
  unfold linkPump
  split
  · next idle =>
    split
    · next running =>
      obtain ⟨stop, move⟩ := carries idle running
      unfold opportunity; simp only [stop, move, List.isEmpty_nil, Bool.not_true, Bool.false_eq_true, if_false]
      repeat' split
      · exact poll
      · next c => cases c
      · exact ⟨doors, same, nofun⟩
      · exact sendCue_unmoved h _
      · exact ⟨doors, same, nofun⟩
      · exact poll
      · exact h
    · exact ⟨doors, same, nofun⟩
    · exact ⟨doors, same, nofun⟩
    all_goals exact h
  · exact h

theorem gapUpdate_view {α : Type} (v : FaceRec → α) (gap : ∀ r g, v (r.modGap g) = v r)
    (alarm : ∀ r a, v (r.modMode fun m => { m with alarm := a }) = v r) (secured : ∀ r b, v { r with secured := b } = v r)
    (f : Face) (p : Part) : v ((gapUpdate f p).face f) = v (p.face f) := by
  unfold gapUpdate; simp only
  rw [Part.modFace_self]
  refine (gap _ _).trans ?_
  split
  · exact gapTo_view v (fun r _ => gap r _) alarm secured ..
  · rfl

theorem handoverCheck_view {α : Type} (v : FaceRec → α) (mode : ∀ r g, v (r.modMode g) = v r)
    (notice : ∀ r, v r.dropNotice = v r) (f : Face) (p : Part) : v ((handoverCheck f p).face f) = v (p.face f) := by
  unfold handoverCheck grantHandover queueModeReport; simp only
  split
  · rw [queueReport_face]
    exact p.modFace_keeps v f f _ fun _ => (notice _).trans (mode _ _)
  · rfl

/-- The end of such an event leaves every door record of the face as it finds it. -/
theorem settle_doors_quiet {f : Face} {p : Part} (quiet : (p.face f).quiet) (carries : (p.face f).carriesNone) :
    ((settle p).face f).doors = (p.face f).doors := by
  refine And.left (settle_face (FaceRec.Unmoved (p.face f).doors (p.face f).op) f (fun q h => ?_) (fun _ => linkPump_unmoved)
    ⟨rfl, rfl, carries⟩)
  obtain ⟨doors, op, carries⟩ := h
  have calm : (q.face f).quiet := by unfold FaceRec.quiet; rw [op]; exact quiet
  have view : (fun r : FaceRec => (r.doors, r.op, r.link)) ((settleFace f q).face f) =
      ((q.face f).doors, (q.face f).op, (q.face f).link) := by
    show (fun r : FaceRec => (r.doors, r.op, r.link)) ((handoverCheck f (gapUpdate f (seqCheck f q))).face f) = _
    rw [seqCheck_quiet calm]
    refine (handoverCheck_view (fun r => (r.doors, r.op, r.link)) (fun _ _ => rfl) (fun _ => rfl) f _).trans ?_
    exact gapUpdate_view (fun r => (r.doors, r.op, r.link)) (fun _ _ => rfl) (fun _ _ => rfl) (fun _ _ => rfl) f q
  simp only [Prod.mk.injEq] at view
  obtain ⟨sameDoors, sameOp, link⟩ := view
  exact ⟨sameDoors.trans doors, sameOp.trans op, by unfold FaceRec.carriesNone; rw [link]; exact carries⟩

/-! ### DOOR_ISOLATE and DOOR_READMIT (R82) -/

section
variable {f : Face} {d : DoorIx} {p : Part}

/-- A change that leaves the door in its state reaches the face only in that door's record and cue. -/
theorem changeDoor_sameState (c : DoorCause) {g : Door → Door}
    (same : (p.face f).doors[d.val].state = (g (p.face f).doors[d.val]).state) :
    (changeDoor f d c g p).face f = chooseCue d ((p.face f).modDoor d fun _ => g (p.face f).doors[d.val]) := by
  unfold changeDoor; simp only [Fin.getElem_fin]
  rw [if_pos same, Part.modFace_self]
  split
  · rw [Part.modFace_self]
  · rw [queueReport_face, Part.modFace_self]

theorem changeDoor_mode (c : DoorCause) (g : Door → Door) :
    ((changeDoor f d c g p).face f).mode.mode = (p.face f).mode.mode := by
  obtain ⟨r, face, base⟩ := changeDoor_face f d c g p
  rw [face, chooseCue_mode]
  exact (congrArg (fun r : FaceRec => r.mode.mode) base :)

/-- A change of the host isolation, where it opens no door in FIRE (R82, R144). -/
theorem setHostIso_unfired {iso : Bool} (unfired : iso = true ∨ (p.face f).mode.mode ≠ .fire) :
    setHostIso f d iso p = changeDoor f d .request (fun x => { x with hostIso := iso }) p := by
  unfold setHostIso; simp only
  rcases unfired with isolated | away
  · subst isolated
    have stance := changeDoor_self f d p .request fun x => { x with hostIso := true }
    have state : _ = (p.face f).doors[d.val].state := (congrArg Door.state stance :)
    have source : Door.iso _ = if (p.face f).doors[d.val].keyIso then .key else .host := (congrArg Door.iso stance :)
    refine if_neg ?_
    rintro (⟨shut, entered⟩ | ⟨unisolated, _⟩)
    · exact entered (state.symm.trans shut)
    · have isolated := source.symm.trans unisolated
      split at isolated <;> cases isolated
  · exact fireDoorTest_nothing (by rw [changeDoor_mode]; exact away)

/-- What DOOR_ISOLATE and DOOR_READMIT leave, to the end of the event: the door's isolation is set, and nothing else of the
door table or the start arbiter has changed. -/
theorem settle_setHostIso (settled : (p.face f).Settled) {iso : Bool} (unfired : iso = true ∨ (p.face f).mode.mode ≠ .fire) :
    let q := settle (setHostIso f d iso p)
    (q.face f).doors[d.val].hostIso = iso ∧ (q.face f).doors[d.val].state = (p.face f).doors[d.val].state ∧
      (q.face f).doors[d.val].order = (p.face f).doors[d.val].order ∧
      (q.face f).doors[d.val].latch = (p.face f).doors[d.val].latch ∧
      (q.face f).doors[d.val].report = (p.face f).doors[d.val].report ∧ q.arb = p.arb ∧
      ∀ e : DoorIx, e ≠ d → (q.face f).doors[e.val] = (p.face f).doors[e.val] := by
  rw [setHostIso_unfired unfired]
  have stance := changeDoor_self f d p .request fun x => { x with hostIso := iso }
  have face := changeDoor_sameState (f := f) (d := d) (p := p) .request (g := fun x => { x with hostIso := iso }) rfl
  have others (e : DoorIx) (other : e ≠ d) := changeDoor_doors_other (f := f) (c := .request)
    (g := fun x => { x with hostIso := iso }) (p := p) other.symm
  have arb := changeDoor_arb f d .request (fun x => { x with hostIso := iso }) p
  generalize changeDoor f d .request (fun x => { x with hostIso := iso }) p = q at stance face others arb
  have view : ((q.face f).op, (q.face f).link) = ((p.face f).op, (p.face f).link) := by
    rw [face]
    exact chooseCue_view (fun r => (r.op, r.link)) (fun _ _ _ => rfl) (fun _ _ _ => rfl) ..
  simp only [Prod.mk.injEq] at view
  have doors := settle_doors_quiet (f := f) (p := q) (by unfold FaceRec.quiet; rw [view.1]; exact settled.op)
    (by unfold FaceRec.carriesNone; rw [view.2]; exact settled.carriesNone)
  simp only [doors]
  exact ⟨(congrArg Door.hostIso stance :), (congrArg Door.state stance :), (congrArg Door.order stance :),
    (congrArg Door.latch stance :), (congrArg Door.report stance :), (settle_arb q).trans arb, others⟩

end

end Sys2Proof.Machine

/-! DOOR_RESTORE (R95, R138): the door's state chooses between clearing the latch, the door's return to CLOSED_LOCKED, a
single-door close attempt and a refusal. -/

namespace Sys2Proof.Machine

section
variable {f : Face} {d : DoorIx} {b : Byte} {p : Part}

theorem doorRestore_error {ans : Answer} (e : doorCheck (p.face f) b = .error ans) : doorRestore f b p = (ans, p) := by
  unfold doorRestore; rw [e]

theorem doorIsolate_error {ans : Answer} (e : doorCheck (p.face f) b = .error ans) : doorIsolate f b p = (ans, p) := by
  unfold doorIsolate; rw [e]

theorem doorReadmit_error {ans : Answer} (e : doorCheck (p.face f) b = .error ans) : doorReadmit f b p = (ans, p) := by
  unfold doorReadmit; rw [e]

theorem doorReadmit_passed (ok : doorCheck (p.face f) b = .ok d) :
    doorReadmit f b p = (.plain .done, setHostIso f d false p) := by unfold doorReadmit; rw [ok]

theorem doorIsolate_rests (ok : doorCheck (p.face f) b = .ok d) (rests : (p.face f).doors[d.val].state = .closedLocked ∨
    (p.face f).doors[d.val].state = .opened ∨ (p.face f).doors[d.val].state = .obstructed ∨
      (p.face f).doors[d.val].state = .discrepant) : doorIsolate f b p = (.plain .done, setHostIso f d true p) := by
  unfold doorIsolate; simp only [ok, Fin.getElem_fin]
  rcases rests with state | state | state | state <;> rw [state]

theorem doorIsolate_moves (ok : doorCheck (p.face f) b = .ok d) (shut : (p.face f).doors[d.val].state ≠ .closedLocked)
    (opened : (p.face f).doors[d.val].state ≠ .opened) (obstructed : (p.face f).doors[d.val].state ≠ .obstructed)
    (discrepant : (p.face f).doors[d.val].state ≠ .discrepant) : doorIsolate f b p = (.plain .busy, p) := by
  unfold doorIsolate; simp only [ok, Fin.getElem_fin]

theorem doorRestore_released (ok : doorCheck (p.face f) b = .ok d) (state : (p.face f).doors[d.val].state = .released) :
    doorRestore f b p = if (p.face f).doors[d.val].restored then
      (.plain .done, fireDoorTest f d (p.face f).doors[d.val] (clearLatch f d .request .request p))
      else (badValue 255, p) := by
  unfold doorRestore; simp only [ok, Fin.getElem_fin, state]

theorem doorRestore_discrepant (ok : doorCheck (p.face f) b = .ok d) (state : (p.face f).doors[d.val].state = .discrepant) :
    doorRestore f b p = if (p.face f).doors[d.val].keyIso || (p.face f).doors[d.val].reportFaulty then (badValue 255, p)
      else if (p.face f).doors[d.val].restedShut then
        (.plain .done, fireDoorTest f d (p.face f).doors[d.val] (changeDoor f d .request Door.closeLocked p))
      else closeAttempt f d p := by
  unfold doorRestore; simp only [ok, Fin.getElem_fin, state]

theorem doorRestore_obstructed (ok : doorCheck (p.face f) b = .ok d) (state : (p.face f).doors[d.val].state = .obstructed) :
    doorRestore f b p = closeAttempt f d p := by
  unfold doorRestore; simp only [ok, Fin.getElem_fin, state]

theorem doorRestore_other (ok : doorCheck (p.face f) b = .ok d) (released : (p.face f).doors[d.val].state ≠ .released)
    (discrepant : (p.face f).doors[d.val].state ≠ .discrepant) (obstructed : (p.face f).doors[d.val].state ≠ .obstructed) :
    doorRestore f b p = (badValue 255, p) := by
  unfold doorRestore; simp only [ok, Fin.getElem_fin]

/-! ### What the latest report shows (R95) -/

theorem Door.restored_iff (x : Door) : x.restored = true ↔
    ∃ rep, x.report = some rep ∧ rep.pulled = false ∧ rep.closed = true ∧ rep.locked = true := by
  unfold Door.restored
  cases x.report <;> simp [and_assoc]

theorem Door.reportFaulty_iff (x : Door) : x.reportFaulty = true ↔ ∃ rep, x.report = some rep ∧ rep.fault ≠ .none := by
  unfold Door.reportFaulty DoorReport.faulty
  cases x.report <;> simp

theorem Door.restedShut_iff (x : Door) : x.restedShut = true ↔
    ∃ rep, x.report = some rep ∧ rep.closed = true ∧ rep.locked = true ∧ rep.motion = .idle ∧ rep.pulled = false := by
  unfold Door.restedShut DoorReport.shut
  cases x.report <;> simp [and_assoc]

/-- The door is one that R95 gives a single-door close attempt. -/
def Door.attemptsClose (x : Door) : Prop :=
  x.state = .obstructed ∨ (x.state = .discrepant ∧ x.keyIso = false ∧ ∀ rep, x.report = some rep →
    rep.fault = .none ∧ (rep.closed = false ∨ rep.locked = false ∨ rep.motion ≠ .idle ∨ rep.pulled = true))

theorem doorRestore_attempt (ok : doorCheck (p.face f) b = .ok d) (attempt : (p.face f).doors[d.val].attemptsClose) :
    doorRestore f b p = closeAttempt f d p := by
  rcases attempt with obstructed | ⟨discrepant, key, shows⟩
  · exact doorRestore_obstructed ok obstructed
  · rw [doorRestore_discrepant ok discrepant, if_neg, if_neg]
    · rw [Door.restedShut_iff]
      rintro ⟨rep, latest, closed, locked, idle, normal⟩
      obtain ⟨_, unrested⟩ := shows rep latest
      simp [closed, locked, idle, normal] at unrested
    · rw [key, Bool.false_or, Door.reportFaulty_iff]
      rintro ⟨rep, latest, fault⟩
      exact fault (shows rep latest).1

/-! ### The single-door close attempt (R95) -/

theorem closeAttempt_refused {ans : Answer} (e : closeAttemptCheck (p.face f) d = some ans) :
    closeAttempt f d p = (ans, p) := by
  unfold closeAttempt; rw [e]

/-- The part in which the close order of an attempt is given: an OBSTRUCTED door has left its operation, its attempts at 0. -/
def readyAttempt (f : Face) (d : DoorIx) (p : Part) : Part :=
  if (p.face f).doors[d].state = .obstructed then
    p.modFace f fun r => leaveOp d .obstructed (r.modDoor d fun x => { x with attempts := 0 })
  else p

theorem closeAttempt_taken (e : closeAttemptCheck (p.face f) d = none) :
    closeAttempt f d p = (.plain .accepted, grantEvent (closeOrder f d .ordinary .request (readyAttempt f d p))) := by
  unfold closeAttempt; rw [e]; rfl

theorem readyAttempt_arb : (readyAttempt f d p).arb = p.arb := by
  unfold readyAttempt
  split
  · exact Part.modFace_arb ..
  · rfl

theorem readyAttempt_mode : ((readyAttempt f d p).face f).mode = (p.face f).mode := by
  unfold readyAttempt
  split
  · rw [Part.modFace_self]; rfl
  · rfl

theorem readyAttempt_door : ((readyAttempt f d p).face f).doors[d.val] =
    { (p.face f).doors[d.val] with
      attempts := if (p.face f).doors[d.val].state = .obstructed then 0 else (p.face f).doors[d.val].attempts } := by
  unfold readyAttempt; simp only [Fin.getElem_fin]
  split
  · exact (congrArg (fun r : FaceRec => r.doors[d.val]) (Part.modFace_self ..)).trans
      ((p.face f).modDoor_doors_self d fun x => { x with attempts := 0 })
  · rfl

/-- An ORDINARY close order to a DISCREPANT or OBSTRUCTED door that is not isolated, outside FIRE (R89, R95). -/
theorem closeOrder_attempt {c : DoorCause} (away : (p.face f).mode.mode ≠ .fire) (host : (p.face f).doors[d.val].hostIso = false)
    (key : (p.face f).doors[d.val].keyIso = false)
    (stands : (p.face f).doors[d.val].state = .obstructed ∨ (p.face f).doors[d.val].state = .discrepant) :
    closeOrder f d .ordinary c p = queueClose f d .ordinary c p := by
  have allows : (p.face f).inFire = false ∧ (p.face f).doors[d.val].isolationAllows .ordinary = true ∧
      (p.face f).doors[d.val].closeFrom .ordinary = true := by
    refine ⟨decide_eq_false away, ?_, ?_⟩
    · unfold Door.isolationAllows Door.iso; simp [host, key]
    · unfold Door.closeFrom
      rcases stands with state | state <;> rw [state]
  unfold closeOrder; simp only [Fin.getElem_fin]
  rw [if_pos allows, if_neg nofun]

/-- A close attempt that is taken, to the end of the event. -/
theorem settle_closeAttempt (unqueued : p.unqueued f d) (away : (p.face f).mode.mode ≠ .fire)
    (host : (p.face f).doors[d.val].hostIso = false) (key : (p.face f).doors[d.val].keyIso = false)
    (stands : (p.face f).doors[d.val].state = .obstructed ∨ (p.face f).doors[d.val].state = .discrepant) :
    let q := settle (grantEvent (closeOrder f d .ordinary .request (readyAttempt f d p)))
    (q.face f).doors[d.val].state.closingUp ∧
      ((p.face f).doors[d.val].state = .obstructed → (q.face f).doors[d.val].attempts = 0) := by
  have door := readyAttempt_door (f := f) (d := d) (p := p)
  have queue : (readyAttempt f d p).unqueued f d := by unfold Part.unqueued; rw [readyAttempt_arb]; exact unqueued
  rw [closeOrder_attempt (by rw [readyAttempt_mode]; exact away) (by rw [door]; exact host) (by rw [door]; exact key)
    (by rw [door]; exact stands)]
  have closes := closes_settle (closes_grantEvent (closes_queueClose queue .ordinary .request))
  rw [door] at closes
  exact ⟨closes.state, fun obstructed => closes.attempts.trans (if_pos obstructed)⟩

/-! ### A door restored at once (R95, R138) -/

/-- A latch cleared outside FIRE, to the end of the event, with the RELEASE report that tells of it (R138). -/
theorem settle_clearLatch (c : ClearCause) (t : DoorCause) :
    let q := settle (clearLatch f d c t p)
    (q.face f).doors[d.val].state = .closedLocked ∧ (q.face f).doors[d.val].latch = false ∧
      (q.face f).doors[d.val].report = (p.face f).doors[d.val].report ∧
      q.told (.releaseCleared f ⟨d, c, (p.face f).mode.mode, (p.face f).berth.state, (p.face f).berth.dwell⟩) := by
  have told := queueReport_told (.releaseCleared f
    ⟨d, c, (p.face f).mode.mode, (p.face f).berth.state, (p.face f).berth.dwell⟩) p
  have face := queueReport_face (.releaseCleared f
    ⟨d, c, (p.face f).mode.mode, (p.face f).berth.state, (p.face f).berth.dwell⟩) p f
  unfold clearLatch; simp only
  generalize queueReport (.releaseCleared f
    ⟨d, c, (p.face f).mode.mode, (p.face f).berth.state, (p.face f).berth.dwell⟩) p = q at told face
  have stance := (stance_of_kept (settle_kept _) f d).trans
    (changeDoor_self f d q t fun x => { x.closeLocked with latch := false })
  rw [face] at stance
  exact ⟨(congrArg Door.state stance :), (congrArg Door.latch stance :), (congrArg Door.report stance :),
    told_settle (told_changeDoor told f d t _ nofun)⟩

theorem clearLatch_mode (c : ClearCause) (t : DoorCause) :
    ((clearLatch f d c t p).face f).mode.mode = (p.face f).mode.mode := by
  unfold clearLatch; simp only
  rw [changeDoor_mode, queueReport_face]

theorem settle_closeLocked (t : DoorCause) :
    let q := settle (changeDoor f d t Door.closeLocked p)
    (q.face f).doors[d.val].state = .closedLocked ∧ (q.face f).doors[d.val].cause = none := by
  have stance := (stance_of_kept (settle_kept _) f d).trans (changeDoor_self f d p t Door.closeLocked)
  exact ⟨(congrArg Door.state stance :), (congrArg Door.cause stance :)⟩

end

end Sys2Proof.Machine

/-! The checks of a single-door close attempt in their order (R95), and the three door requests settled. -/

namespace Sys2Proof.Machine

section
variable {r : FaceRec} {d : DoorIx}

theorem closeAttemptCheck_fire (fire : r.mode.mode = .fire) : closeAttemptCheck r d = some (.plain .fireActive) := by
  simp [closeAttemptCheck, firstFail, fire]

theorem closeAttemptCheck_handover (away : r.mode.mode ≠ .fire) (handover : r.mode.handover = true) :
    closeAttemptCheck r d = some (.plain .localPending) := by
  simp [closeAttemptCheck, firstFail, away, handover]

theorem closeAttemptCheck_local (mode : r.mode.mode = .localCtl) (handover : r.mode.handover = false) :
    closeAttemptCheck r d = some (.plain .localControl) := by
  simp [closeAttemptCheck, firstFail, mode, handover]

theorem closeAttemptCheck_wrongMode (mode : r.mode.mode = .unconfigured ∨ r.mode.mode = .standby)
    (handover : r.mode.handover = false) : closeAttemptCheck r d = some (.plain .wrongMode) := by
  rcases mode with mode | mode <;> simp [closeAttemptCheck, firstFail, mode, handover]

theorem closeAttemptCheck_isolated (mode : r.mode.mode = .auto ∨ r.mode.mode = .maint) (handover : r.mode.handover = false)
    (host : r.doors[d.val].hostIso = true) : closeAttemptCheck r d = some (badValue 255) := by
  rcases mode with mode | mode <;> simp [closeAttemptCheck, firstFail, mode, handover, host]

theorem closeAttemptCheck_passed (mode : r.mode.mode = .auto ∨ r.mode.mode = .maint) (handover : r.mode.handover = false)
    (host : r.doors[d.val].hostIso = false) (key : r.doors[d.val].keyIso = false) : closeAttemptCheck r d = none := by
  rcases mode with mode | mode <;> simp [closeAttemptCheck, firstFail, mode, handover, host, key]

end

theorem Door.attemptsClose.stands {x : Door} (h : x.attemptsClose) : x.state = .obstructed ∨ x.state = .discrepant :=
  h.imp id And.left

end Sys2Proof.Machine

namespace Sys2Proof.Proofs

open Sys2Proof.Machine

/-- Settles O45: the request checks, the door's state and the checks of the close attempt choose the branch; what each branch
leaves outlasts the end of the event. -/
theorem doorRequests : Obligations.DoorRequests := by
  intro tag f d s free settled here
  have restoreRefused {result : Result} {a : Byte} (notDone : result ≠ .done)
      (e : doorRestore f (byteOf d) s.part = (⟨result, a, 0⟩, s.part)) :=
    doorRequest_refused (k := .doorRestore) (tag := tag) free settled notDone (serve_doorRestore here e)
  have isolateRefused {result : Result} {a : Byte} (notDone : result ≠ .done)
      (e : doorIsolate f (byteOf d) s.part = (⟨result, a, 0⟩, s.part)) :=
    doorRequest_refused (k := .doorIsolate) (tag := tag) free settled notDone (serve_doorIsolate here e)
  have readmitRefused {result : Result} {a : Byte} (notDone : result ≠ .done)
      (e : doorReadmit f (byteOf d) s.part = (⟨result, a, 0⟩, s.part)) :=
    doorRequest_refused (k := .doorReadmit) (tag := tag) free settled notDone (serve_doorReadmit here e)
  have restored {ans : Answer} {q : Part} (e : doorRestore f (byteOf d) s.part = (ans, q)) :=
    exec_answered (k := .doorRestore) (code := 0xB0) free nofun rfl (serve_doorRestore (tag := tag) here e)
  refine ⟨fun absent => ?_, fun set busy => ?_, fun set idle attempt => ?_, fun set idle => ?_, fun absent => ?_,
    fun set busy => ?_, fun set idle => ?_⟩
  · exact restoreRefused nofun (doorRestore_error (doorCheck_absent absent))
  · exact restoreRefused nofun (doorRestore_error (doorCheck_busy set busy))
  · have attempted := doorRestore_attempt (doorCheck_passed set idle) attempt
    have refused {result : Result} {a : Byte} (notDone : result ≠ .done)
        (e : closeAttemptCheck (s.part.face f) d = some ⟨result, a, 0⟩) :=
      restoreRefused notDone (attempted.trans (closeAttempt_refused e))
    refine ⟨fun fire => ?_, fun away handover => ?_, fun mode clear => ?_, fun mode clear => ?_, fun mode clear host => ?_, ?_⟩
    · exact refused nofun (closeAttemptCheck_fire fire)
    · exact refused nofun (closeAttemptCheck_handover away handover)
    · exact refused nofun (closeAttemptCheck_local mode clear)
    · exact refused nofun (closeAttemptCheck_wrongMode mode clear)
    · exact refused nofun (closeAttemptCheck_isolated mode clear host)
    · rintro ⟨clear, mode, host, key, unqueued⟩
      have away : (s.part.face f).mode.mode ≠ .fire := by rcases mode with mode | mode <;> rw [mode] <;> nofun
      exact ⟨_, restored (attempted.trans (closeAttempt_taken (closeAttemptCheck_passed mode clear host key))),
        settle_closeAttempt unqueued away host key (Door.attemptsClose.stands attempt)⟩
  · have ok := doorCheck_passed set idle
    refine ⟨fun released away rep latest normal closed locked => ?_, fun released shows => ?_, fun discrepant bad => ?_,
      fun discrepant away key rep latest sound closed locked rests normal => ?_, fun released discrepant obstructed => ?_⟩
    · have fit := (Door.restored_iff _).mpr ⟨rep, latest, normal, closed, locked⟩
      have done := (doorRestore_released ok released).trans (if_pos fit)
      rw [fireDoorTest_nothing (by rw [clearLatch_mode]; exact away)] at done
      obtain ⟨state, latch, report, told⟩ := settle_clearLatch (f := f) (d := d) (p := s.part) .request .request
      exact ⟨_, restored done, state, latch, report.trans latest, told⟩
    · refine restoreRefused nofun ((doorRestore_released ok released).trans (if_neg ?_))
      rw [Door.restored_iff]
      rintro ⟨rep, latest, normal, closed, locked⟩
      simpa [normal, closed, locked] using shows rep latest
    · refine restoreRefused nofun ((doorRestore_discrepant ok discrepant).trans (if_pos ?_))
      rw [Bool.or_eq_true, Door.reportFaulty_iff]
      exact bad
    · have faultless : ¬ ((s.part.face f).doors[d.val].keyIso || (s.part.face f).doors[d.val].reportFaulty) = true := by
        rw [Bool.or_eq_true, Door.reportFaulty_iff]
        rintro (out | ⟨rep', latest', fault⟩)
        · exact Bool.false_ne_true (key.symm.trans out)
        · exact fault (Option.some.inj (latest'.symm.trans latest) ▸ sound)
      have shut := (Door.restedShut_iff _).mpr ⟨rep, latest, closed, locked, rests, normal⟩
      have done := (doorRestore_discrepant ok discrepant).trans ((if_neg faultless).trans (if_pos shut))
      rw [fireDoorTest_nothing (by rw [changeDoor_mode]; exact away)] at done
      exact ⟨_, restored done, settle_closeLocked .request⟩
    · exact restoreRefused nofun (doorRestore_other ok released discrepant obstructed)
  · have out := doorCheck_absent absent
    exact ⟨isolateRefused nofun (doorIsolate_error out), readmitRefused nofun (doorReadmit_error out)⟩
  · have out := doorCheck_busy set busy
    exact ⟨isolateRefused nofun (doorIsolate_error out), readmitRefused nofun (doorReadmit_error out)⟩
  · have ok := doorCheck_passed set idle
    refine ⟨fun rests => ?_, fun shut opened obstructed discrepant => ?_, fun away => ?_⟩
    · exact ⟨_, exec_answered (k := .doorIsolate) (code := 0xB1) free nofun rfl
        (serve_doorIsolate here (doorIsolate_rests ok rests)), settle_setHostIso (settled f) (.inl rfl)⟩
    · exact isolateRefused nofun (doorIsolate_moves ok shut opened obstructed discrepant)
    · exact ⟨_, exec_answered (k := .doorReadmit) (code := 0xB2) free nofun rfl
        (serve_doorReadmit here (doorReadmit_passed ok)), settle_setHostIso (settled f) (.inr away)⟩

end Sys2Proof.Proofs
